-- ==== Sys2Proof/Word.lean ====
section
/-! DEFINITION. The word types of the part: bytes, 32-bit words, and the widths of the bus wires (chapter 9.8). -/

namespace Sys2Proof

/-- One byte of a record, a page or a beat. -/
abbrev Byte := BitVec 8

/-- One 32-bit word: a command argument, a value word of a notice. -/
abbrev Word := BitVec 32

/-- A master ID of the upstream port, 0 to 63 (scope, Bus terms). -/
abbrev MasterId := BitVec 6

/-- A 40-bit physical address (scope, Bus terms). -/
abbrev Address := BitVec 40

end Sys2Proof
end

