-- ==== Sys2Proof/Syntax.lean ====
section
/-! DEFINITION. The commands of the block: one constructor for each row of spec/opcode_table.json, with the operands that come
from outside the part. -/

namespace Sys2Proof

/-- One byte lane of a write beat: the byte and its strobe (R20). -/
structure Lane where
  byte : Byte
  strobe : Bool
deriving DecidableEq, Repr

/-- The response status of a transfer (R20, R26, R58): good, or an error. Log entry 6. -/
inductive RespStatus where
  | good
  | error
deriving DecidableEq, Repr

/-- One transfer presented at the upstream port (R20): a read of `beats` beats, or a write whose `lanes` are sixteen a beat. -/
inductive Transfer where
  | read (master : MasterId) (addr : Address) (beats : Nat)
  | write (master : MasterId) (addr : Address) (lanes : List Lane)
deriving DecidableEq, Repr

/-- The commands. A row of the table whose event is the part's own (a dequeue, a visit, an expiry, the judgement of an offered
command) has no operand beyond the crane it is about: what it does is read from the state (R162 for the 27 commands of the
control page). Log entries 20 and 21. -/
inductive Instr where
  /-- POWER_ON_RESET: the release of RST_N with the levels on the strap pins (R159, R173). -/
  | powerOnReset (cpb : BitVec 16) (cpid : BitVec 6)
  /-- READ_TRANSFER (R23). -/
  | readTransfer (master : MasterId) (addr : Address) (beats : Nat)
  /-- WRITE_TRANSFER (R23). -/
  | writeTransfer (master : MasterId) (addr : Address) (lanes : List Lane)
  /-- RING_BASE_WRITE: a write transfer into the eight bytes of the ring base word (R150). -/
  | ringBaseWrite (master : MasterId) (lanes : List Lane)
  /-- RING_LENGTH_WRITE: a write transfer into the four bytes of the ring length word (R150). -/
  | ringLengthWrite (master : MasterId) (lanes : List Lane)
  /-- CONSUMER_INDEX_WRITE: a write transfer into the four bytes of the consumer index word (R153). -/
  | consumerIndexWrite (master : MasterId) (lanes : List Lane)
  /-- CONTROL_PAGE_WRITE: a write transfer into the command record and tag word, from page offset 16 × `beat` (R160). -/
  | controlPageWrite (master : MasterId) (beat : Nat) (lanes : List Lane)
  /-- FORWARD_DOWNSTREAM (R40). -/
  | forwardDownstream
  /-- OWN_WRITE_ISSUE (R40). -/
  | ownWriteIssue
  /-- HELD_WRITE_JOIN (R39). -/
  | heldWriteJoin
  /-- OWN_WRITE_RESPONSE to the transfer at place `which` of the transfers in flight (R40). -/
  | ownWriteResponse (which : Nat) (status : RespStatus)
  /-- READ_DATA_RETURN for the transfer at place `which` of the transfers in flight, with the bytes DRAM gives (R62). -/
  | readDataReturn (which : Nat) (status : RespStatus) (data : List Byte)
  /-- WRITE_RESPONSE to the transfer at place `which` of the transfers in flight (R20). -/
  | writeResponse (which : Nat) (status : RespStatus)
  /-- SLEW_STEP (R12). -/
  | slewStep
  /-- TIME_RECORD_DEQUEUE (R4). -/
  | timeRecordDequeue
  /-- HOLDOVER_EXPIRY (R13). -/
  | holdoverExpiry
  /-- UPLINK_RECORD_DEQUEUE (R75). -/
  | uplinkRecordDequeue
  /-- HEARTBEAT_EXPIRY of one crane (R83). -/
  | heartbeatExpiry (crane : Fin 16)
  /-- SLOT_EXPIRY of the slot at the head of one crane's pending list (R56). -/
  | slotExpiry (crane : Fin 16)
  /-- MEASUREMENT_RECORD_DEQUEUE (R103). -/
  | measurementRecordDequeue
  /-- AGING_PASS_START (R101). -/
  | agingPassStart
  /-- AGING_VISIT (R102). -/
  | agingVisit
  /-- CLEAR_GRID_VISIT (R107). -/
  | clearGridVisit
  /-- REEFER_REPORT_DEQUEUE (R120). -/
  | reeferReportDequeue
  /-- SILENCE_SWEEP_START (R126). -/
  | silenceSweepStart
  /-- SWEEP_VISIT (R127). -/
  | sweepVisit
  /-- NOTICE_POST (R152). -/
  | noticePost
  /-- REFRESH_VISIT (R166). -/
  | refreshVisit
  /-- LONG_OPERATION_END (R164). -/
  | longOperationEnd
  /-- BUSY_REFUSAL (R165). -/
  | busyRefusal
  /-- UNKNOWN_COMMAND (R162). -/
  | unknownCommand
  /-- DEFINE_WINDOW, code 1 (R27). -/
  | defineWindow
  /-- DELETE_WINDOW, code 2 (R30). -/
  | deleteWindow
  /-- LOCK_WINDOW, code 3 (R31). -/
  | lockWindow
  /-- UNLOCK_WINDOW, code 4 (R32). -/
  | unlockWindow
  /-- ATTACH_CRANE, code 5 (R72). -/
  | attachCrane
  /-- DETACH_CRANE, code 6 (R74). -/
  | detachCrane
  /-- SET_CRANE_PARAMETERS, code 7 (R73). -/
  | setCraneParameters
  /-- HOLD_CRANE, code 8 (R64). -/
  | holdCrane
  /-- RELEASE_CRANE, code 9 (R65). -/
  | releaseCrane
  /-- SET_CELL, code 10 (R93). -/
  | setCell
  /-- CLEAR_CELL, code 11 (R94). -/
  | clearCell
  /-- SET_COVERAGE_PARAMETERS, code 12 (R106). -/
  | setCoverageParameters
  /-- CLEAR_GRID, code 13 (R107). -/
  | clearGrid
  /-- SET_CRITERIA, code 14 (R116). -/
  | setCriteria
  /-- ENROL_REEFER, code 15 (R117). -/
  | enrolReefer
  /-- REMOVE_REEFER, code 16 (R119). -/
  | removeReefer
  /-- SET_ENROLMENT_MODE, code 17 (R118). -/
  | setEnrolmentMode
  /-- REFRESH_MIRROR, code 18 (R166). -/
  | refreshMirror
  /-- SET_TIME_PARAMETERS, code 19 (R14). -/
  | setTimeParameters
  /-- START_TIME, code 20 (R15). -/
  | startTime
  /-- STOP_TIME, code 21 (R16). -/
  | stopTime
  /-- SET_NOTICE_ENABLES, code 22 (R147). -/
  | setNoticeEnables
  /-- SET_IRQ_ENABLES, code 23 (R156). -/
  | setIrqEnables
  /-- CLEAR_FLAGS, code 24 (R155). -/
  | clearFlags
  /-- READ_COUNTERS, code 25 (R169). -/
  | readCounters
  /-- CLEAR_COUNTERS, code 26 (R170). -/
  | clearCounters
  /-- RESTART, code 27 (R168). -/
  | restart
  /-- LOCAL_TIME_ADVANCE (R1). -/
  | localTimeAdvance
  /-- RESET_ASSERTION (R173). -/
  | resetAssertion
  /-- OFFER_JUDGEMENT of a tag copy equal to the last taken tag (R161). -/
  | offerJudgement
deriving DecidableEq, Repr

end Sys2Proof
end

