-- ==== Sys2Proof/Decode.lean ====
section
/-! DEFINITION. The decoder over the rows of spec/opcode_table.json that give bits. No row of this block's table does. -/

namespace Sys2Proof

/-- The command that a word spells by the table's bits: none, since no row of the table gives bits. Log entry 32. -/
def decodeTableWord (_nbits _w : Nat) : Option Instr := none

end Sys2Proof
end

