-- ==== Sys2Proof/Config.lean ====
section
/-! DEFINITION. The values that the spec does not fix: free values without a body, so that no proof can lean on one. -/

namespace Sys2Proof

/-- A value word of a crane notice that its rule takes from a field the crane does not hold (R87: the current square of LINK_UP and
RECOVERED, the previous used arrival of LINK_LOST). R87 states no value for an absent field, and no run from reset reaches one. The
arguments are the crane index and the local time. Log entry 16. -/
opaque Config.unstatedWord : Nat → Nat → BitVec 32

/-- Whether a job unit has the oldest record of its queue in hand when a RESTART is taken, so that RESTART is taken before the
record is handled (R19, R91, R111, R131 allow either order and give no rule for the choice). The arguments are the number of RESTARTs
taken before this one and the unit: 0 uplink, 1 measurement, 2 reefer, 3 time. Log entry 33. -/
opaque Config.recordInHand : Nat → Nat → Bool

end Sys2Proof
end

