-- ==== Sys2Proof/Machine/Bytes.lean ====
section
/-! DEFINITION. Byte orders, two's complement, saturation, truncating division and the check word: the arithmetic that several
chapters share (scope, Conventions; R47; R177). -/

namespace Sys2Proof.Machine

/-- A field whose least significant byte comes first (R177: the part's own records and the control page). -/
def leNat : List Byte → Nat
  | [] => 0
  | b :: rest => b.toNat + 256 * leNat rest

/-- A field whose most significant byte comes first (R177: radio records). -/
def beNat (l : List Byte) : Nat := leNat l.reverse

/-- `k` bytes of `v`, least significant first. -/
def leBytes : Nat → Nat → List Byte
  | 0, _ => []
  | k + 1, v => BitVec.ofNat 8 v :: leBytes k (v / 256)

/-- `k` bytes of `v`, most significant first. -/
def beBytes (k v : Nat) : List Byte := (leBytes k v).reverse

/-- The two's complement reading of a field of `bits` bits (R177). -/
def signed (bits v : Nat) : Int := if v < 2 ^ (bits - 1) then (v : Int) else (v : Int) - 2 ^ bits

/-- The two's complement field of `bits` bits that holds `i` (R177). -/
def unsigned (bits : Nat) (i : Int) : Nat := (i % (2 ^ bits : Int)).toNat

/-- A value word of an unsigned value: its low 32 bits. -/
def word (n : Nat) : Word := BitVec.ofNat 32 n

/-- A value word of a signed value, sign-extended (R177). -/
def wordI (i : Int) : Word := BitVec.ofInt 32 i

/-- The field of `len` bytes at `off` of a radio record (R181). -/
def field (r : List Byte) (off len : Nat) : Nat := beNat ((r.drop off).take len)

/-- A signed 16-bit field of a radio record (R181). -/
def field16s (r : List Byte) (off : Nat) : Int := signed 16 (field r off 2)

/-- The maximum of a 32-bit counter. -/
def counterMax : Nat := 4294967295

/-- A 32-bit counter increased by `k`, saturating (scope, Arithmetic). -/
def satAdd (n k : Nat) : Nat := min (n + k) counterMax

/-- Held to a range. -/
def clamp (lo hi x : Int) : Int := max lo (min hi x)

/-- Held to the signed 64-bit range (R7). -/
def clamp64 (x : Int) : Int := clamp (-9223372036854775808) 9223372036854775807 x

/-- Held to the signed 32-bit range (R11). -/
def clamp32 (x : Int) : Int := clamp (-2147483648) 2147483647 x

/-- The increment of a filter step: the difference divided by 2^shift and truncated toward zero, under the at-least-one rule
(scope, Arithmetic). -/
def filterStep (d : Int) (shift : Nat) : Int :=
  let q := Int.tdiv d (2 ^ shift)
  if q = 0 then d.sign else q

/-- The difference of two 16-bit sequence numbers, modulo 65536 (scope, Sequence order). -/
def seqDiff (sequence expected : Nat) : Nat := (sequence + 65536 - expected % 65536) % 65536

/-- One shift of the check word register (R47). -/
def crcShift (r : BitVec 16) : BitVec 16 := if r.msb then (r <<< 1) ^^^ 0x1021#16 else r <<< 1

/-- One byte taken into the check word register (R47). -/
def crcByte (r : BitVec 16) (b : Byte) : BitVec 16 :=
  Nat.repeat crcShift 8 (r ^^^ (b.setWidth 16 <<< 8))

/-- The check word of a list of bytes (R47). -/
def checkWord (l : List Byte) : Nat := (l.foldl crcByte 0xFFFF#16).toNat

/-- The check word of a 16-byte header matches its first 14 bytes (R49, R76). -/
def checkWordGood (header : List Byte) : Bool := checkWord (header.take 14) == field header 14 2

/-- The byte that lanes starting at `addr` write at address `a`, if they write one (R20). -/
def writtenByte (addr : Nat) (lanes : List Lane) (a : Nat) : Option Byte :=
  if a < addr then none
  else match lanes[a - addr]? with
    | some l => if l.strobe then some l.byte else none
    | none => none

/-- A transfer's lanes write at least one byte of the `len` bytes at `start`. -/
def writesAny (addr : Nat) (lanes : List Lane) (start len : Nat) : Bool :=
  (List.range len).any fun i => (writtenByte addr lanes (start + i)).isSome

/-- A copy of an area of the page, updated byte by byte by a forwarded write (R150, R160): a byte whose strobe is clear leaves its
copy byte as it was. -/
def overlay {n : Nat} (copy : Vector Byte n) (start addr : Nat) (lanes : List Lane) : Vector Byte n :=
  Vector.ofFn fun i => (writtenByte addr lanes (start + i.val)).getD copy[i]

end Sys2Proof.Machine
end

