-- ==== Sys2Proof/Machine/State.lean ====
section
/-! DEFINITION. Every piece of state the spec gives the Nolta 3410, as plain data, block by block (scope, Block overview), and
the machine right after reset. -/

namespace Sys2Proof.Machine

/-! ## Outcomes -/

/-- No event of the spec stops the part: it raises flags and notices, refuses commands with a result code, and goes on. The type
of faults is therefore empty (INVENTORY.md, Faults). -/
inductive Fault where
deriving DecidableEq, Repr

/-- Why the model gives a command no meaning. -/
inductive Refusal where
  /-- Raised by `exec` for a command that has no meaning yet. Safe: nothing is claimed of it. -/
  | notModelled (mnemonic : String)
deriving DecidableEq, Repr

/-! ## Time Base (chapter 1) -/

/-- R15, R16. -/
inductive RunState where
  | stopped
  | running
deriving DecidableEq, Repr

/-- R3; also the quality of a stamp (R2). -/
inductive SyncState where
  | unset
  | synced
  | holdover
deriving DecidableEq, Repr

/-- A terminal time value with its quality (R2). -/
structure Stamp where
  value : BitVec 64
  quality : SyncState
deriving DecidableEq, Repr

/-- The mark capture (R5). -/
structure Capture where
  mark : Nat
  ltm : Nat
deriving DecidableEq, Repr

/-- R18. -/
structure TimeBase where
  /-- Local time LT, a 48-bit count of microseconds (R1). -/
  lt : Nat
  run : RunState
  sync : SyncState
  /-- Current offset OC, signed 64-bit (R7). -/
  oc : Int
  /-- Pending slew S, signed 64-bit (R7, R12). -/
  slew : Int
  /-- TL, the master mark time of the last accepted VALUE (R9). -/
  tl : Option Nat
  capture : Option Capture
  lastSuccess : Option Nat
  /-- Sync interval I in ms (R14). -/
  interval : Nat
  /-- Link delay DL in µs (R14). -/
  linkDelay : Nat
  /-- Step threshold H in µs (R14). -/
  threshold : Nat
  continuity : Bool
deriving DecidableEq, Repr

/-! ## Window Matcher and Record Intake (chapter 2) -/

/-- The ten kinds of R22. -/
inductive WindowKind where
  | craneDown
  | craneUp
  | reeferIn
  | measureIn
  | timeIn
  | noticeRing
  | reeferMirror
  | gridMirror
  | craneMirror
  | guarded
deriving DecidableEq, Repr

/-- R21. -/
inductive LockLevel where
  | openLevel
  | locked
  | tight
deriving DecidableEq, Repr

/-- One window table entry (R21). -/
structure Window where
  inUse : Bool
  kind : Option WindowKind
  base : Nat
  size : Nat
  slotSize : Option Nat
  crane : Option (Fin 16)
  /-- The writer set: bit m is master m. -/
  writers : BitVec 64
  lock : LockLevel
  taken : Nat
  missed : Nat
  torn : Nat
  blocked : Nat
deriving DecidableEq, Repr

/-- The cleared values of R21. -/
def Window.cleared : Window :=
  { inUse := false, kind := none, base := 0, size := 0, slotSize := none, crane := none, writers := 0,
    lock := .openLevel, taken := 0, missed := 0, torn := 0, blocked := 0 }

/-- One intake queue entry (R34). -/
structure QueueEntry where
  bytes : List Byte
  arrival : Nat
  window : Fin 32
  crane : Option (Fin 16)
  counted : Bool
deriving DecidableEq, Repr

/-- The four intake queues, oldest first (R34). -/
structure Intake where
  uplink : List QueueEntry
  reefer : List QueueEntry
  measure : List QueueEntry
  time : List QueueEntry
deriving DecidableEq, Repr

/-! ## Downstream Arbiter (2.8) and the ports -/

/-- The work whose next step waits while an own write that it handed is held (R39). `other` stands for the events that R39 lets
go on. -/
inductive Work where
  | timeJob
  | uplinkJob
  | measureJob
  | reeferJob
  | agingPass
  | silenceSweep
  | longOperation
  | command
  | noticePost
  | other
deriving DecidableEq, Repr

/-- An own write (R39): every strobe set, master ID 64. -/
structure OwnWrite where
  addr : Nat
  data : List Byte
deriving DecidableEq, Repr

/-- An own write that waits for a place in the queue, with the work that handed it (R39). -/
structure HeldWrite where
  write : OwnWrite
  work : Work
deriving DecidableEq, Repr

/-- What is done with one beat of read data when it returns (R61, R62). -/
inductive BeatPlan where
  /-- As DRAM gives it. -/
  | pass
  /-- The HOLD frame built at the read in its place. -/
  | hold (frame : List Byte)
  /-- 16 bytes of 0 in its place. -/
  | zero
deriving DecidableEq, Repr

/-- A transfer forwarded by the Window Matcher (R20). -/
inductive Passing where
  | read (master : MasterId) (addr : Address) (plan : List BeatPlan)
  | write (master : MasterId) (addr : Address) (lanes : List Lane)
deriving DecidableEq, Repr

/-- A transfer that left the downstream port and awaits its response (R40). -/
inductive Flight where
  | passing (t : Passing)
  | own (w : OwnWrite)
deriving DecidableEq, Repr

structure Arbiter where
  /-- Passing transfers that wait for the downstream port, oldest first (R40). -/
  passing : List Passing
  /-- The own-write queue of 64, oldest first (R39). -/
  own : List OwnWrite
  /-- Own writes held by their blocks, in the order handed (R39). -/
  held : List HeldWrite
  /-- A full queue has let one own write out ahead of the oldest passing transfer (R40). Log entry 24. -/
  letOut : Bool
  /-- Transfers sent downstream, responses awaited, in the order sent. -/
  inFlight : List Flight
deriving DecidableEq, Repr

/-- A response at the upstream port (R20). -/
inductive UpResponse where
  | read (master : MasterId) (status : RespStatus) (data : List Byte)
  | write (master : MasterId) (status : RespStatus)
deriving DecidableEq, Repr

structure UpstreamPort where
  /-- Transfers presented while RST_N is asserted, which wait for its release (R173). -/
  waiting : List Transfer
  /-- The model's own: the responses given upstream since power-on, oldest first. Log entry 25. -/
  responses : List UpResponse
deriving DecidableEq, Repr

/-! ## Crane contexts (chapters 3 and 4) -/

/-- R71. -/
inductive LinkState where
  | dormant
  | lost
  | linked
  | degraded
deriving DecidableEq, Repr

/-- R75. -/
inductive UplinkOutcome where
  | good
  | cadence
  | missing
  | sequence
  | check
  | framing
deriving DecidableEq, Repr

/-- The eight parameters of R72. -/
structure CraneParams where
  craneId : Nat
  cadence : Nat
  early : Nat
  heartbeat : Nat
  recover : Nat
  degrade : Nat
  cap : Nat
  segmentLength : Nat
deriving DecidableEq, Repr

/-- R45. -/
inductive SlotFault where
  | check
  | sequence
  | validity
  | torn
  | framing
deriving DecidableEq, Repr

/-- R45; the fault reason is present only while FAULTED. -/
inductive SlotState where
  | empty
  | pending
  | sent
  | expired
  | faulted (reason : SlotFault)
deriving DecidableEq, Repr

/-- R45. -/
inductive Verdict where
  | pass
  | hold
deriving DecidableEq, Repr

/-- One slot record (R45). -/
structure Slot where
  state : SlotState
  sequence : Nat
  writeTime : Nat
  deadline : Nat
  lastVerdict : Verdict
  /-- The place, among the crane's header-beat writes, of the one that last made the slot PENDING: the order R55 breaks ties
  by. Log entry 11. -/
  madeNo : Nat
deriving DecidableEq, Repr

/-- The setup value of a slot record (R45). -/
def Slot.setup : Slot :=
  { state := .empty, sequence := 0, writeTime := 0, deadline := 0, lastVerdict := .hold, madeNo := 0 }

/-- A crane context (R70) with the downlink state of R46. -/
structure Crane where
  link : LinkState
  holdFlag : Bool
  params : CraneParams
  /-- The uplink expected sequence (R77). -/
  expected : Option Nat
  prevArrival : Option Nat
  /-- The error window, oldest first (R80). -/
  errors : List UplinkOutcome
  goodCount : Nat
  /-- The heartbeat timer's expiry local time, none while stopped (R83). -/
  heartbeat : Option Nat
  square : Option (Fin 512)
  positionRange : Bool
  serving : Nat
  level : Option Int
  /-- The steer holdoff's end local time, none when run out (R88). -/
  steerHoldoff : Option Nat
  lastHeard : Option Stamp
  heldReads : Nat
  overwrites : Nat
  unsent : Nat
  /-- The slot table, present while the crane's CRANE_DOWN window is in use (R44). -/
  slots : Option (List Slot)
  /-- The downlink expected sequence (R51). -/
  downExpected : Option Nat
  /-- The pending list: slot numbers, earliest deadline first (R55). -/
  pendingSlots : List Nat
  lastPassed : Option Nat
  lastCraneVerdict : Verdict
  /-- How many header-beat writes have made a slot PENDING since the slot table's setup (R55). Log entry 11. -/
  madeCount : Nat
deriving DecidableEq, Repr

/-- The cleared values of R70 and R46. Log entry 17 for the parameters. -/
def Crane.cleared : Crane :=
  { link := .dormant, holdFlag := false,
    params := { craneId := 0, cadence := 0, early := 0, heartbeat := 0, recover := 0, degrade := 0, cap := 0,
                segmentLength := 0 },
    expected := none, prevArrival := none, errors := [], goodCount := 0, heartbeat := none, square := none,
    positionRange := false, serving := 0, level := none, steerHoldoff := none, lastHeard := none, heldReads := 0,
    overwrites := 0, unsent := 0, slots := none, downExpected := none, pendingSlots := [], lastPassed := none,
    lastCraneVerdict := .pass, madeCount := 0 }

/-! ## Coverage Grid (chapter 5) -/

/-- One cell's entry in one square (R95): E in 1/16 dB and the update local time. -/
inductive CellEntry where
  | absent
  | fresh (estimate : Int) (updated : Nat)
  | stale (estimate : Int) (updated : Nat)
deriving DecidableEq, Repr

/-- R96. -/
inductive SquareState where
  | unknown
  | covered
  | marginal
  | hole
deriving DecidableEq, Repr

/-- One square: its entries and its summary (R95, R96). -/
structure Square where
  entries : Vector CellEntry 24
  state : SquareState
  best : Option (Fin 24)
  bestEstimate : Option Int
  lastChange : Option Stamp
deriving DecidableEq, Repr

/-- R106. -/
structure CoverageParams where
  holeEnter : Int
  holeExit : Int
  marginalEnter : Int
  marginalExit : Int
  ageLimit : Nat
  steerMargin : Nat
  steerHoldoff : Nat
  segmentCount : Nat
deriving DecidableEq, Repr

/-- A paced pass over a table: the aging pass (R101) and the silence sweep (R126). -/
structure Pass where
  inProgress : Bool
  position : Nat
  startHeld : Bool
  /-- The model's own: the start time at which the last start was taken, so that a start time starts one pass. Log entry 4. -/
  startTakenAt : Option Nat
deriving DecidableEq, Repr

/-- One place of the unknown-cell limiter (R97). -/
structure LimiterPlace where
  identity : Nat
  time : Nat
deriving DecidableEq, Repr

structure Grid where
  /-- The cell table (R92). -/
  cells : Vector (Option Nat) 24
  squares : Vector Square 512
  params : CoverageParams
  aging : Pass
  /-- CLEAR GRID is running (R107). -/
  clearing : Bool
  /-- The CLEAR GRID position (R107). -/
  clearPosition : Nat
  limiter : Vector (Option LimiterPlace) 8
  unknownCells : Nat
  measureUsed : Nat
  measureRejected : Nat
  measureClamped : Nat
deriving DecidableEq, Repr

/-! ## Reefer Table (chapters 6 and 7) -/

/-- R113. -/
inductive ReeferState where
  | vacant
  | enrolled
  | active
  | excursion
  | silent
deriving DecidableEq, Repr

/-- The side of an excess (R139). -/
inductive Side where
  | inBand
  | above
  | below
deriving DecidableEq, Repr

/-- R112, R123. -/
inductive Power where
  | none
  | on
  | off
  | defrost
deriving DecidableEq, Repr

/-- One entry of the Reefer Table (R112). -/
structure ReeferEntry where
  state : ReeferState
  wasInExcursion : Bool
  tag : Nat
  criteria : Fin 16
  square : Option (Fin 512)
  lastHeard : Nat
  lastSequence : Option Nat
  setpoint : Option Int
  /-- Filtered temperature F. -/
  filtered : Option Int
  /-- The previous excess. -/
  excess : Nat
  side : Side
  /-- The accumulator A. -/
  accumulator : Nat
  outOfBandSince : Option Stamp
  inBandCount : Nat
  defrostStart : Option Nat
  power : Power
  alarms : List Nat
  reports : Nat
  missed : Nat
  duplicates : Nat
  sensorRange : Bool
  setpointClamp : Bool
  alarmClamp : Bool
  powerUnknown : Bool
deriving DecidableEq, Repr

/-- The cleared values of R112. -/
def ReeferEntry.cleared : ReeferEntry :=
  { state := .vacant, wasInExcursion := false, tag := 0, criteria := 0, square := none, lastHeard := 0,
    lastSequence := none, setpoint := none, filtered := none, excess := 0, side := .inBand, accumulator := 0,
    outOfBandSince := none, inBandCount := 0, defrostStart := none, power := .none, alarms := [], reports := 0,
    missed := 0, duplicates := 0, sensorRange := false, setpointClamp := false, alarmClamp := false,
    powerUnknown := false }

/-- One criteria entry (R115). -/
structure Criteria where
  upper : Nat
  lower : Nat
  shift : Nat
  limit : Nat
  settle : Nat
  elapsedCap : Nat
  defrostAllowance : Nat
  silentLimit : Nat
deriving DecidableEq, Repr

/-- R118. -/
inductive EnrolmentMode where
  | manual
  | auto
deriving DecidableEq, Repr

structure ReeferTable where
  entries : Vector ReeferEntry 4096
  criteria : Vector Criteria 16
  mode : EnrolmentMode
  sweep : Pass
  /-- The table-full limiter: the local time of the last TABLE_FULL raised (R118). -/
  tableFull : Option Nat
  unknownTags : Nat
  dropped : Nat
  rejected : Nat
deriving DecidableEq, Repr

/-! ## Notice Unit (chapter 8) -/

/-- The 26 kinds of R145, in code order. -/
inductive NoticeKind where
  | linkUp
  | linkLost
  | degraded
  | recovered
  | frameHeld
  | unsent
  | steer
  | timeSynced
  | timeStep
  | timeBackward
  | timeViolation
  | timeLost
  | squareState
  | unknownCell
  | enrolled
  | excursionStart
  | excursionClear
  | silent
  | returned
  | silentEvicted
  | alarmChange
  | setpointChange
  | tableFull
  | writeBlocked
  | tornRecord
  | intakeOverrun
deriving DecidableEq, Repr

/-- A notice in the pending queue (R146). -/
structure Notice where
  kind : NoticeKind
  subject : Nat
  stamp : Stamp
  value1 : Word
  value2 : Word
  value3 : Word
deriving DecidableEq, Repr

/-- R151. -/
inductive RingState where
  | undefined
  | incomplete
  | invalid
  | ready
deriving DecidableEq, Repr

structure NoticeUnit where
  /-- Bit n − 1 is the enable of the kind of code n (R147). -/
  enables : BitVec 26
  /-- The pending queue, head first (R148). -/
  queue : List Notice
  /-- The copies of the three ring words (R150). -/
  baseCopy : Vector Byte 8
  lengthCopy : Vector Byte 4
  consumerCopy : Vector Byte 4
  baseMark : Bool
  lengthMark : Bool
  ring : RingState
  /-- The definition in force: the ring base and ring length of the last completion (R150). -/
  defBase : Nat
  defLength : Nat
  /-- The length in force (R153). -/
  lengthInForce : Nat
  producer : BitVec 32
  consumer : BitVec 32
  /-- Bit c − 1 is class code c (R149, R179). -/
  overflow : BitVec 5
  /-- Bit n is flag n (R155). -/
  flags : BitVec 12
  /-- Bit n is flag n, bit 12 is NOTICES_PENDING (R156). -/
  irqEnables : BitVec 13
  /-- The IRQ output (R156). -/
  irq : Bool
deriving DecidableEq, Repr

/-! ## Command Unit and Mirror Writer (chapter 9) -/

/-- R162. -/
inductive CommandState where
  | idle
  | long
deriving DecidableEq, Repr

/-- The result codes of R163. -/
inductive ResultCode where
  | none
  | running
  | done
  | unknownCommand
  | badArgument
  | overlap
  | locked
  | notFound
  | full
  | state
  | busy
  | aborted
deriving DecidableEq, Repr

/-- One report of the result record (R163). -/
structure Report where
  tag : Nat
  code : ResultCode
deriving DecidableEq, Repr

structure CommandUnit where
  state : CommandState
  /-- The busy indication (R164). -/
  busy : Bool
  lastTaken : Nat
  /-- The copy of the command record, 64 bytes (R160). -/
  recordCopy : Vector Byte 64
  /-- The copy of the tag word (R160). -/
  tagCopy : Vector Byte 4
  offerMark : Bool
  commandReport : Report
  longReport : Report
  busyReport : Report
deriving DecidableEq, Repr

/-- The three mirrors (R22, R166). -/
inductive MirrorKind where
  | reefer
  | grid
  | crane
deriving DecidableEq, Repr

/-- R166. -/
structure MirrorWriter where
  target : Option MirrorKind
  position : Nat
deriving DecidableEq, Repr

/-! ## The whole part -/

/-- The model's own: what the event being handled has gathered so far. It is at `EventScratch.idle` between events. Log entry 27. -/
structure EventScratch where
  /-- The work whose event is being handled (R39). -/
  work : Work
  /-- The event has a cause for a status block write (R154). -/
  statusDue : Bool
  /-- The crane whose uplink record is being handled: its mirror record is written once, after step 9 (R79). -/
  deferred : Option (Fin 16)
  /-- That one write is called for. -/
  craneDue : Bool
deriving DecidableEq, Repr

/-- The scratch between events. -/
def EventScratch.idle : EventScratch :=
  { work := .other, statusDue := false, deferred := none, craneDue := false }

structure State where
  /-- RST_N is asserted (R173). -/
  inReset : Bool
  /-- The sampled CPB strap (R159). -/
  cpb : BitVec 16
  /-- The sampled CPID strap (R159). -/
  cpid : BitVec 6
  time : TimeBase
  windows : Vector Window 32
  intake : Intake
  arb : Arbiter
  port : UpstreamPort
  cranes : Vector Crane 16
  grid : Grid
  reefer : ReeferTable
  notice : NoticeUnit
  cmd : CommandUnit
  mirror : MirrorWriter
  scratch : EventScratch
  /-- The model's own: how many RESTARTs have been taken, so that each one has a free choice of its own of the records that its job
  units have in hand (`Config.recordInHand`). Log entry 33. -/
  restarts : Nat
  /-- The commands that are waiting, first in, first out. -/
  pending : List Instr
deriving DecidableEq, Repr

/-! ## Power-on values (R18, R42, R90, R110, R130, R157, R171) -/

/-- R18. -/
def TimeBase.powerOn : TimeBase :=
  { lt := 0, run := .stopped, sync := .unset, oc := 0, slew := 0, tl := none, capture := none, lastSuccess := none,
    interval := 1000, linkDelay := 0, threshold := 1000, continuity := false }

/-- R110: a square without a sample. -/
def Square.powerOn : Square :=
  { entries := Vector.replicate 24 .absent, state := .unknown, best := none, bestEstimate := none, lastChange := none }

/-- R101, R126. -/
def Pass.powerOn : Pass :=
  { inProgress := false, position := 0, startHeld := false, startTakenAt := none }

/-- R106, R110. The clear position while no CLEAR GRID runs is 0 (log entry 37). -/
def Grid.powerOn : Grid :=
  { cells := Vector.replicate 24 none, squares := Vector.replicate 512 .powerOn,
    params := { holeEnter := -240, holeExit := -232, marginalEnter := -220, marginalExit := -212, ageLimit := 600,
                steerMargin := 12, steerHoldoff := 10, segmentCount := 128 },
    aging := .powerOn, clearing := false, clearPosition := 0, limiter := Vector.replicate 8 none, unknownCells := 0,
    measureUsed := 0, measureRejected := 0, measureClamped := 0 }

/-- R115. -/
def Criteria.powerOn : Criteria :=
  { upper := 200, lower := 200, shift := 2, limit := 3000, settle := 2, elapsedCap := 1800, defrostAllowance := 45,
    silentLimit := 1800 }

/-- R130. -/
def ReeferTable.powerOn : ReeferTable :=
  { entries := Vector.replicate 4096 .cleared, criteria := Vector.replicate 16 .powerOn, mode := .manual,
    sweep := .powerOn, tableFull := none, unknownTags := 0, dropped := 0, rejected := 0 }

/-- R157. The definition in force before the first completion is base 0 and length 0 (log entry 38). -/
def NoticeUnit.powerOn : NoticeUnit :=
  { enables := 0, queue := [], baseCopy := Vector.replicate 8 0, lengthCopy := Vector.replicate 4 0,
    consumerCopy := Vector.replicate 4 0, baseMark := false, lengthMark := false, ring := .undefined, defBase := 0,
    defLength := 0, lengthInForce := 0, producer := 0, consumer := 0, overflow := 0, flags := 0, irqEnables := 0,
    irq := false }

/-- R171. -/
def CommandUnit.powerOn : CommandUnit :=
  { state := .idle, busy := false, lastTaken := 0, recordCopy := Vector.replicate 64 0, tagCopy := Vector.replicate 4 0,
    offerMark := false, commandReport := ⟨0, .none⟩, longReport := ⟨0, .none⟩, busyReport := ⟨0, .none⟩ }

/-- The part right after the release of RST_N (R173). The straps have no value of their own: both are 0 here (log entry 1), and
POWER_ON_RESET samples any others. -/
def State.reset : State :=
  { inReset := false, cpb := 0, cpid := 0, time := .powerOn, windows := Vector.replicate 32 .cleared,
    intake := { uplink := [], reefer := [], measure := [], time := [] },
    arb := { passing := [], own := [], held := [], letOut := false, inFlight := [] },
    port := { waiting := [], responses := [] },
    cranes := Vector.replicate 16 .cleared, grid := .powerOn, reefer := .powerOn, notice := .powerOn, cmd := .powerOn,
    mirror := { target := none, position := 0 }, scratch := .idle, restarts := 0, pending := [] }

end Sys2Proof.Machine
end

