-- ==== Sys2Proof/Machine/Ops.lean ====
section
/-! DEFINITION. The named operations over the state: one update per block, entries of the tables, stamps, own writes, and the
frame of one event. -/

namespace Sys2Proof.Machine

/-! ## One update per block -/

def State.setTime (s : State) (t : TimeBase) : State := { s with time := t }
def State.setWindows (s : State) (w : Vector Window 32) : State := { s with windows := w }
def State.setIntake (s : State) (i : Intake) : State := { s with intake := i }
def State.setArb (s : State) (a : Arbiter) : State := { s with arb := a }
def State.setPort (s : State) (p : UpstreamPort) : State := { s with port := p }
def State.setCranes (s : State) (c : Vector Crane 16) : State := { s with cranes := c }
def State.setGrid (s : State) (g : Grid) : State := { s with grid := g }
def State.setReefer (s : State) (r : ReeferTable) : State := { s with reefer := r }
def State.setNotice (s : State) (n : NoticeUnit) : State := { s with notice := n }
def State.setCmd (s : State) (c : CommandUnit) : State := { s with cmd := c }
def State.setMirror (s : State) (m : MirrorWriter) : State := { s with mirror := m }
def State.setScratch (s : State) (e : EventScratch) : State := { s with scratch := e }

/-! ## Entries of the tables -/

/-- The table with entry `i` replaced. -/
def upd {α : Type} {n : Nat} (v : Vector α n) (i : Fin n) (x : α) : Vector α n := v.set i.val x i.isLt

/-- The lowest index whose entry meets `p`. -/
def firstIndex {α : Type} {n : Nat} (v : Vector α n) (p : α → Bool) : Option (Fin n) :=
  match v.toList.findIdx? p with
  | some i => if h : i < n then some ⟨i, h⟩ else none
  | none => none

/-- How many entries meet `p`. -/
def countOf {α : Type} {n : Nat} (v : Vector α n) (p : α → Bool) : Nat := v.toList.countP p

def State.window (s : State) (i : Fin 32) : Window := s.windows.get i
def State.setWindow (s : State) (i : Fin 32) (w : Window) : State := s.setWindows (upd s.windows i w)
def State.crane (s : State) (i : Fin 16) : Crane := s.cranes.get i
def State.setCrane (s : State) (i : Fin 16) (c : Crane) : State := s.setCranes (upd s.cranes i c)
def State.square (s : State) (q : Fin 512) : Square := s.grid.squares.get q
def State.setSquare (s : State) (q : Fin 512) (x : Square) : State :=
  s.setGrid { s.grid with squares := upd s.grid.squares q x }
def State.entry (s : State) (n : Fin 4096) : ReeferEntry := s.reefer.entries.get n
def State.setEntry (s : State) (n : Fin 4096) (e : ReeferEntry) : State :=
  s.setReefer { s.reefer with entries := upd s.reefer.entries n e }
def State.criteria (s : State) (i : Fin 16) : Criteria := s.reefer.criteria.get i

/-! ## Time -/

/-- The maximum of local time (R1). -/
def ltMax : Nat := 281474976710655

/-- A stamp taken now (R2): the low 64 bits of LT + OC, with the sync state as its quality. -/
def State.stamp (s : State) : Stamp :=
  { value := BitVec.ofInt 64 ((s.time.lt : Int) + s.time.oc), quality := s.time.sync }

/-- The low 32 bits of terminal time now (R53, R61). -/
def State.stamp32 (s : State) : Nat := s.stamp.value.toNat % 4294967296

/-! ## Own writes (R39) -/

/-- An own write is handed: it joins the queue when there is a place and no write is held before it, and else it is held. -/
def Arbiter.hand (a : Arbiter) (work : Work) (w : OwnWrite) : Arbiter :=
  if a.held.isEmpty && decide (a.own.length < 64) then { a with own := a.own ++ [w] }
  else { a with held := a.held ++ [⟨w, work⟩] }

def State.hand (s : State) (addr : Nat) (data : List Byte) : State :=
  s.setArb (s.arb.hand s.scratch.work ⟨addr, data⟩)

/-- An own write of this work's earlier event is still held, so the work takes no further step; events of other kinds go on
(R39). -/
def Arbiter.holds (a : Arbiter) (work : Work) : Bool := work != .other && a.held.any fun h => h.work == work

/-- The address of an offset of the control page (R159): the strap value × 16 MiB and the offset. -/
def State.pageAddr (s : State) (off : Nat) : Nat := 16777216 * s.cpb.toNat + off

/-- The base of the in-use window of a mirror kind, if there is one (R29: while none is in use, no record is written). -/
def State.mirrorBase (s : State) (k : WindowKind) : Option Nat :=
  (s.windows.toList.find? fun w => w.inUse && w.kind == some k).map (·.base)

/-- The Mirror Writer writes one record of a mirror through the own-write queue (R89, R109, R128), if its window is in use. -/
def State.handMirror (s : State) (k : WindowKind) (off : Nat) (data : List Byte) : State :=
  s.setArb (match s.mirrorBase k with
    | some b => s.arb.hand s.scratch.work ⟨b + off, data⟩
    | none => s.arb)

/-! ## The frame of an event -/

/-- A status block write is called for in the event (R154); several causes in one event give one write. -/
def State.callStatus (s : State) : State := s.setScratch { s.scratch with statusDue := true }

/-- An event that neither hands an own write nor changes a term of the interrupt line. Where it is not enabled, and while RST_N is
asserted, it does not come about (log entries 2 and 23). -/
def quietEvent (s : State) (enabled : Bool) (f : State → State) : Host.Outcome State Fault Refusal :=
  .next (if s.inReset || !enabled then s else f s)

end Sys2Proof.Machine
end

