-- ==== Sys2Proof/Machine/Flags.lean ====
section
/-! DEFINITION. The sticky flags and the interrupt line (R155, R156). -/

namespace Sys2Proof.Machine

/-- The 12 sticky flags of R155. -/
inductive Flag where
  | writeBlocked
  | tornRecord
  | intakeOverrun
  | uplinkCheck
  | uplinkSequence
  | uplinkCadence
  | uplinkFraming
  | timeViolation
  | timeLost
  | noticeOverflow
  | ringDefine
  | ringIndex
deriving DecidableEq, Repr

/-- The flag's number (R155). -/
def Flag.number : Flag → Nat
  | .writeBlocked => 0
  | .tornRecord => 1
  | .intakeOverrun => 2
  | .uplinkCheck => 3
  | .uplinkSequence => 4
  | .uplinkCadence => 5
  | .uplinkFraming => 6
  | .timeViolation => 7
  | .timeLost => 8
  | .noticeOverflow => 9
  | .ringDefine => 10
  | .ringIndex => 11

/-- The flag as a bit of the flags word. -/
def Flag.bit (f : Flag) : BitVec 12 := 1#12 <<< f.number

/-- A flag is set (R155). Setting a flag that is already set changes nothing; a change calls for a status block write (R154). -/
def State.setFlag (s : State) (f : Flag) : State :=
  (s.setNotice { s.notice with flags := s.notice.flags ||| f.bit }).setScratch
    { s.scratch with statusDue := s.scratch.statusDue || !s.notice.flags.getLsbD f.number }

/-- The condition of the interrupt line (R156): NOTICES_PENDING is enabled with producer ≠ consumer, or a set flag has its enable
set. -/
def NoticeUnit.irqCondition (n : NoticeUnit) : Bool :=
  (n.irqEnables.getLsbD 12 && n.producer != n.consumer) || (n.flags &&& n.irqEnables.setWidth 12) != 0#12

/-- The interrupt line follows its condition within the event (R156). -/
def State.followIrq (s : State) : State := s.setNotice { s.notice with irq := s.notice.irqCondition }

end Sys2Proof.Machine
end

