-- ==== Sys2Proof/Machine/Layout.lean ====
section
/-! DEFINITION. The records the part writes, byte by byte (chapter 11): the codes of its states, the result record, the status
block, the counter snapshot, the notice record, the mirror records, and the HOLD frame. Reserved bytes are 0 (R178). -/

namespace Sys2Proof.Machine

/-! ## Codes -/

/-- R2. -/
def SyncState.code : SyncState → Nat
  | .unset => 0
  | .synced => 1
  | .holdover => 2

/-- R179. -/
def RunState.code : RunState → Nat
  | .stopped => 0
  | .running => 1

/-- R71. -/
def LinkState.code : LinkState → Nat
  | .dormant => 0
  | .lost => 1
  | .linked => 2
  | .degraded => 3

/-- R75. -/
def UplinkOutcome.code : UplinkOutcome → Nat
  | .good => 0
  | .cadence => 1
  | .missing => 2
  | .sequence => 3
  | .check => 4
  | .framing => 5

/-- R96. -/
def SquareState.code : SquareState → Nat
  | .unknown => 0
  | .covered => 1
  | .marginal => 2
  | .hole => 3

/-- R113. -/
def ReeferState.code : ReeferState → Nat
  | .vacant => 0
  | .enrolled => 1
  | .active => 2
  | .excursion => 3
  | .silent => 4

/-- R182. -/
def Power.code : Power → Nat
  | .none => 0
  | .on => 1
  | .off => 2
  | .defrost => 3

/-- R179. -/
def RingState.code : RingState → Nat
  | .undefined => 0
  | .incomplete => 1
  | .invalid => 2
  | .ready => 3

/-- R163. -/
def ResultCode.code : ResultCode → Nat
  | .none => 0
  | .running => 1
  | .done => 2
  | .unknownCommand => 3
  | .badArgument => 4
  | .overlap => 5
  | .locked => 6
  | .notFound => 7
  | .full => 8
  | .state => 9
  | .busy => 10
  | .aborted => 11

/-- The five classes of R145, highest priority first. -/
inductive NoticeClass where
  | crane
  | time
  | coverage
  | reefer
  | path
deriving DecidableEq, Repr

/-- R145: 1 is the highest priority and 5 the lowest. -/
def NoticeClass.code : NoticeClass → Nat
  | .crane => 1
  | .time => 2
  | .coverage => 3
  | .reefer => 4
  | .path => 5

/-- R145. -/
def NoticeKind.code : NoticeKind → Nat
  | .linkUp => 1
  | .linkLost => 2
  | .degraded => 3
  | .recovered => 4
  | .frameHeld => 5
  | .unsent => 6
  | .steer => 7
  | .timeSynced => 8
  | .timeStep => 9
  | .timeBackward => 10
  | .timeViolation => 11
  | .timeLost => 12
  | .squareState => 13
  | .unknownCell => 14
  | .enrolled => 15
  | .excursionStart => 16
  | .excursionClear => 17
  | .silent => 18
  | .returned => 19
  | .silentEvicted => 20
  | .alarmChange => 21
  | .setpointChange => 22
  | .tableFull => 23
  | .writeBlocked => 24
  | .tornRecord => 25
  | .intakeOverrun => 26

/-- R145. -/
def NoticeKind.cls : NoticeKind → NoticeClass
  | .linkUp | .linkLost | .degraded | .recovered | .frameHeld | .unsent | .steer => .crane
  | .timeSynced | .timeStep | .timeBackward | .timeViolation | .timeLost => .time
  | .squareState | .unknownCell => .coverage
  | .enrolled | .excursionStart | .excursionClear | .silent | .returned | .silentEvicted | .alarmChange
  | .setpointChange | .tableFull => .reefer
  | .writeBlocked | .tornRecord | .intakeOverrun => .path

/-- The codes of the ten window kinds (R22). -/
def WindowKind.code : WindowKind → Nat
  | .craneDown => 1
  | .craneUp => 2
  | .reeferIn => 3
  | .measureIn => 4
  | .timeIn => 5
  | .noticeRing => 6
  | .reeferMirror => 7
  | .gridMirror => 8
  | .craneMirror => 9
  | .guarded => 10

/-- The kind a code names, if it is 1 to 10 (R22). -/
def WindowKind.ofCode (n : Nat) : Option WindowKind :=
  [.craneDown, .craneUp, .reeferIn, .measureIn, .timeIn, .noticeRing, .reeferMirror, .gridMirror, .craneMirror,
    .guarded].find? fun k => k.code == n

/-! ## Small fields -/

def boolNat (b : Bool) : Nat := if b then 1 else 0

/-- The quality byte of a stamp in a mirror record: 0xFF when absent (R177). -/
def qualityByte : Option Stamp → Nat
  | some t => t.quality.code
  | none => 255

/-- The stamp bytes of a mirror record: 0 when absent (R177). -/
def stampValue : Option Stamp → Nat
  | some t => t.value.toNat
  | none => 0

/-- The low 32 bits of a stamp, or 0 when it is absent (R143, R182). -/
def stampLow : Option Stamp → Nat
  | some t => t.value.toNat % 4294967296
  | none => 0

/-- A square index field: 0xFFFF when absent (R177). -/
def squareField : Option (Fin 512) → Nat
  | some q => q.val
  | none => 65535

/-- A square in a value word (R87): segment × 4 + band. Absent, the value is free (log entry 16). -/
def squareWord (crane : Nat) (lt : Nat) : Option (Fin 512) → Word
  | some q => word q.val
  | none => Config.unstatedWord crane lt

/-- The signed field of an excess with its side (R182). -/
def signedExcess (excess : Nat) : Side → Int
  | .above => excess
  | .below => -(excess : Int)
  | .inBand => 0

/-! ## The control page areas (R179) -/

/-- The result record, 32 bytes. -/
def CommandUnit.resultRecord (c : CommandUnit) : List Byte :=
  leBytes 4 c.commandReport.tag ++ leBytes 4 c.commandReport.code.code ++ leBytes 4 c.longReport.tag ++
    leBytes 4 c.longReport.code.code ++ leBytes 4 c.busyReport.tag ++ leBytes 4 c.busyReport.code.code ++ leBytes 8 0

/-- How many reefer entries are in a state (R129). -/
def ReeferTable.inState (r : ReeferTable) (st : ReeferState) : Nat := countOf r.entries fun e => e.state == st

/-- The status block, 96 bytes, from the state as it stands (R154). -/
def State.statusBlock (s : State) : List Byte :=
  leBytes 4 s.notice.producer.toNat ++ leBytes 4 s.notice.consumer.toNat ++ leBytes 4 s.notice.lengthInForce ++
    leBytes 1 s.notice.ring.code ++ leBytes 1 s.notice.overflow.toNat ++ leBytes 1 (boolNat s.cmd.busy) ++ leBytes 1 0 ++
    leBytes 4 s.notice.flags.toNat ++ leBytes 4 s.notice.enables.toNat ++ leBytes 4 s.notice.irqEnables.toNat ++
    leBytes 1 s.time.run.code ++ leBytes 1 s.time.sync.code ++ leBytes 1 (boolNat s.time.capture.isSome) ++ leBytes 1 0 ++
    leBytes 8 (unsigned 64 s.time.oc) ++ leBytes 8 (unsigned 64 s.time.slew) ++
    leBytes 8 (s.time.lastSuccess.getD 18446744073709551615) ++
    leBytes 4 s.grid.unknownCells ++ leBytes 4 s.grid.measureUsed ++ leBytes 4 s.grid.measureRejected ++
    leBytes 4 s.grid.measureClamped ++
    leBytes 4 s.reefer.unknownTags ++ leBytes 4 s.reefer.dropped ++ leBytes 4 s.reefer.rejected ++
    leBytes 2 (s.reefer.inState .vacant) ++ leBytes 2 (s.reefer.inState .enrolled) ++
    leBytes 2 (s.reefer.inState .active) ++ leBytes 2 (s.reefer.inState .excursion) ++
    leBytes 2 (s.reefer.inState .silent) ++ leBytes 2 0

/-- The counters of one window table entry in the snapshot: four zeros for an entry not in use (R169). -/
def Window.counterBytes (w : Window) : List Byte :=
  if w.inUse then leBytes 4 w.taken ++ leBytes 4 w.missed ++ leBytes 4 w.torn ++ leBytes 4 w.blocked
  else leBytes 16 0

/-- The counter snapshot, 512 bytes, in entry order (R169). -/
def State.counterSnapshot (s : State) : List Byte := s.windows.toList.flatMap Window.counterBytes

/-! ## The notice record (R180) -/

/-- The notice record of a notice posted at a producer index, 32 bytes. -/
def Notice.record (n : Notice) (post : Nat) : List Byte :=
  leBytes 1 n.kind.code ++ leBytes 1 n.kind.cls.code ++ leBytes 2 n.subject ++ leBytes 1 n.stamp.quality.code ++
    leBytes 3 0 ++ leBytes 8 n.stamp.value.toNat ++ leBytes 4 n.value1.toNat ++ leBytes 4 n.value2.toNat ++
    leBytes 4 n.value3.toNat ++ leBytes 4 post

/-! ## Mirror records (R182) -/

/-- The reefer mirror record, 64 bytes. -/
def ReeferEntry.mirrorRecord (e : ReeferEntry) : List Byte :=
  leBytes 1 e.state.code ++
    leBytes 1 (boolNat e.sensorRange + 2 * boolNat e.setpointClamp + 4 * boolNat e.alarmClamp +
      8 * boolNat e.powerUnknown + 16 * boolNat e.wasInExcursion) ++
    leBytes 1 (boolNat e.lastSequence.isSome + 2 * boolNat e.setpoint.isSome + 4 * boolNat e.filtered.isSome +
      8 * boolNat e.defrostStart.isSome) ++
    leBytes 1 e.criteria.val ++ leBytes 4 e.tag ++ leBytes 2 (squareField e.square) ++
    leBytes 2 (e.lastSequence.getD 0) ++ leBytes 2 (unsigned 16 (e.setpoint.getD 0)) ++
    leBytes 2 (unsigned 16 (e.filtered.getD 0)) ++ leBytes 2 (unsigned 16 (signedExcess e.excess e.side)) ++
    leBytes 1 e.inBandCount ++ leBytes 1 e.power.code ++ leBytes 4 e.accumulator ++ leBytes 6 e.lastHeard ++
    leBytes 1 (qualityByte e.outOfBandSince) ++ leBytes 1 e.alarms.length ++ leBytes 8 (stampValue e.outOfBandSince) ++
    leBytes 6 (e.defrostStart.getD 0) ++ (List.range 6).flatMap (fun i => leBytes 1 (e.alarms.getD i 0)) ++
    leBytes 4 e.reports ++ leBytes 4 e.missed ++ leBytes 4 e.duplicates

/-- How many entries of a square are fresh, and stale (R109). -/
def CellEntry.isFresh : CellEntry → Bool
  | .fresh _ _ => true
  | _ => false

def CellEntry.isStale : CellEntry → Bool
  | .stale _ _ => true
  | _ => false

/-- The grid mirror record of a square, 16 bytes; the best cell's identity is the one its place holds (R92, R109). -/
def Square.mirrorRecord (x : Square) (cells : Vector (Option Nat) 24) : List Byte :=
  leBytes 1 x.state.code ++ leBytes 1 (match x.best with | some c => c.val | none => 255) ++
    leBytes 1 (countOf x.entries CellEntry.isFresh) ++ leBytes 1 (countOf x.entries CellEntry.isStale) ++
    leBytes 4 (match x.best with | some c => (cells.get c).getD 0 | none => 0) ++
    leBytes 2 (unsigned 16 (x.bestEstimate.getD 0)) ++ leBytes 1 (qualityByte x.lastChange) ++ leBytes 1 0 ++
    leBytes 4 (stampLow x.lastChange)

/-- How many entries of the error window have an outcome (R80). -/
def Crane.outcomeCount (c : Crane) (o : UplinkOutcome) : Nat := c.errors.countP (· == o)

/-- The crane mirror record, 64 bytes. -/
def Crane.mirrorRecord (c : Crane) : List Byte :=
  leBytes 1 c.link.code ++ leBytes 1 (boolNat c.holdFlag) ++ leBytes 1 c.params.craneId ++
    leBytes 1 (boolNat c.positionRange + 2 * boolNat c.level.isSome) ++ leBytes 2 (squareField c.square) ++
    leBytes 2 (unsigned 16 (c.level.getD 0)) ++ leBytes 4 c.serving ++ leBytes 4 c.heldReads ++ leBytes 4 c.overwrites ++
    leBytes 4 c.unsent ++ leBytes 1 c.errors.length ++
    leBytes 1 (c.outcomeCount .good) ++ leBytes 1 (c.outcomeCount .cadence) ++ leBytes 1 (c.outcomeCount .missing) ++
    leBytes 1 (c.outcomeCount .sequence) ++ leBytes 1 (c.outcomeCount .check) ++ leBytes 1 (c.outcomeCount .framing) ++
    leBytes 1 (qualityByte c.lastHeard) ++ leBytes 8 (stampValue c.lastHeard) ++ leBytes 24 0

/-! ## Crane frame headers (R181) -/

/-- A header whose first 14 bytes are `body`, with its check word computed afresh (R47). -/
def withCheckWord (body : List Byte) : List Byte := body ++ beBytes 2 (checkWord body)

/-- The HOLD frame of R61. -/
def holdFrame (craneId sequence reason stamp : Nat) : List Byte :=
  withCheckWord (beBytes 1 2 ++ beBytes 1 craneId ++ beBytes 2 sequence ++ beBytes 1 0 ++ beBytes 1 reason ++
    beBytes 2 0 ++ beBytes 2 0 ++ beBytes 4 stamp)

/-- A header beat with the part's release stamp and a fresh check word (R53); every other byte as written. -/
def stampedHeader (header : List Byte) (stamp : Nat) : List Byte :=
  withCheckWord (header.take 10 ++ beBytes 4 stamp)

end Sys2Proof.Machine
end

