-- ==== Sys2Proof/Machine/Notices.lean ====
section
/-! DEFINITION. The Notice Unit's shared operations (chapter 8): raising a notice, the pending queue, judging the ring, the status
block write, and the frame of one event. -/

namespace Sys2Proof.Machine

/-! ## The pending queue (R148, R149) -/

/-- A class has priority at least that of another. -/
def NoticeKind.notBehind (a b : NoticeKind) : Bool := decide (a.cls.code ≤ b.cls.code)

/-- A notice takes its place behind every notice of its own class and ahead of every notice of a lower class (R148). -/
def enqueueNotice (q : List Notice) (n : Notice) : List Notice :=
  q.takeWhile (fun m => m.kind.notBehind n.kind) ++ n :: q.dropWhile (fun m => m.kind.notBehind n.kind)

/-- A class as a bit of the overflow set (R149, R179). -/
def NoticeClass.bit (c : NoticeClass) : BitVec 5 := 1#5 <<< (c.code - 1)

/-- One notice of a class is lost (R149): its class joins the overflow set and NOTICE_OVERFLOW is set. -/
def NoticeUnit.lose (u : NoticeUnit) (c : NoticeClass) : NoticeUnit :=
  { u with overflow := u.overflow ||| c.bit, flags := u.flags ||| Flag.noticeOverflow.bit }

/-- A notice of an enabled kind is taken by the pending queue (R148, R149). The queue is in class order, so its last notice is the
youngest of the lowest class present. -/
def NoticeUnit.accept (u : NoticeUnit) (n : Notice) : NoticeUnit :=
  if u.queue.length < 32 then { u with queue := enqueueNotice u.queue n }
  else match u.queue.getLast? with
    | some last =>
      if n.kind.cls.code < last.kind.cls.code then
        { u.lose last.kind.cls with queue := enqueueNotice u.queue.dropLast n }
      else u.lose n.kind.cls
    | none => u.lose n.kind.cls

/-- R146, R147: a notice whose kind's enable is clear is discarded. -/
def NoticeUnit.take (u : NoticeUnit) (n : Notice) : NoticeUnit :=
  if u.enables.getLsbD (n.kind.code - 1) then u.accept n else u

/-- A block raises a notice (R146): it is built now, with a stamp taken now, and handed to the Notice Unit. The overflow set or
NOTICE_OVERFLOW changing calls for a status block write (R149). -/
def State.raise (s : State) (k : NoticeKind) (subject : Nat) (v1 v2 v3 : Word) : State :=
  let n : Notice := { kind := k, subject, stamp := s.stamp, value1 := v1, value2 := v2, value3 := v3 }
  let u := s.notice.take n
  (s.setNotice u).setScratch
    { s.scratch with statusDue := s.scratch.statusDue || u.overflow != s.notice.overflow || u.flags != s.notice.flags }

/-! ## The ring (R150, R151) -/

/-- The ring length passes the power-of-two check of R151. -/
def ringLengthGood (n : Nat) : Bool := [16, 32, 64, 128, 256, 512, 1024, 2048, 4096].contains n

/-- An in-use NOTICE_RING window holds the whole ring (R151). -/
def Window.coversRing (w : Window) (base length : Nat) : Bool :=
  w.inUse && w.kind == some .noticeRing && decide (w.base ≤ base) && decide (base + 32 * length ≤ w.base + w.size)

/-- The definition in force passes every check of R151. -/
def State.ringValid (s : State) : Bool :=
  ringLengthGood s.notice.defLength && s.notice.defBase % 32 == 0 && decide (s.notice.defBase < 1099511627776) &&
    s.windows.toList.any fun w => w.coversRing s.notice.defBase s.notice.defLength

/-- The ring state becomes `r`; a change calls for a status block write (R151, R154). -/
def State.setRing (s : State) (r : RingState) : State :=
  (s.setNotice { s.notice with ring := r }).setScratch
    { s.scratch with statusDue := s.scratch.statusDue || r != s.notice.ring }

/-- The ring is judged (R151): READY when the definition in force is valid, else INVALID with RING_DEFINE set. -/
def State.judgeRing (s : State) : State :=
  if s.ringValid then s.setRing .ready else (s.setRing .invalid).setFlag .ringDefine

/-- A window command judges a completed definition again; in UNDEFINED or PARTIAL it changes nothing (R151). -/
def State.rejudgeRing (s : State) : State :=
  if s.notice.ring = .ready ∨ s.notice.ring = .invalid then s.judgeRing else s

/-! ## The status block and the frame of an event -/

/-- The status block is handed to the own-write queue if the event has called for it (R154). -/
def State.flushStatus (s : State) : State :=
  (s.setArb (if s.scratch.statusDue then s.arb.hand s.scratch.work ⟨s.pageAddr 0x200, s.statusBlock⟩ else s.arb)).setScratch
    { s.scratch with statusDue := false }

/-- The end of an event: its status block write, if called for (log entry 8), and the interrupt line (R156). -/
def State.finish (s : State) : State := s.flushStatus.followIrq.setScratch .idle

/-- An event of a work begins: nothing is gathered yet. -/
def State.beginEvent (s : State) (work : Work) : State := s.setScratch { EventScratch.idle with work := work }

/-- An event of a work: while one of the work's own writes is held it takes no step (R39); where it is not enabled, and while RST_N
is asserted, it does not come about (log entries 2 and 23). -/
def event (work : Work) (s : State) (enabled : Bool) (f : State → State) : Host.Outcome State Fault Refusal :=
  .next (if s.inReset || !enabled || s.arb.holds work then s
    else (f (s.beginEvent work)).finish)

end Sys2Proof.Machine
end

