-- ==== Sys2Proof/Machine/Operands.lean ====
section
/-! DEFINITION. What a command and a record carry: the words of the command record (R179) and the fields of the radio records
(R181). -/

namespace Sys2Proof.Machine

/-! ## The command record and the ring words (R150, R160, R179) -/

/-- The command code in the copy of the command record. -/
def CommandUnit.code (c : CommandUnit) : Nat := leNat (c.recordCopy.toList.take 4)

/-- Argument n, for n from 1 to 15, in the copy of the command record. -/
def State.arg (s : State) (n : Nat) : Nat := leNat ((s.cmd.recordCopy.toList.drop (4 * n)).take 4)

/-- A signed argument, two's complement in its word (R179). -/
def State.argS (s : State) (n : Nat) : Int := signed 32 (s.arg n)

/-- The copy of the tag word. -/
def CommandUnit.tag (c : CommandUnit) : Nat := leNat c.tagCopy.toList

/-- The copy of the ring base word. -/
def NoticeUnit.baseWord (u : NoticeUnit) : Nat := leNat u.baseCopy.toList

/-- The copy of the ring length word. -/
def NoticeUnit.lengthWord (u : NoticeUnit) : Nat := leNat u.lengthCopy.toList

/-- The copy of the consumer index word. -/
def NoticeUnit.consumerWord (u : NoticeUnit) : BitVec 32 := BitVec.ofNat 32 (leNat u.consumerCopy.toList)

/-- A value as an index of a table of `n` entries. -/
def asIndex (n v : Nat) : Option (Fin n) := if h : v < n then some ⟨v, h⟩ else none

/-- A square from its segment and band (R95). The modulus is never reached by a segment below 128 and a band below 4. -/
def squareIndex (segment band : Nat) : Fin 512 := ⟨(segment * 4 + band) % 512, Nat.mod_lt _ (by decide)⟩

/-! ## Crane frame header (R181) -/

structure FrameHeader where
  kind : Nat
  craneId : Nat
  sequence : Nat
  validity : Nat
  payloadLength : Nat

def FrameHeader.read (r : List Byte) : FrameHeader :=
  { kind := field r 0 1, craneId := field r 1 1, sequence := field r 2 2, validity := field r 6 2,
    payloadLength := field r 8 2 }

/-! ## Uplink record header (R181) -/

structure UplinkHeader where
  kind : Nat
  craneId : Nat
  sequence : Nat
  position : Nat
  band : Nat
  serving : Nat
  level : Int

def UplinkHeader.read (r : List Byte) : UplinkHeader :=
  { kind := field r 0 1, craneId := field r 1 1, sequence := field r 2 2, position := field r 4 2, band := field r 6 1,
    serving := field r 7 4, level := field16s r 11 }

/-! ## Reefer report (R181) -/

structure ReeferReport where
  kind : Nat
  sequence : Nat
  tag : Nat
  supply : Int
  returnAir : Int
  setpoint : Int
  power : Nat
  alarmCount : Nat
  /-- The six places, first code first. -/
  alarmPlaces : List Nat
  serving : Nat
  level : Int

def ReeferReport.read (r : List Byte) : ReeferReport :=
  { kind := field r 0 1, sequence := field r 2 2, tag := field r 4 4, supply := field16s r 8, returnAir := field16s r 10,
    setpoint := field16s r 12, power := field r 14 1, alarmCount := field r 15 1,
    alarmPlaces := (List.range 6).map fun i => field r (16 + i) 1, serving := field r 22 4, level := field16s r 26 }

/-! ## Measurement record (R181) -/

structure MeasureRecord where
  kind : Nat
  band : Nat
  segment : Nat
  source : Nat
  pairCount : Nat
  /-- The eight pairs: cell identity and level. -/
  pairs : List (Nat × Int)

def MeasureRecord.read (r : List Byte) : MeasureRecord :=
  { kind := field r 0 1, band := field r 1 1, segment := field r 2 2, source := field r 4 4, pairCount := field r 8 1,
    pairs := (List.range 8).map fun i => (field r (16 + 6 * i) 4, field16s r (20 + 6 * i)) }

/-! ## Time message (R181) -/

structure TimeMessage where
  kind : Nat
  mark : Nat
  sendDelay : Nat
  masterTime : Nat
  previousTime : Nat

def TimeMessage.read (r : List Byte) : TimeMessage :=
  { kind := field r 0 1, mark := field r 2 2, sendDelay := field r 4 4, masterTime := field r 8 8,
    previousTime := field r 16 8 }

end Sys2Proof.Machine
end

