-- ==== Sys2Proof/Machine/Links.lean ====
section
/-! DEFINITION. What several blocks do to a crane: its mirror record, its pending list, the expiry of a slot, and the link
transitions with their notices (R55 to R57, R83 to R87, R89). -/

namespace Sys2Proof.Machine

/-! ## The crane mirror record (R89) -/

/-- The crane's mirror record is written, or, while this crane's uplink record is being handled, called for once after step 9
(R79). -/
def State.writeCraneMirror (s : State) (i : Fin 16) : State :=
  if s.scratch.deferred = some i then s.setScratch { s.scratch with craneDue := true }
  else s.handMirror .craneMirror (64 * i.val) (s.crane i).mirrorRecord

/-! ## The pending list (R55) -/

/-- The record of slot n; a slot the table does not have reads at its setup value. -/
def Crane.slot (c : Crane) (n : Nat) : Slot := ((c.slots.getD [])[n]?).getD .setup

/-- The slot record of slot n is replaced. -/
def Crane.setSlot (c : Crane) (n : Nat) (x : Slot) : Crane := { c with slots := c.slots.map fun l => l.set n x }

/-- Slot m stands before slot n in the pending list: by deadline, and among equal deadlines in write order (R55). -/
def Crane.slotBefore (c : Crane) (m n : Nat) : Bool :=
  decide ((c.slot m).deadline < (c.slot n).deadline) ||
    ((c.slot m).deadline == (c.slot n).deadline && decide ((c.slot m).madeNo ≤ (c.slot n).madeNo))

/-- Slot n takes its place in a pending list (R55). -/
def Crane.placeSlot (c : Crane) (n : Nat) : List Nat → List Nat
  | [] => [n]
  | m :: rest => if c.slotBefore m n then m :: c.placeSlot n rest else n :: m :: rest

/-- Slot n leaves the pending list. -/
def Crane.dropPending (c : Crane) (n : Nat) : Crane := { c with pendingSlots := c.pendingSlots.filter (· != n) }

/-- The deadline of a slot under a cap in ms (R57): only a PENDING slot is capped. -/
def Slot.capped (x : Slot) (cap : Nat) : Slot :=
  if x.state = .pending then { x with deadline := min x.deadline (x.writeTime + 1000 * cap) } else x

/-- The deadlines of the PENDING slots are capped and the pending list reordered by the new deadlines (R57). -/
def Crane.capDeadlines (c : Crane) : Crane :=
  let capped := { c with slots := c.slots.map (List.map (Slot.capped · c.params.cap)) }
  { capped with pendingSlots := c.pendingSlots.foldl (fun l n => capped.placeSlot n l) [] }

/-! ## Expiry of a slot (R56) -/

/-- The slot at the head of the pending list, if local time has passed its effective deadline. -/
def State.passedHead (s : State) (i : Fin 16) : Option Nat :=
  match (s.crane i).pendingSlots.head? with
  | some n =>
    if ((s.crane i).slot n).state = .pending ∧ ((s.crane i).slot n).deadline < s.time.lt then some n else none
  | none => none

/-- Slot n of crane i expires (R56). -/
def State.expireSlot (s : State) (i : Fin 16) (n : Nat) : State :=
  let c := s.crane i
  let x := c.slot n
  let c' := (c.setSlot n { x with state := .expired }).dropPending n
  (s.setCrane i { c' with unsent := satAdd c.unsent 1 }).raise .unsent i.val (word n) (word x.sequence) (word x.deadline)

/-- The slots at the head of the pending list whose deadlines have passed expire in list order (R57); the count bounds the slots
looked at. -/
def State.expirePassed (s : State) (i : Fin 16) : Nat → State
  | 0 => s
  | k + 1 =>
    match s.passedHead i with
    | some n => (s.expireSlot i n).expirePassed i k
    | none => s

/-! ## The link state (R83 to R87) -/

/-- The error count: the entries of the error window other than GOOD (R80). -/
def Crane.errorCount (c : Crane) : Nat := c.errors.countP (· != .good)

/-- The error count is at or above the degrade threshold. -/
def Crane.tooManyErrors (c : Crane) : Bool := decide (c.params.degrade ≤ c.errorCount)

/-- The square state is HOLE or MARGINAL. -/
def SquareState.weak : SquareState → Bool
  | .hole | .marginal => true
  | .unknown | .covered => false

/-- The crane's current square is HOLE or MARGINAL; an absent square is neither (4.6). -/
def State.weakSquare (s : State) (i : Fin 16) : Bool :=
  match (s.crane i).square with
  | some q => (s.square q).state.weak
  | none => false

/-- The cause of DEGRADED: 1 errors, 2 coverage, 3 both (R87). -/
def degradedCause (errors weak : Bool) : Nat := boolNat errors + 2 * boolNat weak

/-- The crane becomes DEGRADED (R57, R84 to R87): its deadlines are capped, DEGRADED is raised, the slots whose new deadline has
passed expire (log entry 10), and its mirror record is written after those expiries, with the unsent counter they leave (log
entry 36). -/
def State.enterDegraded (s : State) (i : Fin 16) : State :=
  let c := s.crane i
  let s1 := s.setCrane i { c with link := .degraded }.capDeadlines
  let s2 := s1.raise .degraded i.val (word c.link.code) (word c.errorCount)
    (word (degradedCause c.tooManyErrors (s.weakSquare i)))
  let s3 := s2.expirePassed i c.pendingSlots.length
  s3.writeCraneMirror i

/-- The crane becomes LINKED with LINK_UP or RECOVERED (R84 to R87). -/
def State.enterLinked (s : State) (i : Fin 16) (k : NoticeKind) : State :=
  let c := s.crane i
  let s1 := s.setCrane i { c with link := .linked }
  let s2 := s1.raise k i.val (word c.link.code) (word c.errorCount) (squareWord i.val s.time.lt c.square)
  s2.writeCraneMirror i

/-- The heartbeat timer of an attached crane has expired: local time has passed its expiry time (R83). -/
def State.heartbeatPassed (s : State) (i : Fin 16) : Bool :=
  (s.crane i).link != .dormant &&
    match (s.crane i).heartbeat with
    | some e => decide (e < s.time.lt)
    | none => false

/-- The effects of a heartbeat expiry (R83). -/
def State.expireHeartbeat (s : State) (i : Fin 16) : State :=
  let c := s.crane i
  let stopped := { c with heartbeat := none, expected := none, goodCount := 0 }
  if c.link = .linked ∨ c.link = .degraded then
    let s1 := s.setCrane i { stopped with link := .lost }
    let s2 := s1.raise .linkLost i.val (word c.link.code)
      (match c.prevArrival with | some a => word a | none => Config.unstatedWord i.val s.time.lt)
      (word c.params.heartbeat)
    s2.writeCraneMirror i
  else s.setCrane i stopped

/-- One crane is judged on a change of its current square's state (R86). -/
def State.judgeOnSquare (s : State) (i : Fin 16) (before after : SquareState) : State :=
  let c := s.crane i
  match c.link with
  | .linked => if after.weak then s.enterDegraded i else s
  | .degraded => if !after.weak && before.weak && !c.tooManyErrors then s.enterLinked i .recovered else s
  | .lost => s
  | .dormant => s

/-- The Uplink Monitor judges every attached crane whose current square changed state, in crane index order (R86). -/
def State.reportSquare (s : State) (q : Fin 512) (before after : SquareState) : State :=
  (List.finRange 16).foldl
    (fun t i => if (t.crane i).square = some q then t.judgeOnSquare i before after else t) s

/-- The link state is judged once at the end of each record handled for a crane (R84, R85); `own` is the record's own outcome. -/
def State.judgeOnRecord (s : State) (i : Fin 16) (own : UplinkOutcome) : State :=
  let c := s.crane i
  let bad := c.tooManyErrors || s.weakSquare i
  match c.link with
  | .lost =>
    if own = .good ∧ c.params.recover ≤ c.goodCount then
      if bad then s.enterDegraded i else s.enterLinked i .linkUp
    else s
  | .linked => if bad then s.enterDegraded i else s
  | .degraded => if bad then s else s.enterLinked i .recovered
  | .dormant => s

end Sys2Proof.Machine
end

