-- ==== Sys2Proof/Machine/Downlink.lean ====
section
/-! DEFINITION. The Downlink Supervisor (chapter 3): header-beat writes, read verdicts, payload judgement, slot tables. -/

namespace Sys2Proof.Machine

/-! ## Slot tables (R44, R46, R66) -/

/-- A slot table of `count` slots is set up (R44, R46); the three counters are kept. -/
def Crane.setupSlots (c : Crane) (count : Nat) : Crane :=
  { c with slots := some (List.replicate count .setup), downExpected := none, pendingSlots := [], lastPassed := none,
           lastCraneVerdict := .pass, madeCount := 0 }

/-- The slot table is discarded (R66); the three counters are kept. -/
def Crane.discardSlots (c : Crane) : Crane :=
  { c with slots := none, downExpected := none, pendingSlots := [], lastPassed := none, lastCraneVerdict := .pass,
           madeCount := 0 }

/-! ## Header-beat writes (R48 to R54) -/

/-- The outcomes of 3.3, in the order they are tried. -/
inductive HeaderOutcome where
  | check
  | framing
  | validity
  | sequence
  | pending
deriving DecidableEq, Repr

/-- R49 to R51, for a header beat with all 16 strobes set. -/
def Crane.judgeFrame (c : Crane) (slotSize : Nat) (header : List Byte) : HeaderOutcome :=
  let h := FrameHeader.read header
  if !checkWordGood header then .check
  else if h.kind ≠ 1 ∨ h.craneId ≠ c.params.craneId ∨ slotSize - 16 < h.payloadLength then .framing
  else if h.validity = 0 then .validity
  else if c.downExpected ≠ none ∧ c.downExpected ≠ some h.sequence then .sequence
  else .pending

/-- The outcome of a well-formed frame, which is stamped (R53). -/
def HeaderOutcome.wellFormed : HeaderOutcome → Bool
  | .check | .framing => false
  | .validity | .sequence | .pending => true

/-- The slot state of an outcome (R49 to R51). -/
def HeaderOutcome.slotState : HeaderOutcome → SlotState
  | .check => .faulted .check
  | .framing => .faulted .framing
  | .validity => .faulted .validity
  | .sequence => .faulted .sequence
  | .pending => .pending

/-- The effective deadline of a slot made PENDING at local time t (R51, R52). -/
def Crane.deadlineAt (c : Crane) (t validity : Nat) : Nat :=
  let v := min validity 2000
  t + 1000 * (if c.link = .degraded then min v c.params.cap else v)

/-- A header-beat write touches slot n (R54): a PENDING slot leaves the pending list and counts as overwritten. -/
def Crane.touchSlot (c : Crane) (n : Nat) : Crane :=
  if (c.slot n).state = .pending then { c.dropPending n with overwrites := satAdd c.overwrites 1 } else c

/-- A torn header beat (R48). -/
def Crane.tornWrite (c : Crane) (n t : Nat) : Crane :=
  (c.touchSlot n).setSlot n
    { c.slot n with state := .faulted .torn, writeTime := t, lastVerdict := .hold }

/-- A fully written header beat (R49 to R52, R54, R55). -/
def Crane.fullWrite (c : Crane) (slotSize n t : Nat) (header : List Byte) : Crane :=
  let h := FrameHeader.read header
  let o := c.judgeFrame slotSize header
  let c1 := c.touchSlot n
  let c2 := c1.setSlot n
    { c.slot n with
      state := o.slotState
      sequence := h.sequence
      writeTime := t
      lastVerdict := .hold
      deadline := if o = .pending then c.deadlineAt t h.validity else (c.slot n).deadline
      madeNo := if o = .pending then c.madeCount + 1 else (c.slot n).madeNo }
  { c2 with
    downExpected := if o.wellFormed then some ((h.sequence + 1) % 65536) else c.downExpected
    madeCount := if o = .pending then c.madeCount + 1 else c.madeCount
    pendingSlots := if o = .pending then c2.placeSlot n c2.pendingSlots else c2.pendingSlots }

/-- The bytes of a header beat, replaced lane by lane. -/
def relane (bytes : List Byte) : List Lane := bytes.map fun b => ⟨b, true⟩

/-- A header-beat write on slot n of the crane of window w (R48 to R54): the state after, and the beat that goes downstream. -/
def State.headerWrite (s : State) (w : Fin 32) (i : Fin 16) (slotSize n : Nat) (master : MasterId) (beat : List Lane) :
    State × List Lane :=
  if beat.all fun l => !l.strobe then (s, beat)
  else if beat.all (·.strobe) then
    let header := beat.map (·.byte)
    let s1 := s.setCrane i ((s.crane i).fullWrite slotSize n s.time.lt header)
    let s2 := s1.setWindow w { s.window w with taken := satAdd (s.window w).taken 1 }
    (s2, if ((s.crane i).judgeFrame slotSize header).wellFormed then relane (stampedHeader header s.stamp32) else beat)
  else
    let s1 := s.setCrane i ((s.crane i).tornWrite n s.time.lt)
    let s2 := s1.setWindow w { s.window w with torn := satAdd (s.window w).torn 1 }
    ((s2.setFlag .tornRecord).raise .tornRecord w.val (word master.toNat) (word n) (word 1), beat)

/-! ## Header-beat reads (R58 to R61, R63) -/

/-- The reason codes of R59. -/
def SlotFault.reason : SlotFault → Nat
  | .check => 5
  | .sequence => 6
  | .validity => 7
  | .torn => 8
  | .framing => 9

/-- The reason of a HOLD verdict at local time t, or none for PASS (R59). -/
def Crane.holdReason (c : Crane) (n t : Nat) : Option Nat :=
  if c.holdFlag then some 1
  else if c.link = .lost then some 2
  else match (c.slot n).state with
    | .empty => some 3
    | .expired => some 4
    | .faulted f => some f.reason
    | .pending => if (c.slot n).deadline < t then some 4 else none
    | .sent => if (c.slot n).deadline < t then some 4 else none

/-- The sequence a HOLD frame carries (R61). -/
def Crane.holdSequence (c : Crane) (n : Nat) : Nat :=
  if (c.slot n).state = .empty then c.lastPassed.getD 0 else (c.slot n).sequence

/-- A PASS verdict on slot n (R60). -/
def Crane.passRead (c : Crane) (n : Nat) : Crane :=
  { (c.setSlot n { c.slot n with state := .sent, lastVerdict := .pass }).dropPending n with
    lastPassed := some (c.slot n).sequence, lastCraneVerdict := .pass }

/-- A HOLD verdict on slot n (R60, R63). -/
def Crane.holdRead (c : Crane) (n : Nat) : Crane :=
  { c.setSlot n { c.slot n with lastVerdict := .hold } with
    heldReads := satAdd c.heldReads 1, lastCraneVerdict := .hold }

/-- A header-beat read of slot n (R58 to R61, R63): the state after, and what is done with the beat when it returns. -/
def State.headerRead (s : State) (i : Fin 16) (n : Nat) : State × BeatPlan :=
  let c := s.crane i
  match c.holdReason n s.time.lt with
  | none => (s.setCrane i (c.passRead n), .pass)
  | some reason =>
    let s1 := s.setCrane i (c.holdRead n)
    let s2 := if c.lastCraneVerdict = .pass then
        s1.raise .frameHeld i.val (word reason) (word n) (word (c.holdSequence n))
      else s1
    (s2, .hold (holdFrame c.params.craneId (c.holdSequence n) reason s.stamp32))

/-- A payload beat of slot n (R62). -/
def Crane.payloadPlan (c : Crane) (n : Nat) : BeatPlan :=
  if ((c.slot n).state = .pending ∨ (c.slot n).state = .sent) ∧ (c.slot n).lastVerdict = .pass then .pass else .zero

/-- One beat of a read in a CRANE_DOWN window of slot size `size`, at `off` bytes from the window's base. -/
def State.readBeat (s : State) (i : Fin 16) (size off : Nat) : State × BeatPlan :=
  if off % size = 0 then s.headerRead i (off / size) else (s, (s.crane i).payloadPlan (off / size))

/-- The beats of a read in a CRANE_DOWN window, in order (R62). -/
def State.readBeats (s : State) (i : Fin 16) (size off : Nat) : Nat → State × List BeatPlan
  | 0 => (s, [])
  | k + 1 =>
    let (s1, p) := s.readBeat i size off
    let (s2, ps) := s1.readBeats i size (off + 16) k
    (s2, p :: ps)

/-- The beats of a write in a CRANE_DOWN window, in order (R23): a header beat is shown to the supervisor, the others pass. -/
def State.writeBeats (s : State) (w : Fin 32) (i : Fin 16) (size : Nat) (master : MasterId) (off : Nat) :
    List (List Lane) → State × List Lane
  | [] => (s, [])
  | beat :: rest =>
    let (s1, out) := if off % size = 0 then s.headerWrite w i size (off / size) master beat else (s, beat)
    let (s2, outs) := s1.writeBeats w i size master (off + 16) rest
    (s2, out ++ outs)

end Sys2Proof.Machine
end

