-- ==== Sys2Proof/Machine/Coverage.lean ====
section
/-! DEFINITION. The Coverage Grid (chapter 5): summaries, samples, the aging pass, measurement records, CLEAR GRID visits. -/

namespace Sys2Proof.Machine

/-! ## Summaries (R99, R100) -/

/-- The estimate of a fresh entry. -/
def CellEntry.freshEstimate : CellEntry → Option Int
  | .fresh e _ => some e
  | _ => none

/-- Of two candidates for best cell, the one of greater estimate; ties go to the lower index, which comes first (R99). -/
def betterCell (best : Option (Fin 24 × Int)) (c : Fin 24) (x : CellEntry) : Option (Fin 24 × Int) :=
  match x.freshEstimate, best with
  | some e, some (_, b) => if b < e then some (c, e) else best
  | some e, none => some (c, e)
  | none, _ => best

/-- The best cell and the best estimate of a square's entries (R99). -/
def bestCell (entries : Vector CellEntry 24) : Option (Fin 24 × Int) :=
  (List.finRange 24).foldl (fun best c => betterCell best c (entries.get c)) none

/-- The new state of a square whose best estimate is `b` (R99), the thresholds taken × 8. -/
def nextSquareState (p : CoverageParams) (before : SquareState) (b : Int) : SquareState :=
  match before with
  | .unknown | .covered =>
    if b < p.holeEnter * 8 then .hole else if b < p.marginalEnter * 8 then .marginal else .covered
  | .marginal =>
    if b < p.holeEnter * 8 then .hole else if p.marginalExit * 8 ≤ b then .covered else .marginal
  | .hole =>
    if p.marginalExit * 8 ≤ b then .covered else if p.holeExit * 8 ≤ b then .marginal else .hole

/-- The square with its summary recomputed (R99); the last change stamp becomes `now` when the state changes (R100). -/
def Square.summarised (x : Square) (p : CoverageParams) (now : Stamp) : Square :=
  let state := match bestCell x.entries with
    | some (_, b) => nextSquareState p x.state b
    | none => .unknown
  { x with
    state
    best := (bestCell x.entries).map (·.1)
    bestEstimate := (bestCell x.entries).map (·.2)
    lastChange := if state = x.state then x.lastChange else some now }

/-- The grid mirror record of square q is written (R109). -/
def State.writeGridMirror (s : State) (q : Fin 512) : State :=
  s.handMirror .gridMirror (16 * q.val) ((s.square q).mirrorRecord s.grid.cells)

/-- The effects of a recomputation that has replaced the square `old` (R100), in the order of that rule. -/
def State.afterRecompute (s : State) (q : Fin 512) (old : Square) : State :=
  let new := s.square q
  let s1 := if new.state = old.state then s
    else s.raise .squareState q.val (word old.state.code) (word new.state.code) (wordI (new.bestEstimate.getD 0))
  let s2 := if new.state = old.state ∧ new.best = old.best then s1 else s1.writeGridMirror q
  if new.state = old.state then s2 else s2.reportSquare q old.state new.state

/-- Square q takes new entries and its summary is recomputed, with the effects of R100. -/
def State.changeSquare (s : State) (q : Fin 512) (entries : Vector CellEntry 24) : State :=
  let old := s.square q
  (s.setSquare q (({ old with entries := entries } : Square).summarised s.grid.params s.stamp)).afterRecompute q old

/-! ## Samples (R97, R98) -/

/-- Which source hands a sample, with value 3 of its UNKNOWN_CELL notice (R97). -/
inductive SampleSource where
  | uplink (crane : Nat)
  | measurement (source : Nat)
  | reefer (entry : Nat)
deriving DecidableEq, Repr

def SampleSource.code : SampleSource → Nat
  | .uplink _ => 1
  | .measurement _ => 2
  | .reefer _ => 3

def SampleSource.subject : SampleSource → Nat
  | .uplink i => i
  | .measurement m => m
  | .reefer n => n

/-- The weight w of a source's samples (5.3). -/
def SampleSource.weight : SampleSource → Nat
  | .uplink _ => 2
  | .measurement _ => 3
  | .reefer _ => 4

/-- A sample applied to one entry (R98, steps 1 to 4). -/
def CellEntry.sampled (x : CellEntry) (level : Int) (weight arrival : Nat) : CellEntry :=
  let target := clamp (-280) (-40) level * 8
  match x with
  | .fresh e _ => .fresh (e + filterStep (target - e) weight) arrival
  | .absent | .stale _ _ => .fresh target arrival

/-- The place of the cell table that holds an identity (R92). -/
def Grid.cellIndex (g : Grid) (identity : Nat) : Option (Fin 24) :=
  if identity = 0 then none else firstIndex g.cells fun c => c == some identity

/-- The limiter's place that a new identity takes (R97): the lowest free place (log entry 15), or, when all are full, the place with
the oldest time, ties to the lower place. -/
def limiterPlace (l : Vector (Option LimiterPlace) 8) : Fin 8 :=
  match firstIndex l (·.isNone) with
  | some p => p
  | none =>
    (List.finRange 8).foldl
      (fun best p => match l.get p, l.get best with
        | some x, some b => if x.time < b.time then p else best
        | _, _ => best) 0

/-- The limiter at an unknown identity handled at local time t (R97): whether UNKNOWN_CELL is raised, and the limiter after. -/
def consultLimiter (l : Vector (Option LimiterPlace) 8) (identity t : Nat) : Bool × Vector (Option LimiterPlace) 8 :=
  match firstIndex l (fun p => p.map (·.identity) == some identity) with
  | some p =>
    match l.get p with
    | some x =>
      if t < 60000000 + x.time then (false, l)
      else (true, upd l p (some ⟨identity, t⟩))
    | none => (true, upd l p (some ⟨identity, t⟩))
  | none => (true, upd l (limiterPlace l) (some ⟨identity, t⟩))

/-- A sample of a cell not in the cell table (R97). -/
def State.unknownSample (s : State) (q : Fin 512) (identity : Nat) (src : SampleSource) : State :=
  let (raise, limiter) := consultLimiter s.grid.limiter identity s.time.lt
  let s1 := s.setGrid { s.grid with unknownCells := satAdd s.grid.unknownCells 1, limiter := limiter }
  if raise then s1.raise .unknownCell q.val (word identity) (word src.code) (word src.subject) else s1

/-- The square a sample settles on (R97): a segment at or beyond the segment count is the last segment. -/
def CoverageParams.clampSegment (p : CoverageParams) (segment : Nat) : Nat :=
  if p.segmentCount ≤ segment then p.segmentCount - 1 else segment

/-- One sample is handled (R97, R98). -/
def State.sample (s : State) (segment band identity : Nat) (level : Int) (arrival : Nat) (src : SampleSource) : State :=
  let q := squareIndex (s.grid.params.clampSegment segment) band
  match s.grid.cellIndex identity with
  | some c =>
    let entries := (s.square q).entries
    s.changeSquare q (upd entries c ((entries.get c).sampled level src.weight arrival))
  | none => s.unknownSample q identity src

/-! ## Measurement records (R103, R104) -/

/-- One pair of a used measurement record (R104): an identity 0 is skipped. -/
def State.measurePair (s : State) (segment band source arrival : Nat) (pair : Nat × Int) : State :=
  if pair.1 = 0 then s else s.sample segment band pair.1 pair.2 arrival (.measurement source)

/-- A measurement record is handled (R103, R104). -/
def State.measureRecord (s : State) (bytes : List Byte) (arrival : Nat) : State :=
  let r := MeasureRecord.read bytes
  let g := s.grid
  if r.kind ≠ 1 ∨ 3 < r.band then s.setGrid { g with measureRejected := satAdd g.measureRejected 1 }
  else
    let clamped := decide (g.params.segmentCount ≤ r.segment) || decide (8 < r.pairCount)
    let s1 := s.setGrid { g with
      measureClamped := if clamped then satAdd g.measureClamped 1 else g.measureClamped
      measureUsed := satAdd g.measureUsed 1 }
    (r.pairs.take (min r.pairCount 8)).foldl
      (fun t pair => t.measurePair (g.params.clampSegment r.segment) r.band r.source arrival pair) s1

/-! ## The aging pass (R101, R102) -/

/-- A start time of a pass comes (R101, R126): the pass starts at 0, or the start is held while a pass runs. -/
def Pass.start (p : Pass) (t : Nat) : Pass :=
  if p.inProgress then { p with startHeld := true, startTakenAt := some t }
  else { p with inProgress := true, position := 0, startTakenAt := some t }

/-- A pass of `last + 1` places after the visit at its position (R101, R126): it moves on, or ends, and a held start begins a new
pass. The position is 0 after the end, also while no pass is in progress (log entry 42). -/
def Pass.visited (p : Pass) (last : Nat) : Pass :=
  if p.position < last then { p with position := p.position + 1 }
  else if p.startHeld then { p with position := 0, startHeld := false }
  else { p with inProgress := false, position := 0 }

/-- RESTART (R111, R131): a pass in progress goes back to position 0. -/
def Pass.restarted (p : Pass) : Pass := if p.inProgress then { p with position := 0 } else p

/-- A start time of the pass that has not been taken yet: local time is a whole positive multiple of the period. -/
def Pass.startDue (p : Pass) (period t : Nat) : Bool :=
  decide (0 < t) && t % period == 0 && p.startTakenAt != some t

/-- An entry at an aging visit at local time t (R102). -/
def CellEntry.aged (x : CellEntry) (ageLimit t : Nat) : CellEntry :=
  match x with
  | .fresh e u => if u + 1000000 * ageLimit < t then .stale e u else .fresh e u
  | .absent => .absent
  | .stale e u => .stale e u

/-- AGING_VISIT (R102). -/
def State.ageSquare (s : State) (q : Fin 512) : State :=
  let s1 := s.setGrid { s.grid with aging := s.grid.aging.visited 511 }
  s1.changeSquare q
    (Vector.ofFn fun c => ((s.square q).entries.get c).aged s.grid.params.ageLimit s.time.lt)

/-! ## Making entries absent (R94, R107) -/

/-- Entry c of square q becomes absent and the summary is recomputed (R94). -/
def State.dropEntry (s : State) (c : Fin 24) (q : Fin 512) : State :=
  s.changeSquare q (upd (s.square q).entries c .absent)

/-- The clearing of R94: the place becomes empty, and every square is visited in index order. -/
def State.clearPlace (s : State) (c : Fin 24) : State :=
  (List.finRange 512).foldl (fun t q => t.dropEntry c q)
    (s.setGrid { s.grid with cells := upd s.grid.cells c none })

/-- CLEAR_GRID_VISIT (R107). The record is written once for the visit: by R100 when the state or the best cell changed, else by the
visit itself (log entry 14). -/
def State.clearSquare (s : State) (q : Fin 512) : State :=
  let old := s.square q
  let s1 := s.setGrid { s.grid with clearPosition := q.val + 1 }
  let s2 := s1.changeSquare q (Vector.replicate 24 .absent)
  if (s2.square q).state = old.state ∧ (s2.square q).best = old.best then s2.writeGridMirror q else s2

end Sys2Proof.Machine
end

