-- ==== Sys2Proof/Machine/Uplink.lean ====
section
/-! DEFINITION. The Uplink Monitor (chapter 4): outcomes, used records, the steer check, and the commands on crane contexts
(R72 to R74) as functions of the state. -/

namespace Sys2Proof.Machine

/-! ## Outcomes (R75 to R81) -/

/-- The sticky flag an outcome sets (R81). -/
def UplinkOutcome.flag : UplinkOutcome → Option Flag
  | .good => none
  | .cadence => some .uplinkCadence
  | .missing => some .uplinkSequence
  | .sequence => some .uplinkSequence
  | .check => some .uplinkCheck
  | .framing => some .uplinkFraming

/-- An outcome joins the error window, which keeps its last 32, and the consecutive GOOD count follows it (R80). -/
def Crane.giveOutcome (c : Crane) (o : UplinkOutcome) : Crane :=
  let l := c.errors ++ [o]
  { c with
    errors := l.drop (l.length - 32)
    goodCount := if o = .good then min (c.goodCount + 1) 15 else 0 }

/-- An outcome is given to a crane (R80, R81). -/
def State.giveOutcome (s : State) (i : Fin 16) (o : UplinkOutcome) : State :=
  let s1 := s.setCrane i ((s.crane i).giveOutcome o)
  match o.flag with
  | some f => s1.setFlag f
  | none => s1

/-- MISSING outcomes, one by one (R77, R80). -/
def State.giveMissing (s : State) (i : Fin 16) : Nat → State
  | 0 => s
  | k + 1 => (s.giveOutcome i .missing).giveMissing i k

/-- How a crane judges a record's header (R76, R77): not used with an outcome, or in sequence after a number of MISSING outcomes. -/
inductive UplinkJudgement where
  | unused (o : UplinkOutcome)
  | inSequence (missing : Nat)
deriving DecidableEq, Repr

/-- R76 and R77. -/
def Crane.judgeHeader (c : Crane) (bytes : List Byte) : UplinkJudgement :=
  let h := UplinkHeader.read bytes
  if !checkWordGood bytes then .unused .check
  else if h.kind ≠ 1 ∨ h.craneId ≠ c.params.craneId ∨ 3 < h.band then .unused .framing
  else match c.expected with
    | none => .inSequence 0
    | some e =>
      if 32768 ≤ seqDiff h.sequence e then .unused .sequence else .inSequence (min (seqDiff h.sequence e) 32)

/-- A record in sequence is early (R78). -/
def Crane.early (c : Crane) (arrival : Nat) : Bool :=
  match c.prevArrival with
  | some p => decide (arrival < p + 1000 * (c.params.cadence - c.params.early))
  | none => false

/-- The square and the POSITION_RANGE mark that a used record gives (R82). -/
def Crane.segmentOf (c : Crane) (segmentCount : Nat) (position : Nat) : Nat × Bool :=
  let seg := position / c.params.segmentLength
  if segmentCount ≤ seg then (segmentCount - 1, true) else (seg, false)

/-- Steps 1 to 6 of R79. -/
def Crane.used (c : Crane) (h : UplinkHeader) (arrival segmentCount : Nat) (now : Stamp) : Crane :=
  { c with
    heartbeat := some (arrival + 1000 * c.params.heartbeat)
    expected := some ((h.sequence + 1) % 65536)
    prevArrival := some arrival
    lastHeard := some now
    level := some h.level
    square := some (squareIndex (c.segmentOf segmentCount h.position).1 h.band)
    positionRange := (c.segmentOf segmentCount h.position).2
    serving := h.serving }

/-! ## The steer check (R88) -/

/-- The two cells and the margin of a STEER notice, when the first three conditions of R88 hold: the best cell's place, and EB − ES. -/
def State.steerCase (s : State) (i : Fin 16) : Option (Fin 24 × Int) :=
  match (s.crane i).square with
  | none => none
  | some q =>
    match s.grid.cellIndex (s.crane i).serving, (s.square q).best, (s.square q).bestEstimate with
    | some c, some b, some eb =>
      match ((s.square q).entries.get c).freshEstimate with
      | some es =>
        if b ≠ c ∧ (s.grid.params.steerMargin * 8 : Int) ≤ eb - es then some (b, eb - es) else none
      | none => none
    | _, _, _ => none

/-- The crane's steer holdoff has run out, or the record's arrival is not before its end (R88). -/
def Crane.steerFree (c : Crane) (arrival : Nat) : Bool :=
  match c.steerHoldoff with
  | some e => decide (e ≤ arrival)
  | none => true

/-- Step 9 of R79 (R88). The holdoff starts whether or not the STEER kind is enabled (R146, log entry 13). -/
def State.steerCheck (s : State) (i : Fin 16) (arrival : Nat) : State :=
  let c := s.crane i
  if c.link = .linked ∨ c.link = .degraded then
    match s.steerCase i with
    | some (b, margin) =>
      if c.steerFree arrival then
        (s.setCrane i { c with steerHoldoff := some (arrival + 1000000 * s.grid.params.steerHoldoff) }).raise .steer i.val
          (word c.serving) (word ((s.grid.cells.get b).getD 0)) (wordI margin)
      else s
    | none => s
  else s

/-! ## Handling one record (R75, R79) -/

/-- The effects of a used record (R79), after its outcomes. -/
def State.useRecord (s : State) (i : Fin 16) (h : UplinkHeader) (arrival : Nat) (own : UplinkOutcome) : State :=
  let c := s.crane i
  let c' := c.used h arrival s.grid.params.segmentCount s.stamp
  let s1 := (s.setCrane i c').setScratch
    { s.scratch with craneDue := s.scratch.craneDue || c'.square != c.square || c'.serving != c.serving }
  let s2 := if h.serving = 0 then s1
    else s1.sample (c.segmentOf s.grid.params.segmentCount h.position).1 h.band h.serving h.level arrival (.uplink i.val)
  let s3 := s2.judgeOnRecord i own
  s3.steerCheck i arrival

/-- A record is judged and, if used, applied (R75 to R79). -/
def State.judgeUplink (s : State) (i : Fin 16) (bytes : List Byte) (arrival : Nat) : State :=
  match (s.crane i).judgeHeader bytes with
  | .unused o => (s.giveOutcome i o).judgeOnRecord i o
  | .inSequence missing =>
    let own : UplinkOutcome := if (s.crane i).early arrival then .cadence else .good
    ((s.giveMissing i missing).giveOutcome i own).useRecord i (UplinkHeader.read bytes) arrival own

/-- An uplink queue entry is handled for the crane of its window (R75): a DORMANT crane's is discarded, and the crane's mirror record
is written once, at the end, if the record called for it (R79, R89). -/
def State.uplinkRecord (s : State) (i : Fin 16) (bytes : List Byte) (arrival : Nat) : State :=
  if (s.crane i).link = .dormant then s
  else
    let s1 := (s.setScratch { s.scratch with deferred := some i, craneDue := false }).judgeUplink i bytes arrival
    let s2 := s1.setScratch { s1.scratch with deferred := none, craneDue := false }
    if s1.scratch.craneDue then s2.writeCraneMirror i else s2

/-! ## Crane commands (R72 to R74) -/

/-- The eight parameters as arguments 2 to 9 give them, with the meaning R72 gives argument 0. -/
def State.craneArgs (s : State) : CraneParams :=
  { craneId := s.arg 2, cadence := s.arg 3, early := s.arg 4, heartbeat := s.arg 5,
    recover := if s.arg 6 = 0 then 3 else s.arg 6, degrade := if s.arg 7 = 0 then 4 else s.arg 7,
    cap := s.arg 8, segmentLength := s.arg 9 }

/-- The ranges of R72. -/
def CraneParams.inRange (p : CraneParams) : Bool :=
  decide (1 ≤ p.craneId ∧ p.craneId ≤ 254) && decide (5 ≤ p.cadence ∧ p.cadence ≤ 1000) &&
    decide (p.early ≤ p.cadence - 1) && decide (10 ≤ p.heartbeat ∧ p.heartbeat ≤ 5000) &&
    decide (1 ≤ p.recover ∧ p.recover ≤ 15) && decide (1 ≤ p.degrade ∧ p.degrade ≤ 32) &&
    decide (5 ≤ p.cap ∧ p.cap ≤ 500) && decide (50 ≤ p.segmentLength ∧ p.segmentLength ≤ 500)

/-- Another attached crane has this crane ID (R72, R73). -/
def State.craneIdTaken (s : State) (i : Fin 16) (craneId : Nat) : Bool :=
  (List.finRange 16).any fun j =>
    j != i && (s.crane j).link != .dormant && (s.crane j).params.craneId == craneId

/-- The context of a crane right after ATTACH CRANE (R70). -/
def Crane.attached (p : CraneParams) : Crane := { Crane.cleared with link := .lost, params := p }

/-- An in-use window of a crane kind names the crane (R74). -/
def State.craneHasWindow (s : State) (i : Fin 16) : Bool :=
  s.windows.toList.any fun w =>
    w.inUse && (w.kind == some .craneDown || w.kind == some .craneUp) && w.crane == some i

/-- RESTART for one crane context (R67, R91): an attached crane becomes LOST and a slot table is emptied. -/
def Crane.restarted (c : Crane) : Crane :=
  let c1 := if c.link = .dormant then c
    else { c with link := .lost, errors := [], goodCount := 0, heartbeat := none, expected := none, prevArrival := none,
                  steerHoldoff := none }
  if c.slots.isSome then
    { c1 with slots := c.slots.map fun l => l.map fun _ => Slot.setup, pendingSlots := [], downExpected := none,
              lastPassed := none, lastCraneVerdict := .pass, madeCount := 0 }
  else c1

end Sys2Proof.Machine
end

