-- ==== Sys2Proof/Machine/Windows.lean ====
section
/-! DEFINITION. The Window Matcher's table (chapter 2): matching, the four window commands and the counters. -/

namespace Sys2Proof.Machine

/-! ## Matching (R23) -/

/-- A physical address falls in the window (R21). -/
def Window.contains (w : Window) (a : Nat) : Bool := w.inUse && decide (w.base ≤ a) && decide (a < w.base + w.size)

/-- The in-use window an address falls in (R23). -/
def State.windowAt (s : State) (a : Nat) : Option (Fin 32) := firstIndex s.windows fun w => w.contains a

/-- The offset in the control page, for an address of the page (R23). -/
def State.pageOffset (s : State) (a : Nat) : Option Nat :=
  if s.pageAddr 0 ≤ a ∧ a < s.pageAddr 4096 then some (a - s.pageAddr 0) else none

/-- A master is in the writer set (R24). -/
def Window.permits (w : Window) (m : MasterId) : Bool := w.writers.getLsbD m.toNat

/-- The part-only kinds (R22). -/
def WindowKind.partOnly : WindowKind → Bool
  | .noticeRing | .reeferMirror | .gridMirror | .craneMirror => true
  | .craneDown | .craneUp | .reeferIn | .measureIn | .timeIn | .guarded => false

/-- A write into the window is blocked (R24). -/
def Window.blocks (w : Window) (m : MasterId) : Bool :=
  (match w.kind with | some k => k.partOnly | none => false) || !w.permits m

/-- The mirror a window kind names (R29). -/
def WindowKind.mirror : WindowKind → Option MirrorKind
  | .reeferMirror => some .reefer
  | .gridMirror => some .grid
  | .craneMirror => some .crane
  | .craneDown | .craneUp | .reeferIn | .measureIn | .timeIn | .noticeRing | .guarded => none

/-- A crane kind (R22). -/
def WindowKind.ofCrane : WindowKind → Bool
  | .craneDown | .craneUp => true
  | .reeferIn | .measureIn | .timeIn | .noticeRing | .reeferMirror | .gridMirror | .craneMirror | .guarded => false

/-! ## DEFINE WINDOW (R27 to R29) -/

/-- The size rule of a kind (R22, R27). -/
def sizeRule (k : WindowKind) (size slotSize ringWord : Nat) : Bool :=
  match k with
  | .craneDown =>
    [256, 512, 1024, 2048].contains slotSize && size % slotSize == 0 && decide (8 ≤ size / slotSize) &&
      decide (size / slotSize ≤ 64)
  | .noticeRing => decide (32 * ringWord ≤ size)
  | .reeferMirror => size == 262144
  | .gridMirror => size == 8192
  | .craneMirror => size == 4096
  | .craneUp | .reeferIn | .measureIn | .timeIn | .guarded => true

/-- Two address ranges share an address. -/
def rangesMeet (b1 n1 b2 n2 : Nat) : Bool := decide (b1 < b2 + n2) && decide (b2 < b1 + n1)

/-- Another in-use window, at an index other than i, meets `p`. -/
def State.otherWindow (s : State) (i : Fin 32) (p : Window → Bool) : Bool :=
  (List.finRange 32).any fun j => j != i && (s.window j).inUse && p (s.window j)

/-- The base that arguments 3 and 4 give (R27). -/
def State.defineBase (s : State) : Nat := s.arg 3 + 4294967296 * s.arg 4

/-- The size in bytes that argument 5 gives (R27). -/
def State.defineSize (s : State) : Nat := 4096 * s.arg 5

/-- The entry a DEFINE WINDOW that passes its checks leaves (R28). -/
def State.definedWindow (s : State) (k : WindowKind) : Window :=
  { inUse := true, kind := some k, base := s.defineBase, size := s.defineSize,
    slotSize := if k = .craneDown then some (s.arg 6) else none,
    crane := if k.ofCrane then asIndex 16 (s.arg 7) else none,
    writers := BitVec.ofNat 64 (s.arg 8 + 4294967296 * s.arg 9), lock := .openLevel, taken := 0, missed := 0, torn := 0,
    blocked := 0 }

/-- The arguments of check 3 of R27 are out of range. -/
def State.defineArgsBad (s : State) (k : WindowKind) : Bool :=
  s.arg 3 % 4096 != 0 || decide (256 ≤ s.arg 4) || decide (s.arg 5 < 1 ∨ 4096 < s.arg 5) ||
    decide (1099511627776 < s.defineBase + s.defineSize) || (k.ofCrane && decide (15 < s.arg 7)) ||
    !sizeRule k s.defineSize (s.arg 6) s.notice.lengthWord

/-- Checks 4 to 6 of R27, in order. -/
def State.defineConflict (s : State) (i : Fin 32) (k : WindowKind) : Option ResultCode :=
  if rangesMeet s.defineBase s.defineSize (s.pageAddr 0) 4096 ||
      s.otherWindow i (fun w => rangesMeet s.defineBase s.defineSize w.base w.size) then some .overlap
  else match (s.definedWindow k).crane with
    | some c =>
      if (s.crane c).link = .dormant then some .state
      else if s.otherWindow i (fun w => w.kind == some k && w.crane == some c) then some .state
      else none
    | none =>
      if k.mirror.isSome && s.otherWindow i (fun w => w.kind == some k) then some .state else none

/-- The entries of a queue that came from window i lose their counted mark (R30, R37). -/
def uncountFrom (i : Fin 32) (q : List QueueEntry) : List QueueEntry :=
  q.map fun e => if e.window = i then { e with counted := false } else e

/-- R30, R37: for all four queues. -/
def Intake.uncountFrom (q : Intake) (i : Fin 32) : Intake :=
  { uplink := Machine.uncountFrom i q.uplink, reefer := Machine.uncountFrom i q.reefer,
    measure := Machine.uncountFrom i q.measure, time := Machine.uncountFrom i q.time }

/-- The Downlink Supervisor discards the slot table of a CRANE_DOWN window that goes (R66). -/
def State.dropSlotTable (s : State) (w : Window) : State :=
  match w.kind, w.crane with
  | some .craneDown, some c => s.setCrane c (s.crane c).discardSlots
  | _, _ => s

/-- A window is removed, with the effects DELETE WINDOW has on it (R30, R66). -/
def State.removeWindow (s : State) (i : Fin 32) : State :=
  let w := s.window i
  let s1 := (s.dropSlotTable w).setIntake (s.intake.uncountFrom i)
  let s2 := s1.setWindow i .cleared
  if w.kind = some .noticeRing then s2.rejudgeRing else s2

/-- The further effects of a window that has become in use (R29). -/
def State.windowEffects (s : State) (w : Window) : State :=
  match w.kind, w.crane, w.slotSize with
  | some .craneDown, some c, some size => s.setCrane c ((s.crane c).setupSlots (w.size / size))
  | some .noticeRing, _, _ => s.rejudgeRing
  | some k, _, _ =>
    match k.mirror with
    | some m => s.setMirror { target := some m, position := 0 }
    | none => s
  | none, _, _ => s

/-- DEFINE WINDOW on an entry (R27 to R29); RUNNING when it starts a refresh. -/
def State.defineWindowAt (s : State) (i : Fin 32) (k : WindowKind) : State × ResultCode :=
  if (s.window i).inUse ∧ (s.window i).lock ≠ .openLevel then (s, .locked)
  else if s.defineArgsBad k then (s, .badArgument)
  else match s.defineConflict i k with
    | some r => (s, r)
    | none =>
      let w := s.definedWindow k
      let s1 := if (s.window i).inUse then s.removeWindow i else s
      ((s1.setWindow i w).windowEffects w, if k.mirror.isSome then .running else .done)

/-- DEFINE WINDOW (R27). -/
def State.doDefineWindow (s : State) : State × ResultCode :=
  match asIndex 32 (s.arg 1), WindowKind.ofCode (s.arg 2) with
  | some i, some k => s.defineWindowAt i k
  | _, _ => (s, .badArgument)

/-! ## DELETE, LOCK and UNLOCK WINDOW (R30 to R32) -/

/-- DELETE WINDOW (R30). -/
def State.doDeleteWindow (s : State) : State × ResultCode :=
  match asIndex 32 (s.arg 1) with
  | none => (s, .badArgument)
  | some i =>
    if !(s.window i).inUse then (s, .notFound)
    else if (s.window i).lock ≠ .openLevel then (s, .locked)
    else (s.removeWindow i, .done)

/-- LOCK WINDOW to a level (R31). -/
def State.lockAt (s : State) (i : Fin 32) (level : LockLevel) : State × ResultCode :=
  let w := s.window i
  if !w.inUse then (s, .notFound)
  else match w.lock, level with
    | .openLevel, .locked => (s.setWindow i { w with lock := .locked }, .done)
    | .openLevel, .tight => (s.setWindow i { w with lock := .tight }, .done)
    | .locked, .tight => (s.setWindow i { w with lock := .tight }, .done)
    | _, _ => (s, .state)

/-- LOCK WINDOW (R31). -/
def State.doLockWindow (s : State) : State × ResultCode :=
  match asIndex 32 (s.arg 1) with
  | none => (s, .badArgument)
  | some i =>
    if s.arg 2 = 1 then s.lockAt i .locked
    else if s.arg 2 = 2 then s.lockAt i .tight
    else (s, .badArgument)

/-- UNLOCK WINDOW (R32). -/
def State.doUnlockWindow (s : State) : State × ResultCode :=
  match asIndex 32 (s.arg 1) with
  | none => (s, .badArgument)
  | some i =>
    let w := s.window i
    if !w.inUse then (s, .notFound)
    else match w.lock with
      | .tight => (s, .locked)
      | .openLevel => (s, .state)
      | .locked => (s.setWindow i { w with lock := .openLevel }, .done)

/-! ## Counters (R38, R43, R170) -/

/-- All four counters of a window at 0 (R170). -/
def Window.zeroed (w : Window) : Window := { w with taken := 0, missed := 0, torn := 0, blocked := 0 }

/-- The counted marks of every queued entry cleared (R38). -/
def Intake.uncountAll (q : Intake) : Intake :=
  { uplink := q.uplink.map fun e => { e with counted := false }, reefer := q.reefer.map fun e => { e with counted := false },
    measure := q.measure.map fun e => { e with counted := false }, time := q.time.map fun e => { e with counted := false } }

/-- A queued entry discarded by RESTART counts as missed when its mark is set and its window in use (R43). -/
def State.discardEntry (s : State) (e : QueueEntry) : State :=
  let w := s.window e.window
  if e.counted && w.inUse then s.setWindow e.window { w with missed := satAdd w.missed 1 } else s

/-- RESTART discards every entry of the four queues (R43). -/
def State.discardIntake (s : State) : State :=
  ((s.intake.uplink ++ s.intake.reefer ++ s.intake.measure ++ s.intake.time).foldl State.discardEntry s).setIntake
    { uplink := [], reefer := [], measure := [], time := [] }

/-- An entry is dequeued from window e.window: taken +1 for a counted entry whose window is in use (R37). -/
def State.countTaken (s : State) (e : QueueEntry) : State :=
  let w := s.window e.window
  if e.counted && w.inUse then s.setWindow e.window { w with taken := satAdd w.taken 1 } else s

end Sys2Proof.Machine
end

