-- ==== Sys2Proof/Machine/Excursion.lean ====
section
/-! DEFINITION. The excursion arithmetic of one report (chapter 7), as a pure computation on a reefer entry. -/

namespace Sys2Proof.Machine

/-- The measured temperature T before clamping (R133): none when the report is sensor absent. -/
def measured (supply returnAir : Int) : Option Int :=
  if supply ≠ 32767 then some supply else if returnAir ≠ 32767 then some returnAir else none

/-- What the bookkeeping hands the arithmetic (R132). -/
structure ArithmeticInput where
  arrival : Nat
  previousHeard : Nat
  previousPower : Power
  defrostStart : Option Nat
  now : Stamp
deriving DecidableEq, Repr

/-- The elapsed time Δt in seconds (R135). -/
def elapsed (e : ReeferEntry) (c : Criteria) (i : ArithmeticInput) : Nat :=
  if e.filtered = none then 0 else min ((i.arrival - i.previousHeard) / 1000000) c.elapsedCap

/-- The interval is excused by the defrost allowance (R136). -/
def excused (e : ReeferEntry) (c : Criteria) (i : ArithmeticInput) : Bool :=
  e.side == .above && i.previousPower == .defrost &&
    match i.defrostStart with
    | some d => decide (i.arrival ≤ d + 60000000 * c.defrostAllowance)
    | none => false

/-- The contribution of the report (R136). -/
def contribution (e : ReeferEntry) (c : Criteria) (i : ArithmeticInput) : Nat :=
  if excused e c i then 0 else e.excess * elapsed e c i

/-- The new F (R138). -/
def filteredNext (f : Option Int) (shift : Nat) (t : Int) : Int :=
  match f with
  | none => t
  | some v => v + filterStep (t - v) shift

/-- The band test (R139): the excess and its side. -/
def bandTest (c : Criteria) (deviation : Int) : Nat × Side :=
  if (c.upper : Int) < deviation then ((deviation - c.upper).toNat, .above)
  else if deviation < -(c.lower : Int) then ((-(c.lower : Int) - deviation).toNat, .below)
  else (0, .inBand)

/-- A notice of the arithmetic (R143). -/
structure ArithmeticNotice where
  kind : NoticeKind
  value1 : Word
  value2 : Word
  value3 : Word
deriving DecidableEq, Repr

/-- Steps R133 to R140 for a temperature T: the entry after accumulation, filter and band test. -/
def ReeferEntry.charged (e : ReeferEntry) (c : Criteria) (i : ArithmeticInput) (raw : Int) : ReeferEntry :=
  let t := clamp (-4000) 4000 raw
  let f := filteredNext e.filtered c.shift t
  let band := bandTest c (f - e.setpoint.getD 0)
  { e with
    sensorRange := t != raw
    accumulator := satAdd e.accumulator (contribution e c i)
    filtered := some f
    excess := band.1
    side := band.2
    outOfBandSince := if e.side = .inBand ∧ band.2 ≠ .inBand then some i.now else e.outOfBandSince }

/-- Declaration (R141). -/
def ReeferEntry.declared (e : ReeferEntry) (c : Criteria) : ReeferEntry :=
  if e.state = .active ∧ 60 * c.limit ≤ e.accumulator then { e with state := .excursion } else e

/-- The in-band count after the band test (R142). -/
def ReeferEntry.countNext (e : ReeferEntry) (c : Criteria) : Nat :=
  if e.side = .inBand then min (e.inBandCount + 1) c.settle else 0

/-- Settling and clearing (R142). -/
def ReeferEntry.settled (e : ReeferEntry) (c : Criteria) : ReeferEntry :=
  if e.countNext c = c.settle then
    { e with inBandCount := e.countNext c, accumulator := 0, state := if e.state = .excursion then .active else e.state }
  else { e with inBandCount := e.countNext c }

/-- The arithmetic of one report (R132 to R142): the entry after it and its notices, in order (R143). -/
def ReeferEntry.arithmetic (e : ReeferEntry) (c : Criteria) (i : ArithmeticInput) (supply returnAir : Int) :
    ReeferEntry × List ArithmeticNotice :=
  match measured supply returnAir with
  | none => (e, [])
  | some raw =>
    let e1 := e.charged c i raw
    let e2 := e1.declared c
    let e3 := e2.settled c
    let since := word (stampLow e1.outOfBandSince)
    (e3,
      (if e1.state ≠ .excursion ∧ e2.state = .excursion then
        [⟨.excursionStart, since, word e1.accumulator, wordI (signedExcess e1.excess e1.side)⟩] else []) ++
      (if e2.state = .excursion ∧ e3.state ≠ .excursion then
        [⟨.excursionClear, since, word e1.accumulator, wordI (e1.filtered.getD 0)⟩] else []))

end Sys2Proof.Machine
end

