-- ==== Sys2Proof/Machine/Reefer.lean ====
section
/-! DEFINITION. The Reefer Table (chapter 6): lookup, enrolment, eviction, the handling of a report, the silence sweep, and the
reefer commands as functions of the state. -/

namespace Sys2Proof.Machine

/-! ## Lookup (R114, R117, R118) -/

/-- The entry that holds a tag (R114). -/
def ReeferTable.holder (r : ReeferTable) (tag : Nat) : Option (Fin 4096) :=
  firstIndex r.entries fun e => e.state != .vacant && e.tag == tag

/-- The lowest-index VACANT entry. -/
def ReeferTable.lowestVacant (r : ReeferTable) : Option (Fin 4096) := firstIndex r.entries fun e => e.state == .vacant

/-- Of a candidate victim and an entry at index n, the SILENT one with the older last heard time; ties go to the candidate. -/
def olderSilent (best : Option (Nat × Nat)) (n : Nat) (e : ReeferEntry) : Option (Nat × Nat) :=
  if e.state = .silent then
    match best with
    | some (_, t) => if e.lastHeard < t then some (n, e.lastHeard) else best
    | none => some (n, e.lastHeard)
  else best

/-- The victim of an eviction: the SILENT entry with the oldest last heard time, ties to the lower index (R118). -/
def ReeferTable.victim (r : ReeferTable) : Option (Fin 4096) :=
  match r.entries.toList.zipIdx.foldl (fun best x => olderSilent best x.2 x.1) none with
  | some (n, _) => asIndex 4096 n
  | none => none

/-! ## The reefer mirror record (R128) -/

/-- The mirror record of entry n is written. -/
def State.writeReeferMirror (s : State) (n : Fin 4096) : State :=
  s.handMirror .reeferMirror (64 * n.val) (s.entry n).mirrorRecord

/-! ## Enrolment (R117, R118) -/

/-- An entry that takes a new tag (R117). -/
def ReeferEntry.newlyEnrolled (tag : Nat) (criteria : Fin 16) (square : Option (Fin 512)) (heard : Nat) : ReeferEntry :=
  { ReeferEntry.cleared with state := .enrolled, tag, criteria, square, lastHeard := heard }

/-- The entry that a new tag can take, and whether an eviction frees it (R117, R118). -/
def ReeferTable.placeFor (r : ReeferTable) : Option (Fin 4096 × Bool) :=
  match r.lowestVacant with
  | some n => some (n, false)
  | none => r.victim.map fun n => (n, true)

/-- SILENT_EVICTED for the victim n and the new tag (R118). -/
def State.noticeEviction (s : State) (n : Fin 4096) (newTag : Nat) : State :=
  let e := s.entry n
  s.raise .silentEvicted n.val (word e.tag) (word newTag) (word ((s.time.lt - e.lastHeard) / 1000000))

/-- A new tag takes entry n, which an eviction freed if `evicted` (R117, R118). -/
def State.enrolAt (s : State) (n : Fin 4096) (evicted : Bool) (tag : Nat) (criteria : Fin 16) (square : Option (Fin 512))
    (heard : Nat) : State :=
  (if evicted then s.noticeEviction n tag else s).setEntry n (.newlyEnrolled tag criteria square heard)

/-- The table-full limiter at a report dropped at local time t (R118): TABLE_FULL is raised. -/
def limiterOpen (last : Option Nat) (t : Nat) : Bool :=
  match last with
  | some a => decide (60000000 + a ≤ t)
  | none => true

/-- A report dropped for want of an entry (R118). -/
def State.dropReport (s : State) (tag : Nat) : State :=
  let r := s.reefer
  let opened := limiterOpen r.tableFull s.time.lt
  let s1 := s.setReefer { r with
    dropped := satAdd r.dropped 1
    tableFull := if opened then some s.time.lt else r.tableFull }
  if opened then
    s1.raise .tableFull 0 (word tag) (word s1.reefer.dropped) (word (s1.reefer.inState .excursion))
  else s1

/-! ## The steps of a report (R120 to R125) -/

/-- Step 1 (R121): the report is used. -/
def ReeferEntry.accepts (e : ReeferEntry) (sequence : Nat) : Bool :=
  match e.lastSequence with
  | none => true
  | some l => decide (1 ≤ seqDiff sequence l) && decide (seqDiff sequence l ≤ 32767)

/-- Steps 1 and 2 for a used report (R120, R121). -/
def ReeferEntry.accepted (e : ReeferEntry) (sequence : Nat) : ReeferEntry :=
  { e with
    lastSequence := some sequence
    missed := match e.lastSequence with
      | none => e.missed
      | some l => satAdd e.missed (seqDiff sequence l - 1)
    sensorRange := false, setpointClamp := false, alarmClamp := false, powerUnknown := false
    reports := satAdd e.reports 1 }

/-- Step 3 (R121). -/
def ReeferEntry.revived (e : ReeferEntry) : ReeferEntry :=
  match e.state with
  | .enrolled => { e with state := .active, wasInExcursion := false }
  | .silent => { e with state := if e.wasInExcursion then .excursion else .active, wasInExcursion := false }
  | .vacant | .active | .excursion => e

/-- The report's alarm set (R122): 0 is dropped, and a code already read is dropped. -/
def alarmSet (count : Nat) (places : List Nat) : List Nat :=
  (places.take (min count 6)).foldl (fun l c => if c = 0 ∨ c ∈ l then l else l ++ [c]) []

/-- Two alarm lists hold the same codes, without regard to order (R122). -/
def sameAlarms (a b : List Nat) : Bool := a.all (b.contains ·) && b.all (a.contains ·)

/-- Step 4 (R122). -/
def ReeferEntry.alarmed (e : ReeferEntry) (count : Nat) (places : List Nat) : ReeferEntry :=
  { e with
    alarmClamp := decide (6 < count)
    alarms := if sameAlarms e.alarms (alarmSet count places) then e.alarms else alarmSet count places }

/-- The first four codes of an alarm list in one word, the first in bits 7 to 0 (R122). -/
def alarmWord (l : List Nat) : Nat :=
  l.getD 0 0 + 256 * l.getD 1 0 + 65536 * l.getD 2 0 + 16777216 * l.getD 3 0

/-- The power state of a report (R123): any value other than 1, 2 or 3 is taken as ON. -/
def Power.ofReport : Nat → Power
  | 2 => .off
  | 3 => .defrost
  | _ => .on

/-- Step 5 (R123). -/
def ReeferEntry.powered (e : ReeferEntry) (value arrival : Nat) : ReeferEntry :=
  { e with
    powerUnknown := decide (value < 1 ∨ 3 < value)
    power := Power.ofReport value
    defrostStart :=
      if Power.ofReport value = .defrost then (if e.power = .defrost then e.defrostStart else some arrival)
      else if e.power = .defrost then none else e.defrostStart }

/-- Step 6 (R124). -/
def ReeferEntry.repointed (e : ReeferEntry) (raw : Int) : ReeferEntry :=
  let sp := clamp (-3000) 3000 raw
  let e1 := { e with setpointClamp := sp != raw, setpoint := some sp }
  if e.setpoint ≠ none ∧ e.setpoint ≠ some sp then
    { e1 with accumulator := 0, inBandCount := 0, excess := 0, side := .inBand,
              state := if e.state = .excursion then .active else e.state }
  else e1

/-- Step 8 (R125). -/
def ReeferEntry.heard (e : ReeferEntry) (arrival : Nat) : ReeferEntry := { e with lastHeard := max e.lastHeard arrival }

/-- The previous last heard handed to the arithmetic (R125). -/
def ReeferEntry.previousHeard (e : ReeferEntry) (arrival : Nat) : Nat := min e.lastHeard arrival

/-- RETURNED at step 3 (R121). -/
def State.noticeReturn (s : State) (n : Fin 4096) (before after : ReeferEntry) (arrival : Nat) : State :=
  if before.state = .silent then
    s.raise .returned n.val (word before.tag) (word ((arrival - before.lastHeard) / 1000000)) (word after.state.code)
  else s

/-- ALARM_CHANGE at step 4 (R122). -/
def State.noticeAlarms (s : State) (n : Fin 4096) (before after : ReeferEntry) : State :=
  if before.alarms = after.alarms then s
  else s.raise .alarmChange n.val (word before.tag) (word after.alarms.length) (word (alarmWord after.alarms))

/-- SETPOINT_CHANGE at step 6 (R124). -/
def State.noticeSetpoint (s : State) (n : Fin 4096) (before after : ReeferEntry) : State :=
  match before.setpoint, after.setpoint with
  | some a, some b => if a = b then s else s.raise .setpointChange n.val (word before.tag) (wordI a) (wordI b)
  | _, _ => s

/-- Step 7 (R125): the coverage sample. -/
def State.reeferSample (s : State) (n : Fin 4096) (e : ReeferEntry) (r : ReeferReport) (arrival : Nat) : State :=
  match e.square with
  | some q => if r.serving = 0 then s else s.sample (q.val / 4) (q.val % 4) r.serving r.level arrival (.reefer n.val)
  | none => s

/-- A used report at entry n (R120, steps 2 to 10). -/
def State.useReport (s : State) (n : Fin 4096) (r : ReeferReport) (arrival : Nat) : State :=
  let e1 := (s.entry n).accepted r.sequence
  let e2 := e1.revived
  let s2 := s.noticeReturn n e1 e2 arrival
  let e3 := e2.alarmed r.alarmCount r.alarmPlaces
  let s3 := s2.noticeAlarms n e2 e3
  let e4 := e3.powered r.power arrival
  let e5 := e4.repointed r.setpoint
  let s5 := s3.noticeSetpoint n e4 e5
  let s6 := s5.reeferSample n e5 r arrival
  let e7 := e5.heard arrival
  let out := e7.arithmetic (s.criteria e7.criteria)
    { arrival, previousHeard := e5.previousHeard arrival, previousPower := e3.power, defrostStart := e3.defrostStart,
      now := s.stamp } r.supply r.returnAir
  let s8 := s6.setEntry n out.1
  (out.2.foldl (fun t x => t.raise x.kind n.val x.value1 x.value2 x.value3) s8).writeReeferMirror n

/-- A report is handled for the entry n (R120, R121): a duplicate or old report shows only in the duplicate count. -/
def State.reportFor (s : State) (n : Fin 4096) (r : ReeferReport) (arrival : Nat) : State :=
  let e := s.entry n
  if e.accepts r.sequence then s.useReport n r arrival
  else (s.setEntry n { e with duplicates := satAdd e.duplicates 1 }).writeReeferMirror n

/-- ENROLLED of automatic enrolment (R118). -/
def State.noticeEnrolment (s : State) (n : Fin 4096) (tag : Nat) (evicted : Bool) : State :=
  s.raise .enrolled n.val (word tag) (word 0) (word (boolNat evicted))

/-- A report from a tag not held (R118). -/
def State.unknownTag (s : State) (r : ReeferReport) (arrival : Nat) : State :=
  match s.reefer.mode with
  | .manual => s.setReefer { s.reefer with unknownTags := satAdd s.reefer.unknownTags 1 }
  | .auto =>
    match s.reefer.placeFor with
    | some (n, evicted) =>
      ((s.enrolAt n evicted r.tag 0 none arrival).noticeEnrolment n r.tag evicted).reportFor n r arrival
    | none => s.dropReport r.tag

/-- A reefer queue entry is handled (R120). -/
def State.reeferRecord (s : State) (bytes : List Byte) (arrival : Nat) : State :=
  let r := ReeferReport.read bytes
  if r.kind ≠ 1 ∨ r.tag = 0 then s.setReefer { s.reefer with rejected := satAdd s.reefer.rejected 1 }
  else match s.reefer.holder r.tag with
    | some n => s.reportFor n r arrival
    | none => s.unknownTag r arrival

/-! ## The silence sweep (R127) -/

/-- The states a sweep visit judges (R127). -/
def ReeferState.watched : ReeferState → Bool
  | .enrolled | .active | .excursion => true
  | .vacant | .silent => false

/-- A sweep visit of entry n (R126, R127). -/
def State.sweepEntry (s : State) (n : Fin 4096) : State :=
  let e := s.entry n
  let s1 := s.setReefer { s.reefer with sweep := s.reefer.sweep.visited 4095 }
  let age := s.time.lt - e.lastHeard
  if e.state.watched && decide (1000000 * (s.criteria e.criteria).silentLimit < age) then
    ((s1.setEntry n { e with state := .silent, wasInExcursion := e.state == .excursion }).raise .silent n.val (word e.tag)
      (word (age / 1000000)) (word e.state.code)).writeReeferMirror n
  else s1

/-! ## The reefer commands (R116 to R119) -/

/-- The criteria fields as arguments 2 to 9 give them (R116). -/
def State.criteriaArgs (s : State) : Criteria :=
  { upper := s.arg 2, lower := s.arg 3, shift := s.arg 4, limit := s.arg 5, settle := s.arg 6, elapsedCap := s.arg 7,
    defrostAllowance := s.arg 8, silentLimit := s.arg 9 }

/-- The ranges of R115. -/
def Criteria.inRange (c : Criteria) : Bool :=
  decide (c.upper ≤ 1000) && decide (c.lower ≤ 1000) && decide (1 ≤ c.shift ∧ c.shift ≤ 4) &&
    decide (1 ≤ c.limit ∧ c.limit ≤ 100000) && decide (1 ≤ c.settle ∧ c.settle ≤ 8) &&
    decide (60 ≤ c.elapsedCap ∧ c.elapsedCap ≤ 3600) && decide (c.defrostAllowance ≤ 90) &&
    decide (60 ≤ c.silentLimit ∧ c.silentLimit ≤ 7200)

/-- SET CRITERIA (R116). -/
def State.doSetCriteria (s : State) : State × ResultCode :=
  match asIndex 16 (s.arg 1) with
  | some i =>
    if s.criteriaArgs.inRange then
      (s.setReefer { s.reefer with criteria := upd s.reefer.criteria i s.criteriaArgs }, .done)
    else (s, .badArgument)
  | none => (s, .badArgument)

/-- The square that argument 3 of ENROL REEFER names: 0 for none, otherwise the index + 1 (R117). -/
def squareArg (n : Nat) : Option (Fin 512) := if n = 0 then none else asIndex 512 (n - 1)

/-- ENROL REEFER with a nonzero tag and arguments in range (R117). -/
def State.enrolTag (s : State) (tag : Nat) (criteria : Fin 16) (square : Option (Fin 512)) : State × ResultCode :=
  match s.reefer.holder tag with
  | some n =>
    let e := s.entry n
    if e.criteria = criteria ∧ e.square = square then (s, .done)
    else ((s.setEntry n { e with criteria, square }).writeReeferMirror n, .done)
  | none =>
    match s.reefer.placeFor with
    | some (n, evicted) => ((s.enrolAt n evicted tag criteria square s.time.lt).writeReeferMirror n, .done)
    | none => (s, .full)

/-- ENROL REEFER (R117). -/
def State.doEnrolReefer (s : State) : State × ResultCode :=
  match asIndex 16 (s.arg 2) with
  | some c => if s.arg 1 = 0 ∨ 512 < s.arg 3 then (s, .badArgument) else s.enrolTag (s.arg 1) c (squareArg (s.arg 3))
  | none => (s, .badArgument)

/-- REMOVE REEFER (R119). -/
def State.doRemoveReefer (s : State) : State × ResultCode :=
  if s.arg 1 = 0 then (s, .badArgument)
  else match s.reefer.holder (s.arg 1) with
    | some n => ((s.setEntry n .cleared).writeReeferMirror n, .done)
    | none => (s, .notFound)

/-- SET ENROLMENT MODE (R118). -/
def State.doSetEnrolmentMode (s : State) : State × ResultCode :=
  if s.arg 1 = 0 then (s.setReefer { s.reefer with mode := .manual }, .done)
  else if s.arg 1 = 1 then (s.setReefer { s.reefer with mode := .auto }, .done)
  else (s, .badArgument)

end Sys2Proof.Machine
end

