-- ==== Sys2Proof/Machine/Time.lean ====
section
/-! DEFINITION. The Time Base (chapter 1): local time, slew, time messages, holdover, and the three time commands as functions of
the state. -/

namespace Sys2Proof.Machine

/-! ## Local time and slew (R1, R12) -/

/-- One slew step (R12): a nonzero S moves OC by 1 in its direction and itself by 1 toward 0. -/
def TimeBase.slewed (t : TimeBase) : TimeBase :=
  { t with oc := clamp64 (t.oc + t.slew.sign), slew := t.slew - t.slew.sign }

/-- One microsecond passes (R1), saturating; where local time rises onto a whole multiple of 1000 µs, the slew step of that millisecond
boundary comes about in the same microsecond (R12), so that terminal time stays level across it (R2, log entry 4). -/
def TimeBase.tick (t : TimeBase) : TimeBase :=
  let t1 := { t with lt := min (t.lt + 1) ltMax }
  if t1.lt % 1000 = 0 then t1.slewed else t1

/-- LOCAL_TIME_ADVANCE (R1, R12). -/
def execLocalTimeAdvance (s : State) : Host.Outcome State Fault Refusal :=
  quietEvent s true fun s => s.setTime s.time.tick

/-- The next microsecond is a millisecond boundary at which S is not 0 (R12). -/
def TimeBase.slewDue (t : TimeBase) : Bool := decide (t.lt < ltMax) && (t.lt + 1) % 1000 == 0 && t.slew != 0

/-- SLEW_STEP (R12): local time rises onto a millisecond boundary with a nonzero S. It is the advance of that microsecond, named by its
slew step (log entry 4). -/
def execSlewStep (s : State) : Host.Outcome State Fault Refusal :=
  quietEvent s s.time.slewDue fun s => s.setTime s.time.tick

/-! ## Violations (R10, R11) -/

/-- The reasons of R10. -/
inductive Violation where
  | remark
  | wrongMark
  | late
  | continuity
deriving DecidableEq, Repr

def Violation.code : Violation → Nat
  | .remark => 1
  | .wrongMark => 2
  | .late => 3
  | .continuity => 4

/-- A violation by a message with mark number `mark`, the capture being `captured` before it (R10, R11). -/
def State.violation (s : State) (v : Violation) (mark : Nat) (captured : Option Capture) : State :=
  (s.setFlag .timeViolation).raise .timeViolation 0 (word v.code) (word mark)
    (word (match captured with | some c => c.mark | none => 65536))

/-! ## MARK and VALUE (R5 to R9) -/

/-- A MARK taken while RUNNING (R5). -/
def State.markMessage (s : State) (m : TimeMessage) (arrival : Nat) : State :=
  let before := s.time.capture
  let s1 := s.setTime { s.time with capture := some ⟨m.mark, arrival⟩ }
  if before.isSome then s1.violation .remark m.mark before else s1

/-- The three checks of a VALUE, in order (R6), with I in µs: the first that fails, or none when it is accepted. -/
def TimeBase.judgeValue (t : TimeBase) (m : TimeMessage) (arrival : Nat) : Option Violation :=
  match t.capture with
  | none => some .wrongMark
  | some c =>
    if m.mark ≠ c.mark then some .wrongMark
    else if (2000 * t.interval : Int) < (arrival : Int) - c.ltm then some .late
    else if t.continuity ∧ t.tl ≠ none ∧ t.tl ≠ some m.previousTime then some .continuity
    else none

/-- The target offset OT (R7), held to the signed 64-bit range. -/
def TimeBase.targetOffset (t : TimeBase) (m : TimeMessage) (ltm : Nat) : Int :=
  clamp64 ((m.masterTime : Int) + m.sendDelay + t.linkDelay - ltm)

/-- The correction Δ (R7), held to the signed 64-bit range. -/
def TimeBase.correction (t : TimeBase) (m : TimeMessage) (ltm : Nat) : Int := clamp64 (t.targetOffset m ltm - t.oc)

/-- OC and S after an accepted VALUE (R8), in the order of its table. -/
def TimeBase.corrected (t : TimeBase) (m : TimeMessage) (ltm : Nat) : Int × Int :=
  if t.sync = .unset then (t.targetOffset m ltm, 0)
  else if (t.threshold : Int) < t.correction m ltm then (t.targetOffset m ltm, 0)
  else (t.oc, t.correction m ltm)

/-- The Time Base after an accepted VALUE (R8, R9). -/
def TimeBase.accepted (t : TimeBase) (m : TimeMessage) (ltm arrival : Nat) : TimeBase :=
  { t with oc := (t.corrected m ltm).1, slew := (t.corrected m ltm).2, tl := some m.masterTime, capture := none,
           lastSuccess := some arrival, sync := .synced }

/-- The step or backward notice of an accepted VALUE (R8, R11). -/
def State.correctionNotice (s : State) (t : TimeBase) (m : TimeMessage) (ltm : Nat) : State :=
  let d := t.correction m ltm
  if t.sync = .unset then s
  else if (t.threshold : Int) < d then
    s.raise .timeStep 0 (wordI (clamp32 d)) (word m.mark) (word t.threshold)
  else if d < -(t.threshold : Int) then
    s.raise .timeBackward 0 (wordI (clamp32 d)) (word m.mark) (word t.threshold)
  else s

/-- An accepted VALUE (R7 to R9, R11). -/
def State.acceptValue (s : State) (m : TimeMessage) (ltm arrival : Nat) : State :=
  let t := s.time
  let s1 := ((s.setTime (t.accepted m ltm arrival)).callStatus).correctionNotice t m ltm
  if t.sync = .synced then s1 else s1.raise .timeSynced 0 (word t.sync.code) (word m.mark) (word 0)

/-- The capture after a VALUE that fails a check (R6). -/
def TimeBase.afterViolation (t : TimeBase) : Violation → TimeBase
  | .late | .continuity => { t with capture := none }
  | .wrongMark | .remark => t

/-- A VALUE taken while RUNNING (R6). -/
def State.valueMessage (s : State) (m : TimeMessage) (arrival : Nat) : State :=
  match s.time.judgeValue m arrival with
  | some v => (s.setTime (s.time.afterViolation v)).violation v m.mark s.time.capture
  | none => s.acceptValue m (match s.time.capture with | some c => c.ltm | none => 0) arrival

/-- A time record is handled by its message kind and the run state (R4). -/
def State.timeRecord (s : State) (bytes : List Byte) (arrival : Nat) : State :=
  let m := TimeMessage.read bytes
  if s.time.run = .stopped then s
  else if m.kind = 1 then s.markMessage m arrival
  else if m.kind = 2 then s.valueMessage m arrival
  else s

/-- TIME_RECORD_DEQUEUE (R4, R37). -/
def execTimeRecordDequeue (s : State) : Host.Outcome State Fault Refusal :=
  event .timeJob s (!s.intake.time.isEmpty) fun s =>
    match s.intake.time with
    | e :: rest => ((s.setIntake { s.intake with time := rest }).countTaken e).timeRecord e.bytes e.arrival
    | [] => s

/-! ## Holdover (R13) -/

/-- Local time has passed the last success + 8 × I while RUNNING and SYNCED (R13). -/
def TimeBase.holdoverPassed (t : TimeBase) : Bool :=
  t.run == .running && t.sync == .synced &&
    match t.lastSuccess with
    | some a => decide (a + 8000 * t.interval < t.lt)
    | none => false

/-- HOLDOVER_EXPIRY (R13). -/
def execHoldoverExpiry (s : State) : Host.Outcome State Fault Refusal :=
  event .other s s.time.holdoverPassed fun s =>
    let t := s.time
    (((s.setTime { t with sync := .holdover }).callStatus).setFlag .timeLost).raise .timeLost 0 (word t.interval)
      (word (t.lastSuccess.getD 0)) (word 0)

/-! ## The time commands (R14 to R16) -/

/-- The ranges of R14. -/
def State.timeArgsGood (s : State) : Bool :=
  decide (100 ≤ s.arg 1 ∧ s.arg 1 ≤ 10000) && s.arg 1 % 100 == 0 && decide (s.arg 2 ≤ 100000) &&
    decide (100 ≤ s.arg 3 ∧ s.arg 3 ≤ 1000000) && decide (s.arg 4 ≤ 1)

/-- SET TIME PARAMETERS (R14). -/
def State.doSetTimeParameters (s : State) : State × ResultCode :=
  if s.time.run = .running then (s, .state)
  else if s.timeArgsGood then
    (s.setTime { s.time with interval := s.arg 1, linkDelay := s.arg 2, threshold := s.arg 3, continuity := s.arg 4 == 1 },
      .done)
  else (s, .badArgument)

/-- START TIME (R15). -/
def State.doStartTime (s : State) : State × ResultCode :=
  if s.time.run = .running then (s, .state)
  else ((s.setTime { s.time with run := .running }).callStatus, .done)

/-- STOP TIME and RESTART on the capture, TL and the sync state (R16, R19). -/
def TimeBase.unpaired (t : TimeBase) : TimeBase :=
  { t with capture := none, tl := none, sync := if t.sync = .synced then .holdover else t.sync }

/-- STOP TIME (R16). -/
def State.doStopTime (s : State) : State × ResultCode :=
  if s.time.run = .stopped then (s, .state)
  else ((s.setTime { s.time.unpaired with run := .stopped }).callStatus, .done)

end Sys2Proof.Machine
end

