-- ==== Sys2Proof/WellFormed.lean ====
section
/-! DEFINITION. Which commands are well formed: a transfer has the shape R20 gives every transfer. -/

namespace Sys2Proof

/-- A transfer of `bytes` bytes at `addr` (R20): it starts 16-byte aligned, holds 1 to 16 whole beats and does not cross a 4 KiB
boundary. -/
def spanWf (addr bytes : Nat) : Bool :=
  addr % 16 == 0 && bytes % 16 == 0 && decide (16 ≤ bytes) && decide (bytes ≤ 256) &&
    decide (addr % 4096 + bytes ≤ 4096)

/-- R20 for one transfer. -/
def Transfer.wf : Transfer → Bool
  | .read _ addr beats => spanWf addr.toNat (16 * beats)
  | .write _ addr lanes => spanWf addr.toNat lanes.length

/-- The command's operands have the shape the spec gives them: a transfer is one by R20, a write of one of the three ring words has one
lane for each of its bytes (R150, R153), and a write from a beat of the control page is a transfer of the page (R160). -/
def Instr.wf : Instr → Bool
  | .readTransfer m a n => (Transfer.read m a n).wf
  | .writeTransfer m a l => (Transfer.write m a l).wf
  | .ringBaseWrite _ l => l.length == 8
  | .ringLengthWrite _ l => l.length == 4
  | .consumerIndexWrite _ l => l.length == 4
  | .controlPageWrite _ b l => decide (b < 256) && spanWf (16 * b) l.length
  | _ => true

end Sys2Proof
end

