-- ==== Sys2Proof/Machine/Transfers.lean ====
section
/-! DEFINITION. Transfers at the upstream port (chapter 2, R150, R153, R160) and the six commands that present one. -/

namespace Sys2Proof.Machine

/-! ## Record Intake (R33 to R36) -/

/-- The record size and capacity of an intake kind's queue (R22, R34). -/
def WindowKind.intakeShape : WindowKind → Option (Nat × Nat)
  | .craneUp => some (128, 16)
  | .reeferIn => some (64, 32)
  | .measureIn => some (64, 16)
  | .timeIn => some (32, 4)
  | .craneDown | .noticeRing | .reeferMirror | .gridMirror | .craneMirror | .guarded => none

/-- The queue of an intake kind (R34). -/
def Intake.queue (q : Intake) : WindowKind → List QueueEntry
  | .craneUp => q.uplink
  | .reeferIn => q.reefer
  | .measureIn => q.measure
  | .timeIn => q.time
  | .craneDown | .noticeRing | .reeferMirror | .gridMirror | .craneMirror | .guarded => []

/-- The queue of an intake kind is replaced. -/
def Intake.setQueue (q : Intake) (k : WindowKind) (l : List QueueEntry) : Intake :=
  match k with
  | .craneUp => { q with uplink := l }
  | .reeferIn => { q with reefer := l }
  | .measureIn => { q with measure := l }
  | .timeIn => { q with time := l }
  | .craneDown | .noticeRing | .reeferMirror | .gridMirror | .craneMirror | .guarded => q

/-- What settling the record positions of one transfer has come to so far. -/
structure Settlement where
  queue : List QueueEntry
  /-- The positions settled as torn, in address order. -/
  torn : List Nat
  /-- The positions settled as missed, in address order. -/
  missed : List Nat
deriving DecidableEq, Repr

/-- One record position is settled (R33): not touched, torn, missed, or taken into the queue. `bytes` are the record's bytes as the
transfer writes them. -/
def Settlement.settle (t : Settlement) (capacity position : Nat) (bytes : List (Option Byte)) (entry : List Byte → QueueEntry) :
    Settlement :=
  if bytes.all (·.isNone) then t
  else if bytes.any (·.isNone) then { t with torn := t.torn ++ [position] }
  else if t.queue.length < capacity then { t with queue := t.queue ++ [entry (bytes.filterMap id)] }
  else { t with missed := t.missed ++ [position] }

/-- The record positions a transfer of `len` bytes at offset `off` of a window reaches. -/
def reachedPositions (off len recordSize : Nat) : List Nat :=
  (List.range ((off + len - 1) / recordSize + 1 - off / recordSize)).map (· + off / recordSize)

/-- The bytes a transfer writes of a record position (R33). -/
def recordBytes (base recordSize position addr : Nat) (lanes : List Lane) : List (Option Byte) :=
  (List.range recordSize).map fun j => writtenByte addr lanes (base + position * recordSize + j)

/-- The settlement of one forwarded write into an intake window (R33, R34). -/
def State.settlement (s : State) (i : Fin 32) (k : WindowKind) (recordSize capacity addr : Nat) (lanes : List Lane) :
    Settlement :=
  let w := s.window i
  (reachedPositions (addr - w.base) lanes.length recordSize).foldl
    (fun t p => t.settle capacity p (recordBytes w.base recordSize p addr lanes) fun bytes =>
      { bytes, arrival := s.time.lt, window := i, crane := if k = .craneUp then w.crane else none, counted := true })
    { queue := s.intake.queue k, torn := [], missed := [] }

/-- The flag and the notice of torn or missed positions (R35, R36): one notice a transfer, with its first position and their number. -/
def State.reportPositions (s : State) (f : Flag) (k : NoticeKind) (i : Fin 32) (master : MasterId) (l : List Nat) : State :=
  match l with
  | [] => s
  | first :: _ => (s.setFlag f).raise k i.val (word master.toNat) (word first) (word l.length)

/-- Record Intake settles a forwarded write into an intake window (R33 to R36). -/
def State.intakeWrite (s : State) (i : Fin 32) (k : WindowKind) (master : MasterId) (addr : Nat) (lanes : List Lane) : State :=
  match k.intakeShape with
  | none => s
  | some (recordSize, capacity) =>
    let t := s.settlement i k recordSize capacity addr lanes
    let w := s.window i
    let s1 := (s.setIntake (s.intake.setQueue k t.queue)).setWindow i
      { w with torn := satAdd w.torn t.torn.length, missed := satAdd w.missed t.missed.length }
    (s1.reportPositions .tornRecord .tornRecord i master t.torn).reportPositions .intakeOverrun .intakeOverrun i master t.missed

/-! ## Blocked writes (R24 to R26) -/

/-- A byte of the control page that an upstream write may not write (R25, R179). -/
def pageForbidden (commandWriter : Bool) (off : Nat) : Bool :=
  (decide (off < 0x44) && !commandWriter) || (decide (0x80 ≤ off) && decide (off < 0xA0)) ||
    (decide (0x200 ≤ off) && decide (off < 0x260)) || (decide (0x400 ≤ off) && decide (off < 0x600))

/-- A write into the control page is blocked (R25): it writes a byte forbidden to its master. -/
def State.pageBlocks (s : State) (master : MasterId) (off : Nat) (lanes : List Lane) : Bool :=
  lanes.zipIdx.any fun l => l.1.strobe && pageForbidden (master == s.cpid) (off + l.2)

/-- A response goes upstream. -/
def State.respond (s : State) (r : UpResponse) : State := s.setPort { s.port with responses := s.port.responses ++ [r] }

/-- The effects of a blocked write beside the window's counter (R26); `subject` is the window index, or 32 for the control page. -/
def State.blockWrite (s : State) (subject : Nat) (master : MasterId) (addr : Address) : State :=
  ((s.respond (.write master .error)).setFlag .writeBlocked).raise .writeBlocked subject (word master.toNat) (word addr.toNat)
    (word (addr.toNat / 4294967296))

/-- A transfer is forwarded: it waits for the downstream port (R20, R40). -/
def State.forward (s : State) (p : Passing) : State := s.setArb { s.arb with passing := s.arb.passing ++ [p] }

/-! ## The ring words (R150, R153) -/

/-- A completion of the ring definition (R150, R151, R153). -/
def State.completeRing (s : State) : State :=
  let u := s.notice
  let s1 := (s.setNotice { u with
    defBase := u.baseWord
    defLength := u.lengthWord
    lengthInForce := if ringLengthGood u.lengthWord then u.lengthWord else u.lengthInForce
    producer := u.consumerWord
    consumer := u.consumerWord }).callStatus
  s1.judgeRing

/-- A mark has been cleared: a completed ring becomes PARTIAL (R151). -/
def State.ringIncomplete (s : State) : State :=
  if s.notice.ring = .ready ∨ s.notice.ring = .invalid then s.setRing .incomplete else s

/-- A consumer index write that is not part of a completion (R153). -/
def State.consumerWrite (s : State) : State :=
  let u := s.notice
  if (u.producer - u.consumerWord).toNat ≤ u.lengthInForce then s.setNotice { u with consumer := u.consumerWord }
  else s.setFlag .ringIndex

/-- The marks after a write of the ring base word or the ring length word, by the pair rule (R150), and whether it completes the
definition. -/
def pairRule (baseMark lengthMark base length : Bool) : Bool × Bool × Bool :=
  match base, length with
  | false, false => (baseMark, lengthMark, false)
  | true, true => (true, true, true)
  | true, false => if baseMark then (true, false, false) else (true, lengthMark, lengthMark)
  | false, true => if lengthMark then (false, true, false) else (baseMark, true, baseMark)

/-- A write writes at least one byte of the ring base word, the ring length word or the consumer index word (R150, R153). -/
def State.touchesBase (s : State) (addr : Nat) (lanes : List Lane) : Bool := writesAny addr lanes (s.pageAddr 0x100) 8
def State.touchesLength (s : State) (addr : Nat) (lanes : List Lane) : Bool := writesAny addr lanes (s.pageAddr 0x108) 4
def State.touchesConsumer (s : State) (addr : Nat) (lanes : List Lane) : Bool := writesAny addr lanes (s.pageAddr 0x10C) 4

/-- The marks after a write, and whether it completes the ring definition (R150). -/
def State.marksAfter (s : State) (addr : Nat) (lanes : List Lane) : Bool × Bool × Bool :=
  pairRule s.notice.baseMark s.notice.lengthMark (s.touchesBase addr lanes) (s.touchesLength addr lanes)

/-- The write has cleared a mark (R150). -/
def State.dropsMark (s : State) (addr : Nat) (lanes : List Lane) : Bool :=
  (s.notice.baseMark && !(s.marksAfter addr lanes).1) || (s.notice.lengthMark && !(s.marksAfter addr lanes).2.1)

/-- The Notice Unit with the copies and the marks after a write (R150). -/
def State.ringCopied (s : State) (addr : Nat) (lanes : List Lane) : NoticeUnit :=
  { s.notice with
    baseCopy := overlay s.notice.baseCopy (s.pageAddr 0x100) addr lanes
    lengthCopy := overlay s.notice.lengthCopy (s.pageAddr 0x108) addr lanes
    consumerCopy := overlay s.notice.consumerCopy (s.pageAddr 0x10C) addr lanes
    baseMark := (s.marksAfter addr lanes).1
    lengthMark := (s.marksAfter addr lanes).2.1 }

/-- The Notice Unit sees a forwarded write into the page (R150, R151, R153). -/
def State.ringWrite (s : State) (addr : Nat) (lanes : List Lane) : State :=
  let s1 := s.setNotice (s.ringCopied addr lanes)
  if (s.marksAfter addr lanes).2.2 then s1.completeRing
  else
    let s2 := if s.dropsMark addr lanes then s1.ringIncomplete else s1
    if s.touchesConsumer addr lanes then s2.consumerWrite else s2

/-- The Command Unit sees a forwarded write into the page (R160, R161). -/
def State.commandWrite (s : State) (addr : Nat) (lanes : List Lane) : State :=
  s.setCmd { s.cmd with
    recordCopy := overlay s.cmd.recordCopy (s.pageAddr 0) addr lanes
    tagCopy := overlay s.cmd.tagCopy (s.pageAddr 0x40) addr lanes
    offerMark := s.cmd.offerMark || writesAny addr lanes (s.pageAddr 0x40) 4 }

/-! ## Transfers (R23) -/

/-- The lanes of a write, beat by beat. -/
def beatsOf : Nat → List Lane → List (List Lane)
  | 0, _ => []
  | k + 1, l => l.take 16 :: beatsOf k (l.drop 16)

/-- The crane and slot size of an in-use CRANE_DOWN window with its slot table (R44). -/
def State.downWindow (s : State) (w : Window) : Option (Fin 16 × Nat) :=
  match w.kind, w.crane, w.slotSize with
  | some .craneDown, some c, some size => if (s.crane c).slots.isSome then some (c, size) else none
  | _, _, _ => none

/-- A read transfer passes (R23, R58, R62). -/
def State.passRead (s : State) (master : MasterId) (addr : Address) (beats : Nat) : State :=
  match s.windowAt addr.toNat with
  | none => s.forward (.read master addr (List.replicate beats .pass))
  | some i =>
    match s.downWindow (s.window i) with
    | none => s.forward (.read master addr (List.replicate beats .pass))
    | some (c, size) =>
      let (s1, plan) := s.readBeats c size (addr.toNat - (s.window i).base) beats
      s1.forward (.read master addr plan)

/-- A write transfer into a window passes or is blocked (R23, R24, R26). -/
def State.windowWrite (s : State) (i : Fin 32) (master : MasterId) (addr : Address) (lanes : List Lane) : State :=
  let w := s.window i
  if w.blocks master then
    (s.setWindow i { w with blocked := satAdd w.blocked 1 }).blockWrite i.val master addr
  else match s.downWindow w with
    | some (c, size) =>
      let (s1, out) := s.writeBeats i c size master (addr.toNat - w.base) (beatsOf (lanes.length / 16) lanes)
      s1.forward (.write master addr out)
    | none =>
      let s1 := match w.kind with
        | some k => s.intakeWrite i k master addr.toNat lanes
        | none => s
      s1.forward (.write master addr lanes)

/-- A write transfer into the control page passes or is blocked (R23, R25, R26). -/
def State.pageWrite (s : State) (off : Nat) (master : MasterId) (addr : Address) (lanes : List Lane) : State :=
  if s.pageBlocks master off lanes then s.blockWrite 32 master addr
  else ((s.commandWrite addr.toNat lanes).ringWrite addr.toNat lanes).forward (.write master addr lanes)

/-- A write transfer passes or is blocked (R23 to R26). -/
def State.passWrite (s : State) (master : MasterId) (addr : Address) (lanes : List Lane) : State :=
  match s.pageOffset addr.toNat with
  | some off => s.pageWrite off master addr lanes
  | none =>
    match s.windowAt addr.toNat with
    | some i => s.windowWrite i master addr lanes
    | none => s.forward (.write master addr lanes)

/-- One transfer is settled as one event (R20). -/
def State.takeTransfer (s : State) (t : Transfer) : State :=
  (match t with
    | .read m a n => (s.setScratch .idle).passRead m a n
    | .write m a l => (s.setScratch .idle).passWrite m a l).finish

/-- A transfer is presented at the upstream port: while RST_N is asserted it waits there (R173). Operands that are no transfer by R20
come to no transfer, and nothing is presented (log entry 26). -/
def present (t : Transfer) (s : State) : Host.Outcome State Fault Refusal :=
  .next (if !t.wf then s
    else if s.inReset then s.setPort { s.port with waiting := s.port.waiting ++ [t] }
    else s.takeTransfer t)

/-- The lane of a byte that a write does not write. -/
def silentLane : Lane := ⟨0, false⟩

/-- The write of one beat at page offset 0x100 that writes the word of `len` bytes at `start` of the beat by the given lanes, and no
other byte (R179). Lanes beyond the word are none of it, and a byte without a lane is not written (log entry 26). The address is that of
the page by the CPB sampled last, also while RST_N is asserted (log entry 41). -/
def State.ringBeat (s : State) (master : MasterId) (start len : Nat) (lanes : List Lane) : Transfer :=
  .write master (BitVec.ofNat 40 (s.pageAddr 0x100))
    ((List.range 16).map fun j => if start ≤ j ∧ j < start + len then lanes.getD (j - start) silentLane else silentLane)

/-- READ_TRANSFER (R23). -/
def execReadTransfer (master : MasterId) (addr : Address) (beats : Nat) (s : State) : Host.Outcome State Fault Refusal :=
  present (.read master addr beats) s

/-- WRITE_TRANSFER (R23). -/
def execWriteTransfer (master : MasterId) (addr : Address) (lanes : List Lane) (s : State) :
    Host.Outcome State Fault Refusal :=
  present (.write master addr lanes) s

/-- RING_BASE_WRITE (R150): a write transfer into the ring base word alone. -/
def execRingBaseWrite (master : MasterId) (lanes : List Lane) (s : State) : Host.Outcome State Fault Refusal :=
  present (s.ringBeat master 0 8 lanes) s

/-- RING_LENGTH_WRITE (R150): a write transfer into the ring length word alone. -/
def execRingLengthWrite (master : MasterId) (lanes : List Lane) (s : State) : Host.Outcome State Fault Refusal :=
  present (s.ringBeat master 8 4 lanes) s

/-- CONSUMER_INDEX_WRITE (R153): a write transfer into the consumer index word alone. -/
def execConsumerIndexWrite (master : MasterId) (lanes : List Lane) (s : State) : Host.Outcome State Fault Refusal :=
  present (s.ringBeat master 12 4 lanes) s

/-- CONTROL_PAGE_WRITE (R160): a write transfer into the control page from page offset 16 × `beat` on. A beat number beyond the page's
256 beats names no such transfer (log entry 26). The page is that of the CPB sampled last, also while RST_N is asserted (log entry 41). -/
def execControlPageWrite (master : MasterId) (beat : Nat) (lanes : List Lane) (s : State) :
    Host.Outcome State Fault Refusal :=
  if beat < 256 then present (.write master (BitVec.ofNat 40 (s.pageAddr (16 * beat))) lanes) s else .next s

end Sys2Proof.Machine
end

