-- ==== Sys2Proof/Machine/Control.lean ====
section
/-! DEFINITION. The Command Unit (chapter 9): judging an offer, taking a command, the result record, long operations, and the
commands of the other chapters that are left, as functions of the state. -/

namespace Sys2Proof.Machine

/-! ## The commands of R172 -/

/-- The 27 commands of R172. -/
inductive Command where
  | defineWindow
  | deleteWindow
  | lockWindow
  | unlockWindow
  | attachCrane
  | detachCrane
  | setCraneParameters
  | holdCrane
  | releaseCrane
  | setCell
  | clearCell
  | setCoverageParameters
  | clearGrid
  | setCriteria
  | enrolReefer
  | removeReefer
  | setEnrolmentMode
  | refreshMirror
  | setTimeParameters
  | startTime
  | stopTime
  | setNoticeEnables
  | setIrqEnables
  | clearFlags
  | readCounters
  | clearCounters
  | restart
deriving DecidableEq, Repr

/-- The code of a command (R172). -/
def Command.code : Command → Nat
  | .defineWindow => 1
  | .deleteWindow => 2
  | .lockWindow => 3
  | .unlockWindow => 4
  | .attachCrane => 5
  | .detachCrane => 6
  | .setCraneParameters => 7
  | .holdCrane => 8
  | .releaseCrane => 9
  | .setCell => 10
  | .clearCell => 11
  | .setCoverageParameters => 12
  | .clearGrid => 13
  | .setCriteria => 14
  | .enrolReefer => 15
  | .removeReefer => 16
  | .setEnrolmentMode => 17
  | .refreshMirror => 18
  | .setTimeParameters => 19
  | .startTime => 20
  | .stopTime => 21
  | .setNoticeEnables => 22
  | .setIrqEnables => 23
  | .clearFlags => 24
  | .readCounters => 25
  | .clearCounters => 26
  | .restart => 27

/-- The commands taken while a long operation runs (R165, R172). -/
def Command.takenWhileBusy : Command → Bool
  | .holdCrane | .releaseCrane | .setNoticeEnables | .setIrqEnables | .clearFlags | .restart => true
  | .defineWindow | .deleteWindow | .lockWindow | .unlockWindow | .attachCrane | .detachCrane | .setCraneParameters
  | .setCell | .clearCell | .setCoverageParameters | .clearGrid | .setCriteria | .enrolReefer | .removeReefer
  | .setEnrolmentMode | .refreshMirror | .setTimeParameters | .startTime | .stopTime | .readCounters | .clearCounters => false

/-- The codes taken while a long operation runs (R165). -/
def codeTakenWhileBusy (code : Nat) : Bool := [8, 9, 22, 23, 24, 27].contains code

/-- The code names a command of R172. -/
def codeNamesCommand (code : Nat) : Bool := decide (1 ≤ code ∧ code ≤ 27)

/-! ## Offers (R161, R162, R165) -/

/-- At the judgement of the offer mark a command is offered: the tag copy differs from the last taken tag (R161). -/
def CommandUnit.offers (c : CommandUnit) : Bool := c.offerMark && c.tag != c.lastTaken

/-- The offer is a command that is taken (R162, R165). -/
def CommandUnit.takes (c : CommandUnit) (k : Command) : Bool :=
  c.offers && c.code == k.code && (c.state == .idle || k.takenWhileBusy)

/-- The taking of a command (R161, R162): the offer mark is cleared and the last taken tag becomes the tag copy. -/
def State.take (s : State) : State := s.setCmd { s.cmd with offerMark := false, lastTaken := s.cmd.tag }

/-- The Command Unit writes the result record whole (R163). -/
def State.writeResult (s : State) : State := s.hand (s.pageAddr 0x80) s.cmd.resultRecord

/-- A taken command ends in a result (R162 to R164): for RUNNING the long operation begins; a status block write called for goes
before the result record. -/
def State.complete (s : State) (r : ResultCode) : State :=
  let s1 := if r = .running then (s.setCmd { s.cmd with state := .long, busy := true }).callStatus else s
  let s2 := s1.flushStatus
  let report : Report := ⟨s2.cmd.lastTaken, r⟩
  (s2.setCmd { s2.cmd with
    commandReport := report
    longReport := if r = .running then report else s2.cmd.longReport }).writeResult

/-- A command whose effect is `f` is taken, carried out and ended in its result (R161 to R164). -/
def State.carryOut (s : State) (f : State → State × ResultCode) : State := (f s.take).1.complete (f s.take).2

/-- One command of R172, whose effect is `f`: it comes about when it is the command offered and taken (R161, R162, R165). Its own writes
are the Command Unit's, those of the taking of a long operation too, so the operation's visits do not wait for them (log entry 40). -/
def command (k : Command) (s : State) (f : State → State × ResultCode) : Host.Outcome State Fault Refusal :=
  event .command s (s.cmd.takes k) fun s => s.carryOut f

/-- OFFER_JUDGEMENT (R161): the tag copy equals the last taken tag, so the mark is cleared and nothing is offered. -/
def execOfferJudgement (s : State) : Host.Outcome State Fault Refusal :=
  event .command s (s.cmd.offerMark && s.cmd.tag == s.cmd.lastTaken) fun s =>
    s.setCmd { s.cmd with offerMark := false }

/-- UNKNOWN_COMMAND (R162): a code that names no command is taken in IDLE and completes at once. -/
def execUnknownCommand (s : State) : Host.Outcome State Fault Refusal :=
  event .command s (s.cmd.offers && s.cmd.state == .idle && !codeNamesCommand s.cmd.code) fun s =>
    s.take.complete .unknownCommand

/-- BUSY_REFUSAL (R165): the busy report becomes the offered tag with BUSY. -/
def execBusyRefusal (s : State) : Host.Outcome State Fault Refusal :=
  event .command s (s.cmd.offers && s.cmd.state == .long && !codeTakenWhileBusy s.cmd.code) fun s =>
    (s.setCmd { s.cmd with offerMark := false, busyReport := ⟨s.cmd.tag, .busy⟩ }).writeResult

/-! ## Long operations (R164, R166) -/

/-- The number of records of a mirror (R166). -/
def MirrorKind.records : MirrorKind → Nat
  | .reefer => 4096
  | .grid => 512
  | .crane => 16

/-- The long operation in progress has made its last visit (R107, R164, R166). -/
def State.longFinished (s : State) : Bool :=
  (s.grid.clearing && s.grid.clearPosition == 512) ||
    match s.mirror.target with
    | some k => s.mirror.position == k.records
    | none => false

/-- The Coverage Grid and the Mirror Writer no longer work on a long operation; the clear position and the refresh position are 0 again
(log entries 37 and 39). -/
def State.stopOperation (s : State) : State :=
  (s.setGrid { s.grid with clearing := false, clearPosition := 0 }).setMirror { target := none, position := 0 }

/-- A long operation ends or is aborted with a result (R163, R164, R168): IDLE, busy clear, and both reports. -/
def State.closeLong (s : State) (r : ResultCode) : State :=
  (s.setCmd { s.cmd with
    state := .idle
    busy := false
    commandReport := ⟨s.cmd.longReport.tag, r⟩
    longReport := ⟨s.cmd.longReport.tag, r⟩ }).callStatus

/-- LONG_OPERATION_END (R164): the status block and then the result record. The end waits for the own writes of the visits (R39), and
its own are the Command Unit's (log entry 28). -/
def execLongOperationEnd (s : State) : Host.Outcome State Fault Refusal :=
  event .longOperation s (s.cmd.state == .long && s.longFinished) fun s =>
    let s1 := s.setScratch { s.scratch with work := .command }
    ((s1.stopOperation.closeLong .done).flushStatus).writeResult

/-- The refresh record n of a mirror is written from the table as it stands (R166). -/
def State.refreshRecord (s : State) (k : MirrorKind) (n : Nat) : State :=
  match k with
  | .reefer => match asIndex 4096 n with | some i => s.writeReeferMirror i | none => s
  | .grid => match asIndex 512 n with | some q => s.writeGridMirror q | none => s
  | .crane => match asIndex 16 n with | some i => s.writeCraneMirror i | none => s

/-- A refresh has records left to visit. -/
def State.refreshLeft (s : State) : Bool :=
  match s.mirror.target with
  | some k => decide (s.mirror.position < k.records)
  | none => false

/-- REFRESH_VISIT (R166). -/
def execRefreshVisit (s : State) : Host.Outcome State Fault Refusal :=
  event .longOperation s s.refreshLeft fun s =>
    match s.mirror.target with
    | some k => (s.refreshRecord k s.mirror.position).setMirror { s.mirror with position := s.mirror.position + 1 }
    | none => s

/-- The mirror kind that argument 1 of REFRESH MIRROR names, with its window kind (R166). -/
def mirrorArg : Nat → Option (MirrorKind × WindowKind)
  | 7 => some (.reefer, .reeferMirror)
  | 8 => some (.grid, .gridMirror)
  | 9 => some (.crane, .craneMirror)
  | _ => none

/-- REFRESH MIRROR (R166). -/
def State.doRefreshMirror (s : State) : State × ResultCode :=
  match mirrorArg (s.arg 1) with
  | none => (s, .badArgument)
  | some (m, k) =>
    if (s.mirrorBase k).isSome then (s.setMirror { target := some m, position := 0 }, .running) else (s, .notFound)

/-- CLEAR GRID (R107). -/
def State.doClearGrid (s : State) : State × ResultCode :=
  (s.setGrid { s.grid with clearing := true, clearPosition := 0 }, .running)

/-! ## Crane commands (R64, R65, R72 to R74) -/

/-- The crane that argument 1 names, attached or not. -/
def State.craneArg (s : State) : Option (Fin 16) := asIndex 16 (s.arg 1)

/-- ATTACH CRANE (R72). -/
def State.doAttachCrane (s : State) : State × ResultCode :=
  match s.craneArg with
  | none => (s, .badArgument)
  | some i =>
    if (s.crane i).link ≠ .dormant then (s, .state)
    else if !s.craneArgs.inRange then (s, .badArgument)
    else if s.craneIdTaken i s.craneArgs.craneId then (s, .overlap)
    else ((s.setCrane i (.attached s.craneArgs)).writeCraneMirror i, .done)

/-- SET CRANE PARAMETERS (R73). -/
def State.doSetCraneParameters (s : State) : State × ResultCode :=
  match s.craneArg with
  | none => (s, .badArgument)
  | some i =>
    if (s.crane i).link = .dormant then (s, .state)
    else if !s.craneArgs.inRange then (s, .badArgument)
    else if s.craneIdTaken i s.craneArgs.craneId then (s, .overlap)
    else (s.setCrane i { s.crane i with params := s.craneArgs }, .done)

/-- DETACH CRANE (R74). -/
def State.doDetachCrane (s : State) : State × ResultCode :=
  match s.craneArg with
  | none => (s, .badArgument)
  | some i =>
    if (s.crane i).link = .dormant then (s, .state)
    else if s.craneHasWindow i then (s, .state)
    else ((s.setCrane i .cleared).writeCraneMirror i, .done)

/-- HOLD CRANE and RELEASE CRANE (R64, R65): the hold flag becomes `flag`; the mirror record is written when it changes. -/
def State.setHold (s : State) (flag : Bool) : State × ResultCode :=
  match s.craneArg with
  | none => (s, .badArgument)
  | some i =>
    if (s.crane i).link = .dormant then (s, .state)
    else if (s.crane i).holdFlag = flag then (s, .done)
    else ((s.setCrane i { s.crane i with holdFlag := flag }).writeCraneMirror i, .done)

/-! ## Coverage commands (R93, R94, R106) -/

/-- Another place holds the identity (R93). -/
def State.identityElsewhere (s : State) (c : Fin 24) (identity : Nat) : Bool :=
  (List.finRange 24).any fun d => d != c && s.grid.cells.get d == some identity

/-- Place c takes an identity (R93). -/
def State.placeCell (s : State) (c : Fin 24) (identity : Nat) : State :=
  s.setGrid { s.grid with cells := upd s.grid.cells c (some identity) }

/-- SET CELL (R93). -/
def State.doSetCell (s : State) : State × ResultCode :=
  match asIndex 24 (s.arg 1) with
  | none => (s, .badArgument)
  | some c =>
    if s.arg 2 = 0 then (s, .badArgument)
    else if s.identityElsewhere c (s.arg 2) then (s, .overlap)
    else match s.grid.cells.get c with
      | none => (s.placeCell c (s.arg 2), .done)
      | some old => if old = s.arg 2 then (s, .done) else ((s.clearPlace c).placeCell c (s.arg 2), .done)

/-- CLEAR CELL (R94). -/
def State.doClearCell (s : State) : State × ResultCode :=
  match asIndex 24 (s.arg 1) with
  | none => (s, .badArgument)
  | some c => if s.grid.cells.get c = none then (s, .notFound) else (s.clearPlace c, .done)

/-- The eight coverage parameters as the arguments give them (R106). -/
def State.coverageArgs (s : State) : CoverageParams :=
  { holeEnter := s.argS 1, holeExit := s.argS 2, marginalEnter := s.argS 3, marginalExit := s.argS 4, ageLimit := s.arg 5,
    steerMargin := s.arg 6, steerHoldoff := s.arg 7, segmentCount := s.arg 8 }

/-- A threshold in the range of R106. -/
def thresholdInRange (t : Int) : Bool := decide (-280 ≤ t ∧ t ≤ -40)

/-- The ranges and the order of R106. -/
def CoverageParams.inRange (p : CoverageParams) : Bool :=
  thresholdInRange p.holeEnter && thresholdInRange p.holeExit && thresholdInRange p.marginalEnter &&
    thresholdInRange p.marginalExit && decide (10 ≤ p.ageLimit ∧ p.ageLimit ≤ 3600) && decide (p.steerMargin ≤ 80) &&
    decide (1 ≤ p.steerHoldoff ∧ p.steerHoldoff ≤ 600) && decide (1 ≤ p.segmentCount ∧ p.segmentCount ≤ 128) &&
    decide (p.holeEnter < p.holeExit ∧ p.holeExit ≤ p.marginalEnter ∧ p.marginalEnter < p.marginalExit)

/-- SET COVERAGE PARAMETERS (R106). -/
def State.doSetCoverageParameters (s : State) : State × ResultCode :=
  if s.coverageArgs.inRange then (s.setGrid { s.grid with params := s.coverageArgs }, .done) else (s, .badArgument)

/-! ## Notice commands (R147, R155, R156) -/

/-- SET NOTICE ENABLES (R147). -/
def State.doSetNoticeEnables (s : State) : State × ResultCode :=
  if 67108864 ≤ s.arg 1 then (s, .badArgument)
  else ((s.setNotice { s.notice with enables := BitVec.ofNat 26 (s.arg 1) }).callStatus, .done)

/-- SET IRQ ENABLES (R156). -/
def State.doSetIrqEnables (s : State) : State × ResultCode :=
  if 8192 ≤ s.arg 1 then (s, .badArgument)
  else ((s.setNotice { s.notice with irqEnables := BitVec.ofNat 13 (s.arg 1) }).callStatus, .done)

/-- The flags and the overflow set after CLEAR FLAGS names flags (R155). -/
def NoticeUnit.clearFlags (u : NoticeUnit) (named : BitVec 12) : NoticeUnit :=
  { u with
    flags := u.flags &&& ~~~named
    overflow := if named.getLsbD Flag.noticeOverflow.number then 0 else u.overflow }

/-- CLEAR FLAGS (R155); the status block is written when a flag or the overflow set changed (R154, R155). -/
def State.doClearFlags (s : State) : State × ResultCode :=
  if 4096 ≤ s.arg 1 then (s, .badArgument)
  else
    let u := s.notice.clearFlags (BitVec.ofNat 12 (s.arg 1))
    let s1 := s.setNotice u
    (if u.flags = s.notice.flags ∧ u.overflow = s.notice.overflow then s1 else s1.callStatus, .done)

/-! ## Counters (R169, R170) -/

/-- READ COUNTERS (R169): two transfers of 16 beats, entries 0 to 15 first (R178). -/
def State.doReadCounters (s : State) : State × ResultCode :=
  ((s.hand (s.pageAddr 0x400) (s.counterSnapshot.take 256)).hand (s.pageAddr 0x500) (s.counterSnapshot.drop 256), .done)

/-- CLEAR COUNTERS (R170). -/
def State.doClearCounters (s : State) : State × ResultCode :=
  let s1 := (s.setWindows (Vector.ofFn fun i => (s.window i).zeroed)).setIntake s.intake.uncountAll
  let s2 := s1.setGrid { s.grid with unknownCells := 0, measureUsed := 0, measureRejected := 0, measureClamped := 0 }
  (s2.setReefer { s.reefer with
    unknownTags := 0
    dropped := 0
    rejected := 0
    entries := Vector.ofFn fun n => { s.entry n with reports := 0, missed := 0, duplicates := 0 } }, .done)

/-! ## RESTART (R168) -/

/-- The mirror records of the attached cranes are written, in crane index order (R91, log entry 18). -/
def State.restartMirrors (s : State) : State :=
  (List.finRange 16).foldl (fun t i => if (t.crane i).link = .dormant then t else t.writeCraneMirror i) s

/-- The changes of every block but the Command Unit at RESTART (R19, R43, R67, R91, R111, R131, R158). A CLEAR GRID in progress is
aborted, and the clear position is 0 again (log entry 37). -/
def State.restartBlocks (s : State) : State :=
  let s1 := ((s.setTime s.time.unpaired).callStatus).discardIntake
  let s2 := s1.setNotice { s1.notice with queue := [] }
  let s3 := s2.setGrid { s2.grid with clearing := false, clearPosition := 0, aging := s2.grid.aging.restarted }
  let s4 := s3.setReefer { s3.reefer with sweep := s3.reefer.sweep.restarted }
  let s5 := s4.setMirror { target := none, position := 0 }
  (s5.setCranes (Vector.ofFn fun i => (s5.crane i).restarted)).restartMirrors

/-- RESTART aborts the long operation in progress (R168): the ABORTED result is the first of the two. -/
def State.abortLong (s : State) : State :=
  if s.cmd.state = .long then (s.closeLong .aborted).writeResult else s

/-- RESTART (R168). -/
def State.doRestart (s : State) : State × ResultCode := (s.abortLong.restartBlocks, .done)

/-! ## Records in hand at RESTART (R19, R91, R111, R131) -/

/-- The records that the four job units have dequeued and not handled yet when a RESTART is taken. -/
structure InHand where
  uplink : Option QueueEntry
  measure : Option QueueEntry
  reefer : Option QueueEntry
  time : Option QueueEntry
deriving DecidableEq, Repr

/-- The oldest record of a queue is in hand, if the free choice of job unit `unit` says so (log entry 33). -/
def handOf (draw unit : Nat) : List QueueEntry → Option QueueEntry
  | e :: _ => if Config.recordInHand draw unit then some e else none
  | [] => none

/-- The records in hand at a RESTART. A job unit whose own write is held dequeues none (R39), and of the time records only a VALUE has
two orders with RESTART (R19). Log entry 33. -/
def State.inHand (s : State) : InHand :=
  let pick (work : Work) (unit : Nat) (q : List QueueEntry) : Option QueueEntry :=
    if s.arb.holds work then none else handOf s.restarts unit q
  { uplink := pick .uplinkJob 0 s.intake.uplink
    measure := pick .measureJob 1 s.intake.measure
    reefer := pick .reeferJob 2 s.intake.reefer
    time := (pick .timeJob 3 s.intake.time).filter fun e => (TimeMessage.read e.bytes).kind == 2 }

/-- A queue without its oldest entry, when that one is in hand. -/
def leaving (h : Option QueueEntry) (q : List QueueEntry) : List QueueEntry :=
  match h with
  | some _ => q.drop 1
  | none => q

/-- The records in hand have left their queues, each counted at its dequeue (R37). -/
def State.pickUp (s : State) (h : InHand) : State :=
  (h.uplink.toList ++ h.measure.toList ++ h.reefer.toList ++ h.time.toList).foldl State.countTaken
    (s.setIntake { uplink := leaving h.uplink s.intake.uplink, reefer := leaving h.reefer s.intake.reefer,
                   measure := leaving h.measure s.intake.measure, time := leaving h.time s.intake.time })

/-- A record in hand is handled after RESTART, as an event of its job unit. -/
def State.handleLater (s : State) (work : Work) (h : Option QueueEntry) (f : State → List Byte → Nat → State) : State :=
  match h with
  | some e => (f (s.beginEvent work) e.bytes e.arrival).finish
  | none => s

/-- The records in hand after RESTART: the uplink record is discarded without an outcome (R91), and the measurement record, the report
and the VALUE are handled (R111, R131, R19), in that order (log entry 33). -/
def State.handleInHand (s : State) (h : InHand) : State :=
  ((s.handleLater .measureJob h.measure State.measureRecord).handleLater .reeferJob h.reefer State.reeferRecord).handleLater
    .timeJob h.time State.timeRecord

/-- RESTART comes about: it is offered and taken, and the Command Unit is free to take it. -/
def State.restartTaken (s : State) : Bool :=
  !s.inReset && s.cmd.takes .restart && !s.arb.holds .command

/-- The state right after a RESTART that comes about, with the records `h` in hand not handled yet (R168). -/
def State.restarted (s : State) (h : InHand) : State :=
  { ((((s.pickUp h).beginEvent .command).carryOut State.doRestart).finish) with restarts := s.restarts + 1 }

/-! ## The command rows -/

/-- DEFINE_WINDOW (R27 to R29). -/
def execDefineWindow (s : State) : Host.Outcome State Fault Refusal := command .defineWindow s State.doDefineWindow

/-- DELETE_WINDOW (R30). -/
def execDeleteWindow (s : State) : Host.Outcome State Fault Refusal := command .deleteWindow s State.doDeleteWindow

/-- LOCK_WINDOW (R31). -/
def execLockWindow (s : State) : Host.Outcome State Fault Refusal := command .lockWindow s State.doLockWindow

/-- UNLOCK_WINDOW (R32). -/
def execUnlockWindow (s : State) : Host.Outcome State Fault Refusal := command .unlockWindow s State.doUnlockWindow

/-- ATTACH_CRANE (R72). -/
def execAttachCrane (s : State) : Host.Outcome State Fault Refusal := command .attachCrane s State.doAttachCrane

/-- DETACH_CRANE (R74). -/
def execDetachCrane (s : State) : Host.Outcome State Fault Refusal := command .detachCrane s State.doDetachCrane

/-- SET_CRANE_PARAMETERS (R73). -/
def execSetCraneParameters (s : State) : Host.Outcome State Fault Refusal :=
  command .setCraneParameters s State.doSetCraneParameters

/-- HOLD_CRANE (R64). -/
def execHoldCrane (s : State) : Host.Outcome State Fault Refusal := command .holdCrane s fun s => s.setHold true

/-- RELEASE_CRANE (R65). -/
def execReleaseCrane (s : State) : Host.Outcome State Fault Refusal := command .releaseCrane s fun s => s.setHold false

/-- SET_CELL (R93). -/
def execSetCell (s : State) : Host.Outcome State Fault Refusal := command .setCell s State.doSetCell

/-- CLEAR_CELL (R94). -/
def execClearCell (s : State) : Host.Outcome State Fault Refusal := command .clearCell s State.doClearCell

/-- SET_COVERAGE_PARAMETERS (R106). -/
def execSetCoverageParameters (s : State) : Host.Outcome State Fault Refusal :=
  command .setCoverageParameters s State.doSetCoverageParameters

/-- CLEAR_GRID (R107). -/
def execClearGrid (s : State) : Host.Outcome State Fault Refusal := command .clearGrid s State.doClearGrid

/-- SET_CRITERIA (R116). -/
def execSetCriteria (s : State) : Host.Outcome State Fault Refusal := command .setCriteria s State.doSetCriteria

/-- ENROL_REEFER (R117). -/
def execEnrolReefer (s : State) : Host.Outcome State Fault Refusal := command .enrolReefer s State.doEnrolReefer

/-- REMOVE_REEFER (R119). -/
def execRemoveReefer (s : State) : Host.Outcome State Fault Refusal := command .removeReefer s State.doRemoveReefer

/-- SET_ENROLMENT_MODE (R118). -/
def execSetEnrolmentMode (s : State) : Host.Outcome State Fault Refusal :=
  command .setEnrolmentMode s State.doSetEnrolmentMode

/-- REFRESH_MIRROR (R166). -/
def execRefreshMirror (s : State) : Host.Outcome State Fault Refusal := command .refreshMirror s State.doRefreshMirror

/-- SET_TIME_PARAMETERS (R14). -/
def execSetTimeParameters (s : State) : Host.Outcome State Fault Refusal :=
  command .setTimeParameters s State.doSetTimeParameters

/-- START_TIME (R15). -/
def execStartTime (s : State) : Host.Outcome State Fault Refusal := command .startTime s State.doStartTime

/-- STOP_TIME (R16). -/
def execStopTime (s : State) : Host.Outcome State Fault Refusal := command .stopTime s State.doStopTime

/-- SET_NOTICE_ENABLES (R147). -/
def execSetNoticeEnables (s : State) : Host.Outcome State Fault Refusal :=
  command .setNoticeEnables s State.doSetNoticeEnables

/-- SET_IRQ_ENABLES (R156). -/
def execSetIrqEnables (s : State) : Host.Outcome State Fault Refusal := command .setIrqEnables s State.doSetIrqEnables

/-- CLEAR_FLAGS (R155). -/
def execClearFlags (s : State) : Host.Outcome State Fault Refusal := command .clearFlags s State.doClearFlags

/-- READ_COUNTERS (R169). -/
def execReadCounters (s : State) : Host.Outcome State Fault Refusal := command .readCounters s State.doReadCounters

/-- CLEAR_COUNTERS (R170). -/
def execClearCounters (s : State) : Host.Outcome State Fault Refusal := command .clearCounters s State.doClearCounters

/-- RESTART (R168), with the records in hand taken before or after it (R19, R91, R111, R131). -/
def execRestart (s : State) : Host.Outcome State Fault Refusal :=
  .next (if s.restartTaken then (s.restarted s.inHand).handleInHand s.inHand else s)

end Sys2Proof.Machine
end

