-- ==== Sys2Proof/Machine/Events.lean ====
section
/-! DEFINITION. The events of the ports and of the part's own units that are left: reset, the downstream port and its responses,
dequeues, expiries, passes and posts. -/

namespace Sys2Proof.Machine

/-! ## Reset (R173) -/

/-- The power-on state with the straps sampled (R159, R173); the queue of commands and the count of RESTARTs are not the part's. -/
def State.powerOn (s : State) (cpb : BitVec 16) (cpid : BitVec 6) : State :=
  { State.reset with cpb := cpb, cpid := cpid, restarts := s.restarts, pending := s.pending }

/-- POWER_ON_RESET (R173): every block takes its power-on values, and the transfers that waited at the port are then handled, first
presented first (log entry 7). -/
def execPowerOnReset (cpb : BitVec 16) (cpid : BitVec 6) (s : State) : Host.Outcome State Fault Refusal :=
  .next (s.port.waiting.foldl State.takeTransfer (s.powerOn cpb cpid))

/-- RESET_ASSERTION (R42, R173): the ports stop, IRQ falls, and transfers in flight and own writes are lost. -/
def execResetAssertion (s : State) : Host.Outcome State Fault Refusal :=
  .next (if s.inReset then s
    else { s with
      inReset := true
      notice := { s.notice with irq := false }
      arb := { passing := [], own := [], held := [], letOut := false, inFlight := [] } })

/-! ## The downstream port (R39, R40) -/

/-- The oldest passing transfer is next (R40): the own-write queue is not full, or has let one own write out ahead of it. -/
def Arbiter.passingNext (a : Arbiter) : Bool := !a.passing.isEmpty && (a.letOut || a.own.length != 64)

/-- The oldest own write is next (R40): no passing transfer waits, or the queue is full and has let none out ahead of it. -/
def Arbiter.ownNext (a : Arbiter) : Bool :=
  !a.own.isEmpty && (a.passing.isEmpty || (a.own.length == 64 && !a.letOut))

/-- The oldest passing transfer leaves (R40). -/
def Arbiter.sendPassing (a : Arbiter) : Arbiter :=
  match a.passing with
  | p :: rest => { a with passing := rest, letOut := false, inFlight := a.inFlight ++ [.passing p] }
  | [] => a

/-- The oldest own write leaves (R40). -/
def Arbiter.sendOwn (a : Arbiter) : Arbiter :=
  match a.own with
  | w :: rest => { a with own := rest, letOut := !a.passing.isEmpty, inFlight := a.inFlight ++ [.own w] }
  | [] => a

/-- FORWARD_DOWNSTREAM (R40). -/
def execForwardDownstream (s : State) : Host.Outcome State Fault Refusal :=
  quietEvent s s.arb.passingNext fun s => s.setArb s.arb.sendPassing

/-- OWN_WRITE_ISSUE (R40). -/
def execOwnWriteIssue (s : State) : Host.Outcome State Fault Refusal :=
  quietEvent s s.arb.ownNext fun s => s.setArb s.arb.sendOwn

/-- The oldest held own write joins the queue (R39). -/
def Arbiter.joinHeld (a : Arbiter) : Arbiter :=
  match a.held with
  | h :: rest => { a with held := rest, own := a.own ++ [h.write] }
  | [] => a

/-- HELD_WRITE_JOIN (R39). -/
def execHeldWriteJoin (s : State) : Host.Outcome State Fault Refusal :=
  quietEvent s (!s.arb.held.isEmpty && decide (s.arb.own.length < 64)) fun s => s.setArb s.arb.joinHeld

/-! ## Responses (R20, R40, R58, R61, R62) -/

/-- The transfer at a place of the transfers in flight is answered. -/
def State.landed (s : State) (which : Nat) : State :=
  s.setArb { s.arb with inFlight := s.arb.inFlight.eraseIdx which }

/-- OWN_WRITE_RESPONSE (R40): it ends the own write, and nothing goes upstream. -/
def execOwnWriteResponse (which : Nat) (_status : RespStatus) (s : State) : Host.Outcome State Fault Refusal :=
  quietEvent s (match s.arb.inFlight[which]? with | some (.own _) => true | _ => false) fun s => s.landed which

/-- WRITE_RESPONSE (R20): the response goes back upstream to the issuing master with the same status. -/
def execWriteResponse (which : Nat) (status : RespStatus) (s : State) : Host.Outcome State Fault Refusal :=
  quietEvent s (match s.arb.inFlight[which]? with | some (.passing (.write _ _ _)) => true | _ => false) fun s =>
    match s.arb.inFlight[which]? with
    | some (.passing (.write m _ _)) => (s.landed which).respond (.write m status)
    | _ => s

/-- The data of one beat as it goes upstream (R61, R62). -/
def BeatPlan.apply (p : BeatPlan) (beat : List Byte) : List Byte :=
  match p with
  | .pass => beat
  | .hold frame => frame
  | .zero => List.replicate 16 0

/-- The data of a read as it goes upstream, beat by beat (R20, R61, R62). -/
def returnedData : List BeatPlan → List Byte → List Byte
  | [], _ => []
  | p :: ps, data => p.apply (data.take 16) ++ returnedData ps (data.drop 16)

/-- READ_DATA_RETURN (R20, R62): DRAM gives 16 bytes a beat, and the plan fixed at the read is applied whatever the status (R58). -/
def execReadDataReturn (which : Nat) (status : RespStatus) (data : List Byte) (s : State) :
    Host.Outcome State Fault Refusal :=
  quietEvent s
    (match s.arb.inFlight[which]? with
      | some (.passing (.read _ _ plan)) => data.length == 16 * plan.length
      | _ => false) fun s =>
    match s.arb.inFlight[which]? with
    | some (.passing (.read m _ plan)) => (s.landed which).respond (.read m status (returnedData plan data))
    | _ => s

/-! ## Dequeues (R37, R75, R103, R120) -/

/-- UPLINK_RECORD_DEQUEUE (R37, R75). -/
def execUplinkRecordDequeue (s : State) : Host.Outcome State Fault Refusal :=
  event .uplinkJob s (!s.intake.uplink.isEmpty) fun s =>
    match s.intake.uplink with
    | e :: rest =>
      let s1 := (s.setIntake { s.intake with uplink := rest }).countTaken e
      match e.crane with
      | some i => s1.uplinkRecord i e.bytes e.arrival
      | none => s1
    | [] => s

/-- MEASUREMENT_RECORD_DEQUEUE (R37, R103). -/
def execMeasurementRecordDequeue (s : State) : Host.Outcome State Fault Refusal :=
  event .measureJob s (!s.intake.measure.isEmpty) fun s =>
    match s.intake.measure with
    | e :: rest => ((s.setIntake { s.intake with measure := rest }).countTaken e).measureRecord e.bytes e.arrival
    | [] => s

/-- REEFER_REPORT_DEQUEUE (R37, R120). -/
def execReeferReportDequeue (s : State) : Host.Outcome State Fault Refusal :=
  event .reeferJob s (!s.intake.reefer.isEmpty) fun s =>
    match s.intake.reefer with
    | e :: rest => ((s.setIntake { s.intake with reefer := rest }).countTaken e).reeferRecord e.bytes e.arrival
    | [] => s

/-! ## Expiries (R56, R83) -/

/-- HEARTBEAT_EXPIRY (R83). -/
def execHeartbeatExpiry (crane : Fin 16) (s : State) : Host.Outcome State Fault Refusal :=
  event .other s (s.heartbeatPassed crane) fun s => s.expireHeartbeat crane

/-- SLOT_EXPIRY (R56). -/
def execSlotExpiry (crane : Fin 16) (s : State) : Host.Outcome State Fault Refusal :=
  event .other s (s.passedHead crane).isSome fun s =>
    match s.passedHead crane with
    | some n => s.expireSlot crane n
    | none => s

/-! ## Passes and visits (R101, R102, R107, R126, R127) -/

/-- AGING_PASS_START (R101). -/
def execAgingPassStart (s : State) : Host.Outcome State Fault Refusal :=
  quietEvent s (s.grid.aging.startDue 5000000 s.time.lt) fun s =>
    s.setGrid { s.grid with aging := s.grid.aging.start s.time.lt }

/-- AGING_VISIT (R102). -/
def execAgingVisit (s : State) : Host.Outcome State Fault Refusal :=
  event .agingPass s (s.grid.aging.inProgress && decide (s.grid.aging.position < 512)) fun s =>
    match asIndex 512 s.grid.aging.position with
    | some q => s.ageSquare q
    | none => s

/-- CLEAR_GRID_VISIT (R107). -/
def execClearGridVisit (s : State) : Host.Outcome State Fault Refusal :=
  event .longOperation s (s.grid.clearing && decide (s.grid.clearPosition < 512)) fun s =>
    match asIndex 512 s.grid.clearPosition with
    | some q => s.clearSquare q
    | none => s

/-- SILENCE_SWEEP_START (R126). -/
def execSilenceSweepStart (s : State) : Host.Outcome State Fault Refusal :=
  quietEvent s (s.reefer.sweep.startDue 10000000 s.time.lt) fun s =>
    s.setReefer { s.reefer with sweep := s.reefer.sweep.start s.time.lt }

/-- SWEEP_VISIT (R126, R127). -/
def execSweepVisit (s : State) : Host.Outcome State Fault Refusal :=
  event .silenceSweep s (s.reefer.sweep.inProgress && decide (s.reefer.sweep.position < 4096)) fun s =>
    match asIndex 4096 s.reefer.sweep.position with
    | some n => s.sweepEntry n
    | none => s

/-! ## Posting (R152) -/

/-- The posting condition of R152. -/
def NoticeUnit.canPost (u : NoticeUnit) : Bool :=
  u.ring == .ready && !u.queue.isEmpty && decide ((u.producer - u.consumer).toNat < u.defLength)

/-- The address of the slot of a producer index (R152, R180). -/
def NoticeUnit.slotAddr (u : NoticeUnit) : Nat := u.defBase + 32 * (u.producer.toNat % u.defLength)

/-- NOTICE_POST (R152). -/
def execNoticePost (s : State) : Host.Outcome State Fault Refusal :=
  event .noticePost s s.notice.canPost fun s =>
    match s.notice.queue with
    | n :: rest =>
      let s1 := (s.setNotice { s.notice with queue := rest }).hand s.notice.slotAddr (n.record s.notice.producer.toNat)
      (s1.setNotice { s1.notice with producer := s.notice.producer + 1 }).callStatus
    | [] => s

end Sys2Proof.Machine
end

