-- ==== Sys2Proof/Machine/Dispatch.lean ====
section
/-! DEFINITION. One arm for each command, each one call of its meaning. -/

namespace Sys2Proof.Machine

def exec (i : Instr) (s : State) : Host.Outcome State Fault Refusal :=
  match i with
  | .powerOnReset cpb cpid => Sys2Proof.Machine.execPowerOnReset cpb cpid s
  | .readTransfer master addr beats => Sys2Proof.Machine.execReadTransfer master addr beats s
  | .writeTransfer master addr lanes => Sys2Proof.Machine.execWriteTransfer master addr lanes s
  | .ringBaseWrite master lanes => Sys2Proof.Machine.execRingBaseWrite master lanes s
  | .ringLengthWrite master lanes => Sys2Proof.Machine.execRingLengthWrite master lanes s
  | .consumerIndexWrite master lanes => Sys2Proof.Machine.execConsumerIndexWrite master lanes s
  | .controlPageWrite master beat lanes => Sys2Proof.Machine.execControlPageWrite master beat lanes s
  | .forwardDownstream => Sys2Proof.Machine.execForwardDownstream s
  | .ownWriteIssue => Sys2Proof.Machine.execOwnWriteIssue s
  | .heldWriteJoin => Sys2Proof.Machine.execHeldWriteJoin s
  | .ownWriteResponse which status => Sys2Proof.Machine.execOwnWriteResponse which status s
  | .readDataReturn which status data => Sys2Proof.Machine.execReadDataReturn which status data s
  | .writeResponse which status => Sys2Proof.Machine.execWriteResponse which status s
  | .slewStep => Sys2Proof.Machine.execSlewStep s
  | .timeRecordDequeue => Sys2Proof.Machine.execTimeRecordDequeue s
  | .holdoverExpiry => Sys2Proof.Machine.execHoldoverExpiry s
  | .uplinkRecordDequeue => Sys2Proof.Machine.execUplinkRecordDequeue s
  | .heartbeatExpiry crane => Sys2Proof.Machine.execHeartbeatExpiry crane s
  | .slotExpiry crane => Sys2Proof.Machine.execSlotExpiry crane s
  | .measurementRecordDequeue => Sys2Proof.Machine.execMeasurementRecordDequeue s
  | .agingPassStart => Sys2Proof.Machine.execAgingPassStart s
  | .agingVisit => Sys2Proof.Machine.execAgingVisit s
  | .clearGridVisit => Sys2Proof.Machine.execClearGridVisit s
  | .reeferReportDequeue => Sys2Proof.Machine.execReeferReportDequeue s
  | .silenceSweepStart => Sys2Proof.Machine.execSilenceSweepStart s
  | .sweepVisit => Sys2Proof.Machine.execSweepVisit s
  | .noticePost => Sys2Proof.Machine.execNoticePost s
  | .refreshVisit => Sys2Proof.Machine.execRefreshVisit s
  | .longOperationEnd => Sys2Proof.Machine.execLongOperationEnd s
  | .busyRefusal => Sys2Proof.Machine.execBusyRefusal s
  | .unknownCommand => Sys2Proof.Machine.execUnknownCommand s
  | .defineWindow => Sys2Proof.Machine.execDefineWindow s
  | .deleteWindow => Sys2Proof.Machine.execDeleteWindow s
  | .lockWindow => Sys2Proof.Machine.execLockWindow s
  | .unlockWindow => Sys2Proof.Machine.execUnlockWindow s
  | .attachCrane => Sys2Proof.Machine.execAttachCrane s
  | .detachCrane => Sys2Proof.Machine.execDetachCrane s
  | .setCraneParameters => Sys2Proof.Machine.execSetCraneParameters s
  | .holdCrane => Sys2Proof.Machine.execHoldCrane s
  | .releaseCrane => Sys2Proof.Machine.execReleaseCrane s
  | .setCell => Sys2Proof.Machine.execSetCell s
  | .clearCell => Sys2Proof.Machine.execClearCell s
  | .setCoverageParameters => Sys2Proof.Machine.execSetCoverageParameters s
  | .clearGrid => Sys2Proof.Machine.execClearGrid s
  | .setCriteria => Sys2Proof.Machine.execSetCriteria s
  | .enrolReefer => Sys2Proof.Machine.execEnrolReefer s
  | .removeReefer => Sys2Proof.Machine.execRemoveReefer s
  | .setEnrolmentMode => Sys2Proof.Machine.execSetEnrolmentMode s
  | .refreshMirror => Sys2Proof.Machine.execRefreshMirror s
  | .setTimeParameters => Sys2Proof.Machine.execSetTimeParameters s
  | .startTime => Sys2Proof.Machine.execStartTime s
  | .stopTime => Sys2Proof.Machine.execStopTime s
  | .setNoticeEnables => Sys2Proof.Machine.execSetNoticeEnables s
  | .setIrqEnables => Sys2Proof.Machine.execSetIrqEnables s
  | .clearFlags => Sys2Proof.Machine.execClearFlags s
  | .readCounters => Sys2Proof.Machine.execReadCounters s
  | .clearCounters => Sys2Proof.Machine.execClearCounters s
  | .restart => Sys2Proof.Machine.execRestart s
  | .localTimeAdvance => Sys2Proof.Machine.execLocalTimeAdvance s
  | .resetAssertion => Sys2Proof.Machine.execResetAssertion s
  | .offerJudgement => Sys2Proof.Machine.execOfferJudgement s

end Sys2Proof.Machine
end

