-- ==== Sys2Proof/Machine/Step.lean ====
section
/-! DEFINITION. The step of the block: the command at the front of the queue is handled. -/

namespace Sys2Proof.Machine

/-- One step: the front command of the queue acts on the state with the queue's rest. On an empty queue the block idles, since no
time passes but by the commands of the table (log entry 3). -/
def step (s : State) : Host.Outcome State Fault Refusal :=
  match s.pending with
  | c :: rest => exec c { s with pending := rest }
  | [] => .next s

/-- `s` with the command that the word spells at the front of its queue. No row of the table gives bits, so no word spells one
(log entry 32). -/
def State.withFetchWord (s : State) (nbits w : Nat) : State :=
  match decodeTableWord nbits w with
  | some c => { s with pending := c :: s.pending }
  | none => s

end Sys2Proof.Machine
end

