-- ==== Sys2Proof/Safety.lean ====
section
/-! DEFINITION. The terms in which statements about a run are made: which blocks an event may touch, when an event or a command comes
about, what a command reports, and what every state of a run satisfies. -/

namespace Sys2Proof.Machine

/-! ## Frames -/

/-- The eleven blocks (scope, Block overview), with the upstream port's own list beside them. -/
inductive Block where
  | time
  | windows
  | intake
  | arb
  | port
  | cranes
  | grid
  | reefer
  | notice
  | cmd
  | mirror
deriving DecidableEq, Repr

/-- Every block outside `l` is the same in both states, and so are the straps, the reset line, the queue of commands and the count of
RESTARTs. -/
def OnlyTouches (l : List Block) (s t : State) : Prop :=
  t.inReset = s.inReset ∧ t.cpb = s.cpb ∧ t.cpid = s.cpid ∧ t.pending = s.pending ∧ t.scratch = s.scratch ∧
  t.restarts = s.restarts ∧
  (.time ∈ l ∨ t.time = s.time) ∧ (.windows ∈ l ∨ t.windows = s.windows) ∧ (.intake ∈ l ∨ t.intake = s.intake) ∧
  (.arb ∈ l ∨ t.arb = s.arb) ∧ (.port ∈ l ∨ t.port = s.port) ∧ (.cranes ∈ l ∨ t.cranes = s.cranes) ∧
  (.grid ∈ l ∨ t.grid = s.grid) ∧ (.reefer ∈ l ∨ t.reefer = s.reefer) ∧ (.notice ∈ l ∨ t.notice = s.notice) ∧
  (.cmd ∈ l ∨ t.cmd = s.cmd) ∧ (.mirror ∈ l ∨ t.mirror = s.mirror)

/-! ## Between events -/

/-- Between events the interrupt line stands at its condition (R156) and the model's scratch is idle (log entry 27). Every step keeps
this. -/
def Settled (s : State) : Prop :=
  s.notice.irq = (!s.inReset && s.notice.irqCondition) ∧ s.scratch = .idle

/-- RST_N is not asserted, and no own write of an earlier event of the work is held (R39): the work can take a step. -/
def Free (k : Work) (s : State) : Prop := s.inReset = false ∧ Settled s ∧ s.arb.holds k = false

/-- The command k is offered and taken (R161, R162, R165). -/
def Offered (k : Command) (s : State) : Prop :=
  Free .command s ∧ s.cmd.offerMark = true ∧ s.cmd.tag ≠ s.cmd.lastTaken ∧ s.cmd.code = k.code ∧
    (s.cmd.state = .idle ∨ k.takenWhileBusy = true)

/-- The interrupt line follows its condition (R156). -/
def NoticeUnit.followed (u : NoticeUnit) : NoticeUnit := { u with irq := u.irqCondition }

/-- The own writes of an event of work k whose only write can be the status block: it is handed if the flags or the overflow set
changed (R154). -/
def StatusIfFlagged (k : Work) (s t : State) : Prop :=
  t.arb = if t.notice.flags = s.notice.flags ∧ t.notice.overflow = s.notice.overflow then s.arb
    else s.arb.hand k ⟨s.pageAddr 0x200, t.statusBlock⟩

/-- The own writes of a forwarded transfer p that may have changed a flag: the transfer waits for the port, and the status block is
handed if the flags or the overflow set changed (R154). -/
def ForwardsWithStatus (p : Passing) (s t : State) : Prop :=
  t.arb = if t.notice.flags = s.notice.flags ∧ t.notice.overflow = s.notice.overflow then
      { s.arb with passing := s.arb.passing ++ [p] }
    else Arbiter.hand { s.arb with passing := s.arb.passing ++ [p] } .other ⟨s.pageAddr 0x200, t.statusBlock⟩

/-- A notice whose value words are unsigned (R146). -/
def noticeOf (kind : NoticeKind) (subject : Nat) (stamp : Stamp) (v1 v2 v3 : Nat) : Notice :=
  { kind, subject, stamp, value1 := BitVec.ofNat 32 v1, value2 := BitVec.ofNat 32 v2, value3 := BitVec.ofNat 32 v3 }

/-! ## Results of commands (R162, R163) -/

/-- The Command Unit after a short command that ends in r. -/
def CommandUnit.reported (c : CommandUnit) (r : ResultCode) : CommandUnit :=
  { c with offerMark := false, lastTaken := c.tag, commandReport := ⟨c.tag, r⟩ }

/-- A short command reports r, with one own write: the result record. -/
def Reports (s t : State) (r : ResultCode) : Prop :=
  t.cmd = s.cmd.reported r ∧ t.arb = s.arb.hand .command ⟨s.pageAddr 0x80, t.cmd.resultRecord⟩

/-- A short command reports r, with two own writes: the status block and then the result record. -/
def ReportsWithStatus (s t : State) (r : ResultCode) : Prop :=
  t.cmd = s.cmd.reported r ∧
    t.arb = (s.arb.hand .command ⟨s.pageAddr 0x200, t.statusBlock⟩).hand .command ⟨s.pageAddr 0x80, t.cmd.resultRecord⟩

/-- A command is refused with r: it changes nothing but the Command Unit's reports, and its result record is written. -/
def Refuses (s t : State) (r : ResultCode) : Prop := Reports s t r ∧ OnlyTouches [.cmd, .arb] s t

/-! ## Dequeues (R37) -/

/-- The window counters after a dequeue of e: taken +1 for a counted entry whose window is in use. -/
def CountsTaken (s t : State) (e : QueueEntry) : Prop :=
  ∀ i, t.window i = if i = e.window ∧ e.counted = true ∧ (s.window i).inUse = true then
    { s.window i with taken := satAdd (s.window i).taken 1 } else s.window i

/-! ## Time messages (R6 to R8) -/

/-- A check of R6 fails, and every earlier one passes. -/
def ValueFails (t : TimeBase) (m : TimeMessage) (arrival : Nat) : Violation → Prop
  | .wrongMark => ∀ c, t.capture = some c → m.mark ≠ c.mark
  | .late => ∃ c, t.capture = some c ∧ m.mark = c.mark ∧ c.ltm + 2 * (1000 * t.interval) < arrival
  | .continuity => ∃ c, t.capture = some c ∧ m.mark = c.mark ∧ arrival ≤ c.ltm + 2 * (1000 * t.interval) ∧
      t.continuity = true ∧ t.tl ≠ none ∧ t.tl ≠ some m.previousTime
  | .remark => False

/-- Every check of R6 passes, with the mark captured at local time ltm. -/
def ValuePasses (t : TimeBase) (m : TimeMessage) (arrival ltm : Nat) : Prop :=
  t.capture = some ⟨m.mark, ltm⟩ ∧ arrival ≤ ltm + 2 * (1000 * t.interval) ∧
    (t.continuity = true → t.tl = none ∨ t.tl = some m.previousTime)

/-- The notices of an accepted VALUE with correction d, in order, with the stamp taken after the change (R8, R9, R11). -/
def SyncNotices (before : TimeBase) (stamp : Stamp) (m : TimeMessage) (d : Int) : List Notice :=
  (if before.sync = .unset then []
    else if (before.threshold : Int) < d then
      [{ kind := .timeStep, subject := 0, stamp, value1 := BitVec.ofInt 32 (clamp32 d), value2 := BitVec.ofNat 32 m.mark,
         value3 := BitVec.ofNat 32 before.threshold }]
    else if d < -(before.threshold : Int) then
      [{ kind := .timeBackward, subject := 0, stamp, value1 := BitVec.ofInt 32 (clamp32 d),
         value2 := BitVec.ofNat 32 m.mark, value3 := BitVec.ofNat 32 before.threshold }]
    else []) ++
  (if before.sync = .synced then []
    else [{ kind := .timeSynced, subject := 0, stamp, value1 := if before.sync = .unset then 0 else 2,
            value2 := BitVec.ofNat 32 m.mark, value3 := 0 }])

/-- The Time Base after one more microsecond (R1, R12): local time rises by 1 up to 2^48 − 1, and where that is a whole multiple of 1000
a nonzero S moves OC by 1 in its direction, within the signed 64-bit range (log entry 30), and itself by 1 toward 0. -/
def TimeBase.afterMicrosecond (t : TimeBase) : TimeBase :=
  let lt := min (t.lt + 1) (2 ^ 48 - 1)
  { t with
    lt := lt
    oc := if lt % 1000 ≠ 0 then t.oc else if 0 < t.slew then min (t.oc + 1) (2 ^ 63 - 1)
      else if t.slew < 0 then max (t.oc - 1) (-(2 ^ 63)) else t.oc
    slew := if lt % 1000 ≠ 0 then t.slew else if 0 < t.slew then t.slew - 1 else if t.slew < 0 then t.slew + 1 else t.slew }

/-- Local time is a 48-bit count, and OC and S are signed 64-bit values (R1, R7). -/
def TimeInRange (t : TimeBase) : Prop :=
  t.lt ≤ 2 ^ 48 - 1 ∧ -(2 ^ 63) ≤ t.oc ∧ t.oc ≤ 2 ^ 63 - 1 ∧ -(2 ^ 63) ≤ t.slew ∧ t.slew ≤ 2 ^ 63 - 1

/-! ## Windows (R22 to R31) -/

/-- A window of the table at another index than i is in use and meets p. -/
def AnotherWindow (s : State) (i : Nat) (p : Window → Bool) : Prop :=
  ∃ j : Fin 32, j.val ≠ i ∧ (s.window j).inUse = true ∧ p (s.window j) = true

/-- Check 3 of R27 fails, for kind code k. -/
def DefineArgsBad (s : State) (k : Nat) : Prop :=
  s.arg 3 % 4096 ≠ 0 ∨ 255 < s.arg 4 ∨ s.arg 5 < 1 ∨ 4096 < s.arg 5 ∨
    2 ^ 40 < s.arg 3 + 4294967296 * s.arg 4 + 4096 * s.arg 5 ∨ ((k = 1 ∨ k = 2) ∧ 15 < s.arg 7) ∨
    (k = 1 ∧ ¬(s.arg 6 ∈ [256, 512, 1024, 2048] ∧ 4096 * s.arg 5 % s.arg 6 = 0 ∧ 8 ≤ 4096 * s.arg 5 / s.arg 6 ∧
      4096 * s.arg 5 / s.arg 6 ≤ 64)) ∨
    (k = 6 ∧ 4096 * s.arg 5 < 32 * s.notice.lengthWord) ∨ (k = 7 ∧ 4096 * s.arg 5 ≠ 262144) ∨
    (k = 8 ∧ 4096 * s.arg 5 ≠ 8192) ∨ (k = 9 ∧ 4096 * s.arg 5 ≠ 4096)

/-- Two address ranges, given by base and size, share an address. -/
def Share (b1 n1 b2 n2 : Nat) : Prop := b1 < b2 + n2 ∧ b2 < b1 + n1

/-- The result r is the one of the first check of R27 that an offered DEFINE WINDOW of entry i and kind code k fails, or none when
it passes them all. -/
def DefineRefusal (s : State) (i k : Nat) (r : Option ResultCode) : Prop :=
  let base := s.arg 3 + 4294967296 * s.arg 4
  let size := 4096 * s.arg 5
  let bad1 := 31 < i ∨ k < 1 ∨ 10 < k
  let bad2 := ∃ j : Fin 32, j.val = i ∧ (s.window j).inUse = true ∧ (s.window j).lock ≠ .openLevel
  let bad3 := DefineArgsBad s k
  let bad4 := Share base size (s.pageAddr 0) 4096 ∨ AnotherWindow s i fun w => decide (base < w.base + w.size ∧ w.base < base + size)
  let bad5 := (k = 1 ∨ k = 2) ∧ ∃ c : Fin 16, c.val = s.arg 7 ∧ (s.crane c).link = .dormant
  let bad6 := ((k = 1 ∨ k = 2) ∧ AnotherWindow s i fun w =>
      w.kind.map WindowKind.code == some k && w.crane.map Fin.val == some (s.arg 7)) ∨
    ((k = 7 ∨ k = 8 ∨ k = 9) ∧ AnotherWindow s i fun w => w.kind.map WindowKind.code == some k)
  match r with
  | some .badArgument => bad1 ∨ (¬bad2 ∧ bad3)
  | some .locked => ¬bad1 ∧ bad2
  | some .overlap => ¬bad1 ∧ ¬bad2 ∧ ¬bad3 ∧ bad4
  | some .state => ¬bad1 ∧ ¬bad2 ∧ ¬bad3 ∧ ¬bad4 ∧ (bad5 ∨ bad6)
  | none => ¬bad1 ∧ ¬bad2 ∧ ¬bad3 ∧ ¬bad4 ∧ ¬bad5 ∧ ¬bad6
  | some _ => False

/-- No two in-use windows share an address, and none shares one with the control page (R28). -/
def WindowsApart (s : State) : Prop :=
  (∀ (i j : Fin 32) (a : Nat), (s.window i).contains a = true → (s.window j).contains a = true → i = j) ∧
  (∀ (i : Fin 32) (a : Nat), (s.window i).contains a = true → s.pageOffset a = none)

/-- A window but for its counters. -/
def Window.definition (w : Window) : Window := { w with taken := 0, missed := 0, torn := 0, blocked := 0 }

/-- The crane with a new slot table or none, its pending list, expected sequence and last verdict at their setup values, its counters
kept (R46, R66). -/
def Crane.withTable (c : Crane) (table : Option (List Slot)) : Crane :=
  { c with
    slots := table
    downExpected := none
    pendingSlots := []
    lastPassed := none
    lastCraneVerdict := .pass
    madeCount := 0 }

/-- The Notice Unit after the ring definition is judged on a window table (R151): nothing in UNDEFINED and PARTIAL. -/
def RingJudgedOn (table : Fin 32 → Window) (u : NoticeUnit) : NoticeUnit :=
  if u.ring = .ready ∨ u.ring = .invalid then
    if ringLengthGood u.defLength = true ∧ u.defBase % 32 = 0 ∧ u.defBase < 2 ^ 40 ∧
        (∃ i, (table i).inUse = true ∧ (table i).kind = some .noticeRing ∧ (table i).base ≤ u.defBase ∧
          u.defBase + 32 * u.defLength ≤ (table i).base + (table i).size) then { u with ring := .ready }
    else { u with ring := .invalid, flags := u.flags ||| 0x400#12 }
  else u

/-- The ring state or the flags differ: a cause of a status block write (R154). -/
def RingDiffers (u v : NoticeUnit) : Prop := u.ring ≠ v.ring ∨ u.flags ≠ v.flags

/-- The Command Unit after a command that starts a long operation (R163, R164). -/
def CommandUnit.started (c : CommandUnit) : CommandUnit :=
  { c.reported .running with state := .long, busy := true, longReport := ⟨c.tag, .running⟩ }

/-- A write transfer of a master at an address is forwarded whole, unaltered. -/
def ForwardsWrite (s : State) (m : MasterId) (a : Address) (l : List Lane) (arb : Arbiter) : Prop :=
  arb = { s.arb with passing := s.arb.passing ++ [.write m a l] }

/-! ## Crane slots (R49 to R60) -/

/-- The slot state that a fully written header beat gives its slot, by the conditions of 3.3 in order. -/
def FrameOutcome (c : Crane) (slotSize : Nat) (beat : List Byte) : SlotState :=
  let h := FrameHeader.read beat
  if checkWord (beat.take 14) ≠ field beat 14 2 then .faulted .check
  else if h.kind ≠ 1 ∨ h.craneId ≠ c.params.craneId ∨ slotSize - 16 < h.payloadLength then .faulted .framing
  else if h.validity = 0 then .faulted .validity
  else if c.downExpected ≠ none ∧ c.downExpected ≠ some h.sequence then .faulted .sequence
  else .pending

/-- The frame is well formed (R50): it is stamped, and brings the expected sequence into step. -/
def WellFormedFrame (o : SlotState) : Prop := o ≠ .faulted .check ∧ o ≠ .faulted .framing

/-- The effective deadline of a frame of validity v written at local time t (R51, R52). -/
def DeadlineOf (c : Crane) (t v : Nat) : Nat :=
  t + 1000 * (if c.link = .degraded then min (min v 2000) c.params.cap else min v 2000)

/-- The crane after a header beat has set slot n's record to x (R48 to R55): an old PENDING state counts as overwritten, and the
pending list and its tie order are as they come out. -/
def Crane.afterWrite (c after : Crane) (n : Nat) (x : Slot) : Crane :=
  { c with
    slots := c.slots.map fun l => l.set n x
    overwrites := if (c.slot n).state = .pending then min (c.overwrites + 1) 4294967295 else c.overwrites
    downExpected := after.downExpected
    pendingSlots := after.pendingSlots
    madeCount := after.madeCount }

/-- The reason of a HOLD verdict on slot n at local time t, or none for PASS, by the conditions of R59 in order. -/
def HoldReason (c : Crane) (n t : Nat) : Option Nat :=
  if c.holdFlag = true then some 1
  else if c.link = .lost then some 2
  else match (c.slot n).state with
    | .empty => some 3
    | .expired => some 4
    | .faulted .check => some 5
    | .faulted .sequence => some 6
    | .faulted .validity => some 7
    | .faulted .torn => some 8
    | .faulted .framing => some 9
    | .pending => if (c.slot n).deadline < t then some 4 else none
    | .sent => if (c.slot n).deadline < t then some 4 else none

/-- A payload beat of slot n is returned as DRAM gives it; otherwise as zeros (R62). -/
def PayloadPasses (c : Crane) (n : Nat) : Prop :=
  ((c.slot n).state = .pending ∨ (c.slot n).state = .sent) ∧ (c.slot n).lastVerdict = .pass

/-- The in-use CRANE_DOWN window i holds the address, with its crane and slot size, and the crane's slot table is set up (R44). -/
def FallsInSlots (s : State) (a : Nat) (w : Fin 32) (i : Fin 16) (size : Nat) : Prop :=
  s.windowAt a = some w ∧ (s.window w).kind = some .craneDown ∧ (s.window w).crane = some i ∧
    (s.window w).slotSize = some size ∧ size ∈ [256, 512, 1024, 2048] ∧ (s.crane i).slots ≠ none

/-- A crane's pending list holds its PENDING slots, each once, by deadline and, among equal deadlines, in write order (R55): the number
of the write that made a slot PENDING is at most the count of such writes, and no two PENDING slots share one (log entry 11). -/
def PendingWf (c : Crane) : Prop :=
  (∀ n, n ∈ c.pendingSlots ↔ (c.slot n).state = .pending) ∧ c.pendingSlots.Nodup ∧
    (c.pendingSlots.Pairwise fun m n => (c.slot m).deadline < (c.slot n).deadline ∨
      ((c.slot m).deadline = (c.slot n).deadline ∧ (c.slot m).madeNo < (c.slot n).madeNo)) ∧
    (∀ n, (c.slot n).state = .pending → (c.slot n).madeNo ≤ c.madeCount) ∧
    ∀ m n, (c.slot m).state = .pending → (c.slot n).state = .pending → (c.slot m).madeNo = (c.slot n).madeNo → m = n

/-- The slot table of a CRANE_DOWN window's crane has a record for each slot of the window, and windows are whole pages (R21, R44). -/
def TablesFit (s : State) : Prop :=
  ∀ (w : Fin 32) (i : Fin 16) (size : Nat) (l : List Slot), (s.window w).inUse = true → (s.window w).kind = some .craneDown →
    (s.window w).crane = some i → (s.window w).slotSize = some size → (s.crane i).slots = some l →
    (s.window w).base % 4096 = 0 ∧ (s.window w).size % 4096 = 0 ∧ 256 ≤ size ∧ l.length * size = (s.window w).size

/-! ## Crane contexts (R71 to R89) -/

/-- The ranges of R72 for arguments 2 to 9, argument 0 of the two counts meaning their defaults. -/
def CraneArgsGood (s : State) : Prop :=
  1 ≤ s.arg 2 ∧ s.arg 2 ≤ 254 ∧ 5 ≤ s.arg 3 ∧ s.arg 3 ≤ 1000 ∧ s.arg 4 ≤ s.arg 3 - 1 ∧ 10 ≤ s.arg 5 ∧ s.arg 5 ≤ 5000 ∧
    s.arg 6 ≤ 15 ∧ s.arg 7 ≤ 32 ∧ 5 ≤ s.arg 8 ∧ s.arg 8 ≤ 500 ∧ 50 ≤ s.arg 9 ∧ s.arg 9 ≤ 500

/-- The eight parameters that arguments 2 to 9 give (R72). -/
def CraneParamsOf (s : State) : CraneParams :=
  { craneId := s.arg 2, cadence := s.arg 3, early := s.arg 4, heartbeat := s.arg 5,
    recover := if s.arg 6 = 0 then 3 else s.arg 6, degrade := if s.arg 7 = 0 then 4 else s.arg 7, cap := s.arg 8,
    segmentLength := s.arg 9 }

/-- Another attached crane has the crane ID that argument 2 gives (R72, R73). -/
def CraneIdTaken (s : State) (i : Fin 16) : Prop :=
  ∃ j, j ≠ i ∧ (s.crane j).link ≠ .dormant ∧ (s.crane j).params.craneId = s.arg 2

/-- An in-use window of a crane kind names the crane (R74). -/
def CraneNamed (s : State) (i : Fin 16) : Prop :=
  ∃ w, (s.window w).inUse = true ∧ ((s.window w).kind = some .craneDown ∨ (s.window w).kind = some .craneUp) ∧
    (s.window w).crane = some i

/-- A crane's mirror record, and then the result record, are the own writes of a command that reports r; the mirror record is written
while a CRANE_MIRROR window is in use (R89). -/
def ReportsWithCraneMirror (s t : State) (i : Fin 16) (r : ResultCode) : Prop :=
  t.cmd = s.cmd.reported r ∧
    t.arb = (match s.mirrorBase .craneMirror with
      | some b => s.arb.hand .command ⟨b + 64 * i.val, (t.crane i).mirrorRecord⟩
      | none => s.arb).hand .command ⟨s.pageAddr 0x80, t.cmd.resultRecord⟩

/-- The error window after outcomes join it: its last 32 (R80). -/
def ErrorsAfter (before new : List UplinkOutcome) : List UplinkOutcome :=
  (before ++ new).drop ((before ++ new).length - 32)

/-- The crane is judged bad (R84, R85): its error count is at or above its threshold, or its current square is HOLE or MARGINAL. -/
def JudgedBad (s : State) (i : Fin 16) : Prop :=
  (s.crane i).params.degrade ≤ (s.crane i).errors.countP (· != .good) ∨
    ∃ q, (s.crane i).square = some q ∧ ((s.square q).state = .hole ∨ (s.square q).state = .marginal)

/-- The link state after a record whose own outcome is own (R84, R85), judged on the state t. -/
def LinkAfterRecord (before : LinkState) (own : UplinkOutcome) (t : State) (i : Fin 16) (after : LinkState) : Prop :=
  match before with
  | .dormant => after = .dormant
  | .lost =>
    if own = .good ∧ (t.crane i).params.recover ≤ (t.crane i).goodCount then
      (JudgedBad t i → after = .degraded) ∧ (¬JudgedBad t i → after = .linked)
    else after = .lost
  | .linked => (JudgedBad t i → after = .degraded) ∧ (¬JudgedBad t i → after = .linked)
  | .degraded => (JudgedBad t i → after = .degraded) ∧ (¬JudgedBad t i → after = .linked)

/-- The outcome of a record that is not used, by R76 and R77. -/
def UnusedOutcome (c : Crane) (r : List Byte) : UplinkOutcome → Prop
  | .check => checkWord (r.take 14) ≠ field r 14 2
  | .framing => checkWord (r.take 14) = field r 14 2 ∧
      ((UplinkHeader.read r).kind ≠ 1 ∨ (UplinkHeader.read r).craneId ≠ c.params.craneId ∨ 3 < (UplinkHeader.read r).band)
  | .sequence => checkWord (r.take 14) = field r 14 2 ∧ (UplinkHeader.read r).kind = 1 ∧
      (UplinkHeader.read r).craneId = c.params.craneId ∧ (UplinkHeader.read r).band ≤ 3 ∧
      ∃ e, c.expected = some e ∧ 32768 ≤ seqDiff (UplinkHeader.read r).sequence e
  | _ => False

/-- A record is in sequence after `missing` MISSING outcomes (R76, R77). -/
def InSequence (c : Crane) (r : List Byte) (missing : Nat) : Prop :=
  checkWord (r.take 14) = field r 14 2 ∧ (UplinkHeader.read r).kind = 1 ∧
    (UplinkHeader.read r).craneId = c.params.craneId ∧ (UplinkHeader.read r).band ≤ 3 ∧
    match c.expected with
    | none => missing = 0
    | some e => seqDiff (UplinkHeader.read r).sequence e ≤ 32767 ∧
        missing = min (seqDiff (UplinkHeader.read r).sequence e) 32

/-- A record in sequence is early (R78). -/
def Early (c : Crane) (arrival : Nat) : Prop :=
  ∃ p, c.prevArrival = some p ∧ arrival < p + 1000 * (c.params.cadence - c.params.early)

/-- No crane is LINKED while its current square is HOLE or MARGINAL (R71). -/
def NoLinkedCraneInWeakSquare (s : State) : Prop :=
  ∀ i q, (s.crane i).link = .linked → (s.crane i).square = some q →
    (s.square q).state ≠ .hole ∧ (s.square q).state ≠ .marginal

/-- The attached cranes have parameters in range, and no two of them share a crane ID (R72, R73). -/
def CraneIdsDistinct (s : State) : Prop :=
  (∀ i, (s.crane i).link ≠ .dormant → (s.crane i).params.inRange = true) ∧
  (∀ i j, (s.crane i).link ≠ .dormant → (s.crane j).link ≠ .dormant →
    (s.crane i).params.craneId = (s.crane j).params.craneId → i = j)

/-- A crane that is LINKED or DEGRADED has had a used record: its square and previous used arrival are present and its heartbeat timer
runs (R79, R83). -/
def LinkedCraneHeard (s : State) : Prop :=
  ∀ i, (s.crane i).link = .linked ∨ (s.crane i).link = .degraded →
    (s.crane i).square ≠ none ∧ (s.crane i).prevArrival ≠ none ∧ (s.crane i).heartbeat ≠ none

/-- The arbiter after work k hands the crane mirror record of crane i as t has it, from the arbiter arb (R89). -/
def WithCraneMirror (k : Work) (arb : Arbiter) (t : State) (i : Fin 16) : Arbiter :=
  match t.mirrorBase .craneMirror with
  | some b => arb.hand k ⟨b + 64 * i.val, (t.crane i).mirrorRecord⟩
  | none => arb

/-- A notice of a link transition of crane i, whose first two words are the link state before and the error count (R87). -/
def LinkNotice (s : State) (i : Fin 16) (kind : NoticeKind) (v3 : Nat) : Notice :=
  noticeOf kind i.val s.stamp (match (s.crane i).link with | .dormant => 0 | .lost => 1 | .linked => 2 | .degraded => 3)
    ((s.crane i).errors.countP (· != .good)) v3

/-- Crane c after its slot n has expired (R56). -/
def Crane.afterExpiry (c : Crane) (n : Nat) : Crane :=
  { c with
    slots := c.slots.map fun l => l.set n { c.slot n with state := .expired }
    pendingSlots := c.pendingSlots.filter (· != n)
    unsent := min (c.unsent + 1) 4294967295 }

/-- The slots of a crane, capped at its entry into DEGRADED, that expire with the entry at local time lt: the head of the pending list
and those behind it whose new deadlines have passed (R57). -/
def ExpireAtEntry (capped : Crane) (lt : Nat) (expired : List Nat) : Prop :=
  expired <+: capped.pendingSlots ∧ (∀ n ∈ expired, (capped.slot n).deadline < lt) ∧
    ∀ n, capped.pendingSlots[expired.length]? = some n → lt ≤ (capped.slot n).deadline

/-- t is s after crane i has entered DEGRADED (R57, R87, R89): the link state and the capped deadlines; DEGRADED with its cause, then
UNSENT for each slot that expires, in list order; the mirror record once, after those expiries (log entries 10 and 36). -/
def EntersDegraded (s t : State) (i : Fin 16) : Prop :=
  let capped := ({ s.crane i with link := .degraded } : Crane).capDeadlines
  let cause := (if (s.crane i).params.degrade ≤ (s.crane i).errors.countP (· != .good) then 1 else 0) +
    (if ∃ q, (s.crane i).square = some q ∧ ((s.square q).state = .hole ∨ (s.square q).state = .marginal) then 2 else 0)
  ∃ expired, ExpireAtEntry capped s.time.lt expired ∧ t.cranes = upd s.cranes i (expired.foldl Crane.afterExpiry capped) ∧
    t.notice = (expired.map fun n => noticeOf .unsent i.val s.stamp n (capped.slot n).sequence (capped.slot n).deadline).foldl
      NoticeUnit.take (s.notice.take (LinkNotice s i .degraded cause)) ∧
    t.arb = (if s.scratch.deferred = some i then s.arb else WithCraneMirror s.scratch.work s.arb t i)

/-- t is s after crane i, which stands in square q, has become LINKED with a notice of the kind (R87, R89). -/
def EntersLinked (s t : State) (i : Fin 16) (kind : NoticeKind) (q : Fin 512) : Prop :=
  t.cranes = upd s.cranes i { s.crane i with link := .linked } ∧ t.notice = s.notice.take (LinkNotice s i kind q.val) ∧
    t.arb = (if s.scratch.deferred = some i then s.arb else WithCraneMirror s.scratch.work s.arb t i)

/-- t is s after crane i is judged at the end of a record whose own outcome is own (R84, R85). -/
def JudgedOnRecord (s t : State) (i : Fin 16) (own : UplinkOutcome) : Prop :=
  match (s.crane i).link with
  | .dormant => t = s
  | .lost =>
    if own = .good ∧ (s.crane i).params.recover ≤ (s.crane i).goodCount then
      (JudgedBad s i → t = s.enterDegraded i) ∧ (¬JudgedBad s i → t = s.enterLinked i .linkUp)
    else t = s
  | .linked => (JudgedBad s i → t = s.enterDegraded i) ∧ (¬JudgedBad s i → t = s)
  | .degraded => (JudgedBad s i → t = s) ∧ (¬JudgedBad s i → t = s.enterLinked i .recovered)

/-- The flag that an uplink outcome sets (R81). -/
def OutcomeFlag : UplinkOutcome → BitVec 12
  | .good => 0
  | .check => 0x008#12
  | .missing => 0x010#12
  | .sequence => 0x010#12
  | .cadence => 0x020#12
  | .framing => 0x040#12

/-! ## Squares (R92 to R107) -/

/-- The fresh entry of cell c, with estimate e, is the square's best: the greatest estimate, ties to the lower index (R99). -/
def BestOf (entries : Vector CellEntry 24) (c : Fin 24) (e : Int) : Prop :=
  (∃ u, entries.get c = .fresh e u) ∧ ∀ d f u, entries.get d = .fresh f u → f < e ∨ (f = e ∧ c ≤ d)

/-- The new state of a square by the table of R99, from the state before and the best estimate b. -/
def StateAfter (p : CoverageParams) (before : SquareState) (b : Int) : SquareState :=
  if before = .unknown ∨ before = .covered then
    if b < 8 * p.holeEnter then .hole else if b < 8 * p.marginalEnter then .marginal else .covered
  else if before = .marginal then
    if b < 8 * p.holeEnter then .hole else if 8 * p.marginalExit ≤ b then .covered else .marginal
  else if 8 * p.marginalExit ≤ b then .covered else if 8 * p.holeExit ≤ b then .marginal else .hole

/-- The summary of a square fits its entries (R96): UNKNOWN, without best cell, exactly when no entry is fresh, and otherwise with
the best entry as its best cell and best estimate. -/
def SummaryFits (x : Square) : Prop :=
  (x.state = .unknown ↔ ∀ c e u, x.entries.get c ≠ .fresh e u) ∧
  ((∀ c e u, x.entries.get c ≠ .fresh e u) → x.best = none ∧ x.bestEstimate = none) ∧
  (∀ c e, BestOf x.entries c e → x.best = some c ∧ x.bestEstimate = some e)

/-- An estimate lies in −2240 to −320 (R98). -/
def EstimateInRange : CellEntry → Prop
  | .absent => True
  | .fresh e _ => -2240 ≤ e ∧ e ≤ -320
  | .stale e _ => -2240 ≤ e ∧ e ≤ -320

/-- t is s after square q has taken new entries and its summary is recomputed, with the effects of R100 in their order: SQUARE_STATE for a
change of state, one mirror record for a change of state or best cell, and then the judgement of the cranes for a change of state. -/
def SquareChanged (s t : State) (q : Fin 512) (entries : Vector CellEntry 24) : Prop :=
  let old := s.square q
  let new := ({ old with entries := entries } : Square).summarised s.grid.params s.stamp
  let u : State := { s with
    grid := { s.grid with squares := upd s.grid.squares q new }
    notice := if new.state = old.state then s.notice else s.notice.take
      { kind := .squareState, subject := q.val, stamp := s.stamp, value1 := BitVec.ofNat 32 old.state.code,
        value2 := BitVec.ofNat 32 new.state.code, value3 := BitVec.ofInt 32 (new.bestEstimate.getD 0) }
    arb := if new.state = old.state ∧ new.best = old.best then s.arb else match s.mirrorBase .gridMirror with
      | some b => s.arb.hand s.scratch.work ⟨b + 16 * q.val, new.mirrorRecord s.grid.cells⟩
      | none => s.arb }
  let v := if new.state = old.state then u else u.reportSquare q old.state new.state
  t.grid = u.grid ∧ t.cranes = v.cranes ∧ t.notice = v.notice ∧ t.arb = v.arb

/-- The place c is cleared (R94), and then holds `place`: entry c of every square becomes absent, each square's summary is recomputed,
and nothing else of the grid changes. -/
def ClearsPlace (s t : State) (c : Fin 24) (place : Option Nat) : Prop :=
  t.grid = { s.grid with cells := upd s.grid.cells c place, squares := t.grid.squares } ∧
    ∀ q, (t.square q).entries = upd (s.square q).entries c .absent ∧
      (t.square q) = ({ s.square q with entries := (t.square q).entries } : Square).summarised s.grid.params s.stamp

/-- The ranges and the order of R106, for the eight arguments. -/
def CoverageArgsGood (s : State) : Prop :=
  (∀ n ∈ [1, 2, 3, 4], -280 ≤ s.argS n ∧ s.argS n ≤ -40) ∧ 10 ≤ s.arg 5 ∧ s.arg 5 ≤ 3600 ∧ s.arg 6 ≤ 80 ∧ 1 ≤ s.arg 7 ∧
    s.arg 7 ≤ 600 ∧ 1 ≤ s.arg 8 ∧ s.arg 8 ≤ 128 ∧ s.argS 1 < s.argS 2 ∧ s.argS 2 ≤ s.argS 3 ∧ s.argS 3 < s.argS 4

/-- The limiter after an unknown identity at local time t, and whether it lets the notice through (R97). -/
def LimiterRule (before after : Vector (Option LimiterPlace) 8) (identity t : Nat) (raised : Bool) : Prop :=
  (∀ p x, before.get p = some x → x.identity = identity → (∀ p' < p, ∀ x', before.get p' = some x' → x'.identity ≠ identity) →
    if t < x.time + 60000000 then raised = false ∧ after = before
    else raised = true ∧ after = upd before p (some ⟨identity, t⟩)) ∧
  ((∀ p x, before.get p = some x → x.identity ≠ identity) →
    raised = true ∧ ∃ p, after = upd before p (some ⟨identity, t⟩) ∧
      (before.get p = none ∨ ((∀ q, before.get q ≠ none) ∧
        ∀ x q y, before.get p = some x → before.get q = some y → x.time < y.time ∨ (x.time = y.time ∧ p ≤ q))))

/-- A pass after a start time t (R101, R126): it begins at 0, or the start is held while it runs. -/
def Pass.afterStart (p : Pass) (t : Nat) : Pass :=
  { inProgress := true, position := if p.inProgress then p.position else 0,
    startHeld := if p.inProgress then true else p.startHeld, startTakenAt := some t }

/-- A pass over n places after a visit (R101, R126): it goes on, or ends, and a held start begins the next at 0; the position is 0 after
the end (log entry 42). -/
def Pass.afterVisit (p : Pass) (n : Nat) : Pass :=
  if p.position + 1 < n then { p with position := p.position + 1 }
  else { p with position := 0, inProgress := p.startHeld && p.inProgress, startHeld := false }

/-- The cell table holds no identity 0 and each identity at most once (R92). -/
def CellsDistinct (s : State) : Prop :=
  (∀ c, s.grid.cells.get c ≠ some 0) ∧
    ∀ c d n, s.grid.cells.get c = some n → s.grid.cells.get d = some n → c = d

/-- The own-write queue after work k hands the grid mirror record of square q as t has it (R109). -/
def WithGridMirror (k : Work) (s t : State) (q : Fin 512) : Arbiter :=
  match s.mirrorBase .gridMirror with
  | some b => s.arb.hand k ⟨b + 16 * q.val, (t.square q).mirrorRecord s.grid.cells⟩
  | none => s.arb

/-- The cranes, notices and own writes of t are those of square q taking new entries within an event of work k from s (R100), with a
status block last if a flag or the overflow set changed (R154). -/
def RecomputedBy (k : Work) (s t : State) (q : Fin 512) (entries : Vector CellEntry 24) : Prop :=
  let u := (s.beginEvent k).changeSquare q entries
  t.cranes = u.cranes ∧ t.notice = u.notice.followed ∧ t.arb =
    if t.notice.flags = s.notice.flags ∧ t.notice.overflow = s.notice.overflow then u.arb
    else u.arb.hand k ⟨s.pageAddr 0x200, t.statusBlock⟩

/-- The cranes, notices and own writes of a cell command that clears place c: entry c of every square becomes absent in index order, each
with the effects of R100 and with the place empty, and then come a status block, if a flag or the overflow set changed, and the result
record (R94, R154, R163). -/
def ClearsInOrder (s t : State) (c : Fin 24) : Prop :=
  let u := (List.finRange 512).foldl (fun x q => x.changeSquare q (upd (x.square q).entries c .absent))
    { s.beginEvent .command with grid := { s.grid with cells := upd s.grid.cells c none } }
  t.cranes = u.cranes ∧ t.notice = u.notice.followed ∧ t.arb =
    (if t.notice.flags = s.notice.flags ∧ t.notice.overflow = s.notice.overflow then u.arb
      else u.arb.hand .command ⟨s.pageAddr 0x200, t.statusBlock⟩).hand .command ⟨s.pageAddr 0x80, t.cmd.resultRecord⟩

/-! ## Reefer entries (R112 to R142) -/

/-- The reefer table holds no tag 0 and each tag at most once (R114). -/
def TagsDistinct (s : State) : Prop :=
  (∀ n, (s.entry n).state ≠ .vacant → (s.entry n).tag ≠ 0) ∧
    ∀ n m, (s.entry n).state ≠ .vacant → (s.entry m).state ≠ .vacant → (s.entry n).tag = (s.entry m).tag → n = m

/-- The ranges of the fields of R112: F, stored setpoint, A, alarm list, in-band count, last sequence and the three counts; a VACANT
entry has A 0 and no alarms. -/
def EntryInRange (e : ReeferEntry) : Prop :=
  (∀ f, e.filtered = some f → -4000 ≤ f ∧ f ≤ 4000) ∧ (∀ x, e.setpoint = some x → -3000 ≤ x ∧ x ≤ 3000) ∧
    e.accumulator ≤ 4294967295 ∧ e.alarms.length ≤ 6 ∧ e.alarms.Nodup ∧ (e.state = .vacant → e.accumulator = 0 ∧ e.alarms = []) ∧
    e.inBandCount ≤ 8 ∧ (∀ n, e.lastSequence = some n → n ≤ 65535) ∧ e.reports ≤ 4294967295 ∧ e.missed ≤ 4294967295 ∧
    e.duplicates ≤ 4294967295

/-- The ranges of R115 for a criteria entry. -/
def CriteriaInRange (c : Criteria) : Prop :=
  c.upper ≤ 1000 ∧ c.lower ≤ 1000 ∧ 1 ≤ c.shift ∧ c.shift ≤ 4 ∧ 1 ≤ c.limit ∧ c.limit ≤ 100000 ∧ 1 ≤ c.settle ∧ c.settle ≤ 8 ∧
    60 ≤ c.elapsedCap ∧ c.elapsedCap ≤ 3600 ∧ c.defrostAllowance ≤ 90 ∧ 60 ≤ c.silentLimit ∧ c.silentLimit ≤ 7200

/-- The entry holds the tag (R114). -/
def Holds (s : State) (n : Fin 4096) (tag : Nat) : Prop :=
  (s.entry n).state ≠ .vacant ∧ (s.entry n).tag = tag ∧
    ∀ m, m < n → (s.entry m).state = .vacant ∨ (s.entry m).tag ≠ tag

/-- No entry holds the tag (R114). -/
def NotHeld (s : State) (tag : Nat) : Prop := ∀ n, (s.entry n).state = .vacant ∨ (s.entry n).tag ≠ tag

/-- The entry that a new tag takes (R117, R118): the lowest VACANT one, or, with none, the SILENT one that was heard longest ago, ties to
the lower index. -/
def PlaceForNewTag (s : State) (n : Fin 4096) (evicted : Bool) : Prop :=
  if evicted then
    (∀ m, (s.entry m).state ≠ .vacant) ∧ (s.entry n).state = .silent ∧
      ∀ m, (s.entry m).state = .silent → (s.entry n).lastHeard < (s.entry m).lastHeard ∨
        ((s.entry n).lastHeard = (s.entry m).lastHeard ∧ n ≤ m)
  else (s.entry n).state = .vacant ∧ ∀ m, m < n → (s.entry m).state ≠ .vacant

/-- A freshly enrolled entry (R117). -/
def EnrolledAs (tag : Nat) (criteria : Fin 16) (square : Option (Fin 512)) (heard : Nat) : ReeferEntry :=
  { ReeferEntry.cleared with state := .enrolled, tag := tag, criteria := criteria, square := square, lastHeard := heard }

/-- SILENT_EVICTED, with the age in whole seconds (R118). -/
def EvictionNotice (s : State) (n : Fin 4096) (tag : Nat) : Notice :=
  noticeOf .silentEvicted n.val s.stamp (s.entry n).tag tag ((s.time.lt - (s.entry n).lastHeard) / 1000000)

/-- A reefer mirror record, and then the result record, are the own writes of a command that reports DONE (R128). -/
def ReportsWithReeferMirror (s t : State) (n : Fin 4096) : Prop :=
  t.cmd = s.cmd.reported .done ∧
    t.arb = (match s.mirrorBase .reeferMirror with
      | some b => s.arb.hand .command ⟨b + 64 * n.val, (t.entry n).mirrorRecord⟩
      | none => s.arb).hand .command ⟨s.pageAddr 0x80, t.cmd.resultRecord⟩

/-- The entry after steps 1 to 8 of a used report with arrival local time a (R120 to R125). -/
def Bookkept (e : ReeferEntry) (r : ReeferReport) (a : Nat) : ReeferEntry :=
  let revived := if e.state = .enrolled then .active
    else if e.state = .silent then (if e.wasInExcursion then .excursion else .active) else e.state
  let alarms := alarmSet r.alarmCount r.alarmPlaces
  let power : Power := if r.power = 2 then .off else if r.power = 3 then .defrost else .on
  let sp := max (-3000) (min 3000 r.setpoint)
  let changed := e.setpoint ≠ none ∧ e.setpoint ≠ some sp
  { e with
    state := if changed ∧ revived = .excursion then .active else revived
    wasInExcursion := if e.state = .enrolled ∨ e.state = .silent then false else e.wasInExcursion
    lastSequence := some r.sequence
    missed := match e.lastSequence with
      | none => e.missed
      | some l => min (e.missed + (seqDiff r.sequence l - 1)) 4294967295
    reports := min (e.reports + 1) 4294967295
    alarms := if e.alarms.toFinset = alarms.toFinset then e.alarms else alarms
    alarmClamp := decide (6 < r.alarmCount)
    power := power
    powerUnknown := decide (r.power ≠ 1 ∧ r.power ≠ 2 ∧ r.power ≠ 3)
    defrostStart := if power = .defrost then (if e.power = .defrost then e.defrostStart else some a)
      else if e.power = .defrost then none else e.defrostStart
    setpoint := some sp
    setpointClamp := decide (r.setpoint < -3000 ∨ 3000 < r.setpoint)
    sensorRange := false
    accumulator := if changed then 0 else e.accumulator
    inBandCount := if changed then 0 else e.inBandCount
    excess := if changed then 0 else e.excess
    side := if changed then .inBand else e.side
    lastHeard := max e.lastHeard a }

/-- The accumulator after a report with a temperature, before settling (R135, R136, R140): the previous excess times the elapsed whole
seconds joins it, or 0 for a defrost interval above the band within its allowance. -/
def AccumulatorAfter (e : ReeferEntry) (c : Criteria) (i : ArithmeticInput) : Nat :=
  let seconds := if e.filtered = none then 0 else min ((i.arrival - i.previousHeard) / 1000000) c.elapsedCap
  let inAllowance := match i.defrostStart with
    | some d => decide (i.arrival ≤ d + 60000000 * c.defrostAllowance)
    | none => false
  let contribution := if e.side = .above ∧ i.previousPower = .defrost ∧ inAllowance = true then 0 else e.excess * seconds
  min (e.accumulator + contribution) 4294967295

/-- The entry after the arithmetic of a report with a temperature (R133 to R142), the criteria c, the previous power state and defrost
start handed, and the elapsed time taken from the previous last heard. -/
def Arithmetic (e : ReeferEntry) (c : Criteria) (i : ArithmeticInput) (raw : Int) : ReeferEntry :=
  let measured := max (-4000) (min 4000 raw)
  let a := AccumulatorAfter e c i
  let f : Int := match e.filtered with
    | none => measured
    | some v =>
      let q := Int.tdiv (measured - v) (2 ^ c.shift)
      if q ≠ 0 then v + q else if v < measured then v + 1 else if measured < v then v - 1 else v
  let dev := f - e.setpoint.getD 0
  let side : Side := if (c.upper : Int) < dev then .above else if dev < -(c.lower : Int) then .below else .inBand
  let count := if side = .inBand then min (e.inBandCount + 1) c.settle else 0
  let declared := if e.state = .active ∧ 60 * c.limit ≤ a then .excursion else e.state
  { e with
    sensorRange := decide (raw < -4000 ∨ 4000 < raw)
    filtered := some f
    side := side
    excess := if side = .above then (dev - c.upper).toNat else if side = .below then (-(c.lower : Int) - dev).toNat else 0
    outOfBandSince := if e.side = .inBand ∧ side ≠ .inBand then some i.now else e.outOfBandSince
    inBandCount := count
    accumulator := if count = c.settle then 0 else a
    state := if count = c.settle ∧ declared = .excursion then .active else declared }

/-- What the bookkeeping hands the arithmetic for the entry e before the report, at arrival local time a (R123, R125, R132). -/
def InputOf (e : ReeferEntry) (a : Nat) (now : Stamp) : ArithmeticInput :=
  { arrival := a, previousHeard := min e.lastHeard a, previousPower := e.power, defrostStart := e.defrostStart, now }

/-- The temperature of a report (R133): the supply temperature, or the return temperature where that sensor is absent, or none. -/
def TemperatureOf (r : ReeferReport) : Option Int :=
  if r.supply ≠ 32767 then some r.supply else if r.returnAir ≠ 32767 then some r.returnAir else none

/-- The entry e after a used report (R120 to R142). -/
def AfterReport (e : ReeferEntry) (c : Criteria) (r : ReeferReport) (a : Nat) (now : Stamp) : ReeferEntry :=
  match TemperatureOf r with
  | none => Bookkept e r a
  | some raw => Arithmetic (Bookkept e r a) c (InputOf e a now) raw

/-- The notices of a used report at entry n before its coverage sample, in step order (R121, R122, R124). -/
def BookkeepingNotices (n : Nat) (e : ReeferEntry) (r : ReeferReport) (a : Nat) (now : Stamp) : List Notice :=
  let b := Bookkept e r a
  (if e.state = .silent then
    [noticeOf .returned n now e.tag ((a - e.lastHeard) / 1000000) (if e.wasInExcursion then 3 else 2)] else []) ++
  (if e.alarms = b.alarms then []
    else [noticeOf .alarmChange n now e.tag b.alarms.length (b.alarms.getD 0 0 + 256 * b.alarms.getD 1 0 +
      65536 * b.alarms.getD 2 0 + 16777216 * b.alarms.getD 3 0)]) ++
  (match e.setpoint, b.setpoint with
    | some old, some new => if old = new then [] else
      [{ kind := .setpointChange, subject := n, stamp := now, value1 := BitVec.ofNat 32 e.tag,
         value2 := BitVec.ofInt 32 old, value3 := BitVec.ofInt 32 new }]
    | _, _ => [])

/-- The notices of the excursion arithmetic of a used report at entry n, after its coverage sample (R143). -/
def ExcursionNotices (n : Nat) (e : ReeferEntry) (c : Criteria) (r : ReeferReport) (a : Nat) (now : Stamp) : List Notice :=
  let b := Bookkept e r a
  let x := AfterReport e c r a now
  let total := AccumulatorAfter b c (InputOf e a now)
  let declares := b.state = .active ∧ 60 * c.limit ≤ total
  let since := match x.outOfBandSince with
    | some t => t.value.toNat % 4294967296
    | none => 0
  let excess : Int := if x.side = .below then -(x.excess : Int) else x.excess
  if TemperatureOf r = none then []
  else
    (if declares then
      [{ kind := .excursionStart, subject := n, stamp := now, value1 := BitVec.ofNat 32 since,
         value2 := BitVec.ofNat 32 total, value3 := BitVec.ofInt 32 excess }] else []) ++
    (if (declares ∨ b.state = .excursion) ∧ x.inBandCount = c.settle then
      [{ kind := .excursionClear, subject := n, stamp := now, value1 := BitVec.ofNat 32 since,
         value2 := BitVec.ofNat 32 total, value3 := BitVec.ofInt 32 (x.filtered.getD 0) }] else [])

/-- The own-write queue after the event's mirror record of entry n, handed by the reefer job (R128). -/
def WithReeferMirror (k : Work) (s t : State) (n : Fin 4096) : Arbiter :=
  match s.mirrorBase .reeferMirror with
  | some b => s.arb.hand k ⟨b + 64 * n.val, (t.entry n).mirrorRecord⟩
  | none => s.arb

/-- The own writes of an event of work k, arb being the arbiter after its other own writes: the status block is handed last if the flags
or the overflow set changed (R154). -/
def ThenStatusIfFlagged (k : Work) (s t : State) (arb : Arbiter) : Prop :=
  t.arb = if t.notice.flags = s.notice.flags ∧ t.notice.overflow = s.notice.overflow then arb
    else arb.hand k ⟨s.pageAddr 0x200, t.statusBlock⟩

/-- A report finds its entry (R114, R118): held, or, for a tag not held in AUTO, the place the tag takes, freshly enrolled at the
report's arrival local time a. -/
def ReportEntry (s : State) (r : ReeferReport) (a : Nat) (n : Fin 4096) (e : ReeferEntry) : Prop :=
  r.kind = 1 ∧ r.tag ≠ 0 ∧
    ((Holds s n r.tag ∧ e = s.entry n) ∨
      (NotHeld s r.tag ∧ s.reefer.mode = .auto ∧ (∃ evicted, PlaceForNewTag s n evicted) ∧
        e = EnrolledAs r.tag 0 none a))

/-- The notices of automatic enrolment, before those of the report (R118). -/
def EnrolmentNotices (s : State) (r : ReeferReport) (n : Fin 4096) : List Notice :=
  if (s.entry n).state ≠ .vacant ∧ (s.entry n).tag = r.tag then []
  else (if (s.entry n).state = .vacant then [] else [EvictionNotice s n r.tag]) ++
    [noticeOf .enrolled n.val s.stamp r.tag 0 (if (s.entry n).state = .vacant then 0 else 1)]

/-! ## The Notice Unit (R145 to R157) -/

/-- The pending queue stands in class priority order (R148). -/
def QueueOrdered (q : List Notice) : Prop := q.Pairwise fun a b => a.kind.cls.code ≤ b.kind.cls.code

/-- Byte o of the page as a write of lanes l from page offset off on writes it, if it does (R150, R160). -/
def PageByte (off : Nat) (l : List Lane) (o : Nat) : Option Byte :=
  if off ≤ o then
    match l[o - off]? with
    | some x => if x.strobe then some x.byte else none
    | none => none
  else none

/-- The write writes at least one byte of the n bytes of the page at offset o (R150, R161). -/
def PageTouches (off : Nat) (l : List Lane) (o n : Nat) : Bool := (List.range n).any fun i => (PageByte off l (o + i)).isSome

/-- A copy of n bytes of the page at offset o after the write (R150, R160). -/
def CopiedFrom {n : Nat} (copy : Vector Byte n) (off : Nat) (l : List Lane) (o : Nat) : Vector Byte n :=
  Vector.ofFn fun i => (PageByte off l (o + i.val)).getD (copy.get i)

/-- The two marks before a write and the words it writes complete the ring definition (R150). -/
def PairCompletes (u : NoticeUnit) (base length : Bool) : Prop :=
  (base = true ∧ length = true) ∨ (base = true ∧ length = false ∧ u.baseMark = false ∧ u.lengthMark = true) ∨
    (base = false ∧ length = true ∧ u.baseMark = true ∧ u.lengthMark = false)

/-- Both marks are set before a write of one of the two words, which clears the other's (R150). -/
def PairBreaks (u : NoticeUnit) (base length : Bool) : Prop :=
  base ≠ length ∧ u.baseMark = true ∧ u.lengthMark = true

/-- v is the Notice Unit u after a permitted write of the page (R150, R151, R153), but for the interrupt line. -/
def RingAfterWrite (s : State) (u v : NoticeUnit) (off : Nat) (l : List Lane) : Prop :=
  let base := PageTouches off l 0x100 8
  let length := PageTouches off l 0x108 4
  let copied : NoticeUnit := { u with
    baseCopy := CopiedFrom u.baseCopy off l 0x100
    lengthCopy := CopiedFrom u.lengthCopy off l 0x108
    consumerCopy := CopiedFrom u.consumerCopy off l 0x10C }
  let c : BitVec 32 := BitVec.ofNat 32 (leNat copied.consumerCopy.toList)
  let n := leNat copied.lengthCopy.toList
  let offered (x : NoticeUnit) : NoticeUnit :=
    if PageTouches off l 0x10C 4 = false then x
    else if (u.producer - c).toNat ≤ u.lengthInForce then { x with consumer := c }
    else { x with flags := u.flags ||| 0x800#12 }
  (PairCompletes u base length → v = RingJudgedOn s.window { copied with
    baseMark := true
    lengthMark := true
    defBase := leNat copied.baseCopy.toList
    defLength := n
    lengthInForce := if n ∈ [16, 32, 64, 128, 256, 512, 1024, 2048, 4096] then n else u.lengthInForce
    producer := c
    consumer := c
    ring := .invalid }) ∧
  (PairBreaks u base length → v = offered { copied with
    baseMark := base
    lengthMark := length
    ring := if u.ring = .ready ∨ u.ring = .invalid then .incomplete else u.ring }) ∧
  (¬PairCompletes u base length → ¬PairBreaks u base length → v = offered { copied with
    baseMark := u.baseMark || base
    lengthMark := u.lengthMark || length })

/-- The lanes l are one beat that writes at most the n bytes from byte o on, by the lanes w: a byte that w has no lane for is not written,
and a lane of w beyond the n bytes counts for nothing (log entry 26). -/
def WordLanes (o n : Nat) (w l : List Lane) : Prop :=
  l.length = 16 ∧ ∀ j, j < 16 → l[j]? = some (if o ≤ j ∧ j < o + n then w.getD (j - o) ⟨0, false⟩ else ⟨0, false⟩)

/-- The command c is a write transfer of master m at address a with lanes l: WRITE_TRANSFER itself, or one of the four rows for writes of
the page's words, at the address of the page by the CPB sampled last (R150, R153, R160; log entries 20, 26 and 41). -/
def PresentsWrite (s : State) (c : Instr) (m : MasterId) (a : Address) (l : List Lane) : Prop :=
  c = .writeTransfer m a l ∨
  (a = BitVec.ofNat 40 (s.pageAddr 0x100) ∧
    ((∃ w, c = .ringBaseWrite m w ∧ WordLanes 0 8 w l) ∨ (∃ w, c = .ringLengthWrite m w ∧ WordLanes 8 4 w l) ∨
      (∃ w, c = .consumerIndexWrite m w ∧ WordLanes 12 4 w l))) ∨
  (∃ beat, beat < 256 ∧ c = .controlPageWrite m beat l ∧ a = BitVec.ofNat 40 (s.pageAddr (16 * beat)))

/-- What holds of the ring in every state of a run (R150 to R153): both marks are set exactly in READY and INVALID, the length in force is
the defined length when that is a good one, READY means that the definition in force is valid, and producer − consumer never exceeds the
length in force. -/
def RingWf (s : State) : Prop :=
  let u := s.notice
  ((u.baseMark = true ∧ u.lengthMark = true) ↔ (u.ring = .ready ∨ u.ring = .invalid)) ∧
  (ringLengthGood u.defLength = true → u.ring ≠ .undefined → u.lengthInForce = u.defLength) ∧
  (u.ring = .ready → RingJudgedOn s.window u = u) ∧ (u.producer - u.consumer).toNat ≤ u.lengthInForce

/-! ## The Command Unit and the Mirror Writer (R162 to R168) -/

/-- LONG, the busy indication, a running long report, and a block at work on the operation go together, and at most one operation runs, at a
position within its bounds (R162 to R166); the refresh position is 0 while none runs (R168, R171, log entry 39). -/
def BusyWf (s : State) : Prop :=
  (s.cmd.busy = true ↔ s.cmd.state = .long) ∧ (s.cmd.longReport.code = .running ↔ s.cmd.state = .long) ∧
  (s.cmd.state = .long ↔ (s.grid.clearing = true ∨ s.mirror.target ≠ none)) ∧
  ¬(s.grid.clearing = true ∧ s.mirror.target ≠ none) ∧ s.grid.clearPosition ≤ 512 ∧
  (s.mirror.target = none → s.mirror.position = 0) ∧ (∀ k, s.mirror.target = some k → s.mirror.position ≤ k.records)

/-- The own write of record n of a mirror, while its window is in use (R166). -/
def RefreshWrite (s : State) (k : MirrorKind) (n : Nat) (arb : Arbiter) : Prop :=
  match k with
  | .reefer => ∀ i : Fin 4096, i.val = n → arb = match s.mirrorBase .reeferMirror with
      | some b => s.arb.hand .longOperation ⟨b + 64 * n, (s.entry i).mirrorRecord⟩
      | none => s.arb
  | .grid => ∀ q : Fin 512, q.val = n → arb = match s.mirrorBase .gridMirror with
      | some b => s.arb.hand .longOperation ⟨b + 16 * n, (s.square q).mirrorRecord s.grid.cells⟩
      | none => s.arb
  | .crane => ∀ i : Fin 16, i.val = n → arb = match s.mirrorBase .craneMirror with
      | some b => s.arb.hand .longOperation ⟨b + 64 * n, (s.crane i).mirrorRecord⟩
      | none => s.arb

/-- p is s with the records h in hand taken from their queues and counted as taken (R37). -/
def PickedUp (s p : State) (h : InHand) : Prop :=
  OnlyTouches [.windows, .intake] s p ∧
  s.intake.uplink = h.uplink.toList ++ p.intake.uplink ∧ s.intake.measure = h.measure.toList ++ p.intake.measure ∧
  s.intake.reefer = h.reefer.toList ++ p.intake.reefer ∧ s.intake.time = h.time.toList ++ p.intake.time ∧
  ∀ i, let n := (h.uplink.toList ++ h.measure.toList ++ h.reefer.toList ++ h.time.toList).countP fun e =>
      e.counted && e.window == i
    p.window i = if (s.window i).inUse = true ∧ n ≠ 0 then
      { s.window i with taken := min ((s.window i).taken + n) 4294967295 } else s.window i

/-- A queue after CLEAR COUNTERS: the same entries without their counted marks (R38). -/
def Uncounted (before after : List QueueEntry) : Prop := after = before.map fun e => { e with counted := false }

/-- How many entries of the four queues RESTART counts as missed for window i (R43). -/
def MissedAtRestart (s : State) (i : Fin 32) : Nat :=
  (s.intake.uplink ++ s.intake.reefer ++ s.intake.measure ++ s.intake.time).countP fun e => e.counted && e.window == i

/-- An attached crane after RESTART (R67, R91). -/
def Crane.afterRestart (c : Crane) : Crane :=
  { c with
    link := .lost
    errors := []
    goodCount := 0
    heartbeat := none
    expected := none
    prevArrival := none
    steerHoldoff := none
    slots := c.slots.map fun l => List.replicate l.length Slot.setup
    pendingSlots := if c.slots = none then c.pendingSlots else []
    downExpected := if c.slots = none then c.downExpected else none
    lastPassed := if c.slots = none then c.lastPassed else none
    lastCraneVerdict := if c.slots = none then c.lastCraneVerdict else .pass
    madeCount := if c.slots = none then c.madeCount else 0 }

/-- The ranges of R115 for arguments 2 to 9 of SET CRITERIA. -/
def CriteriaArgsGood (s : State) : Prop :=
  s.arg 2 ≤ 1000 ∧ s.arg 3 ≤ 1000 ∧ 1 ≤ s.arg 4 ∧ s.arg 4 ≤ 4 ∧ 1 ≤ s.arg 5 ∧ s.arg 5 ≤ 100000 ∧ 1 ≤ s.arg 6 ∧ s.arg 6 ≤ 8 ∧
    60 ≤ s.arg 7 ∧ s.arg 7 ≤ 3600 ∧ s.arg 8 ≤ 90 ∧ 60 ≤ s.arg 9 ∧ s.arg 9 ≤ 7200

/-! ## Record layouts (chapter 11) -/

/-- The record r has the given size, and each field, as (offset, length, value), holds its value least significant byte first, modulo the
field's size (R177). -/
def LaidOut (r : List Byte) (size : Nat) (fields : List (Nat × Nat × Nat)) : Prop :=
  r.length = size ∧ ∀ f ∈ fields, leNat ((r.drop f.1).take f.2.1) = f.2.2 % 2 ^ (8 * f.2.1)

/-- A signed value in a field of the given length in bytes, two's complement (R177). -/
def signedField (len : Nat) (x : Int) : Nat := (x % 2 ^ (8 * len)).toNat

/-- The quality byte of a stamp of a mirror record, 0xFF when it is absent (R177). -/
def qualityField : Option Stamp → Nat
  | none => 0xFF
  | some t => match t.quality with | .unset => 0 | .synced => 1 | .holdover => 2

/-- How many entries of the reefer table are in a state (R129). -/
def EntriesIn (s : State) (x : ReeferState) : Nat := (List.finRange 4096).countP fun n => (s.entry n).state == x

/-- Every queue keeps within its capacity (R34, R39, R148), and the pending notices stand in class priority order (R148). -/
def BuffersWf (s : State) : Prop :=
  s.intake.uplink.length ≤ 16 ∧ s.intake.reefer.length ≤ 32 ∧ s.intake.measure.length ≤ 16 ∧ s.intake.time.length ≤ 4 ∧
    s.arb.own.length ≤ 64 ∧ s.notice.queue.length ≤ 32 ∧ QueueOrdered s.notice.queue

/-- The own writes of a long operation's end or abort with result r (R164, R168): the Command Unit's reports after it. -/
def CommandUnit.closed (c : CommandUnit) (r : ResultCode) : CommandUnit :=
  { c with
    state := .idle
    busy := false
    commandReport := ⟨c.longReport.tag, r⟩
    longReport := ⟨c.longReport.tag, r⟩ }

end Sys2Proof.Machine
end

