-- ==== Sys2Proof/Certificates/Slice0/Obligations.lean ====
section
/-! DEFINITION. The statements for the provers, made from the numbered rules chapter by chapter. -/

open Sys2Proof Sys2Proof.Machine

/-! ## The machine -/

/-- A step handles the command at the front of the queue on the state with the queue's rest; on an empty queue the block idles
(the model's own convention, log entry 3). -/
def Obligations.StepHandlesFrontCommand : Prop :=
  (∀ (c : Instr) (rest : List Instr) (s : State), s.pending = c :: rest → step s = exec c { s with pending := rest }) ∧
  (∀ s : State, s.pending = [] → step s = .next s)

/-- No command changes the queue of commands, and only POWER_ON_RESET changes the sampled straps (R159). -/
def Obligations.QueueAndStrapsKept : Prop :=
  ∀ (c : Instr) (s t : State), exec c s = .next t →
    t.pending = s.pending ∧ ((∀ b m, c ≠ .powerOnReset b m) → t.cpb = s.cpb ∧ t.cpid = s.cpid)

/-- The interrupt line stands at its condition after every step (R156), and the model's scratch is idle (log entry 27). -/
def Obligations.SettledKept : Prop := ∀ s t : State, Settled s → step s = .next t → Settled t

/-! ## Chapter 1: Terminal Time Base -/

/-- What local time brings about. LOCAL_TIME_ADVANCE adds 1 up to 2^48 − 1, and where local time rises onto a whole multiple of 1000 a
nonzero S moves OC by 1 in its direction and itself by 1 toward 0, in the same microsecond (log entry 4; at the ends of OC's range, log
entry 30). SLEW_STEP is that microsecond where the next one is such a boundary and S is not 0. AGING_PASS_START and SILENCE_SWEEP_START at
a start time not yet taken begin the pass at 0, or hold the start while one is in progress. Each changes nothing else but the mark of log
entry 4. -/
def Obligations.ClockedEvents : Prop :=
  (∀ s : State, s.inReset = false → TimeInRange s.time →
    exec .localTimeAdvance s = .next { s with time := s.time.afterMicrosecond }) ∧
  (∀ s : State, s.inReset = false → TimeInRange s.time → (s.time.lt + 1) % 1000 = 0 → s.time.lt < 2 ^ 48 - 1 →
    s.time.slew ≠ 0 → exec .slewStep s = .next { s with time := s.time.afterMicrosecond }) ∧
  ((∀ s : State, s.inReset = false → 0 < s.time.lt → s.time.lt % 5000000 = 0 →
    s.grid.aging.startTakenAt ≠ some s.time.lt →
    exec .agingPassStart s = .next { s with grid := { s.grid with aging := s.grid.aging.afterStart s.time.lt } }) ∧
  (∀ s : State, s.inReset = false → 0 < s.time.lt → s.time.lt % 10000000 = 0 →
    s.reefer.sweep.startTakenAt ≠ some s.time.lt →
    exec .silenceSweepStart s = .next { s with reefer := { s.reefer with sweep := s.reefer.sweep.afterStart s.time.lt } }))

/-- A time record taken while STOPPED, or of another kind than MARK and VALUE, is discarded: no Time Base state changes and no notice
is posted. A MARK taken while RUNNING becomes the capture, with its arrival local time; where a capture was present it is a REMARK
violation with both mark numbers. The dequeue counts as taken. -/
def Obligations.MarkOrDiscardedRecord : Prop :=
  (∀ (s : State) (e : QueueEntry) (rest : List QueueEntry), Free .timeJob s → s.intake.time = e :: rest →
    (s.time.run = .stopped ∨ ((TimeMessage.read e.bytes).kind ≠ 1 ∧ (TimeMessage.read e.bytes).kind ≠ 2)) →
    ∃ t, exec .timeRecordDequeue s = .next t ∧ OnlyTouches [.intake, .windows] s t ∧
      t.intake = { s.intake with time := rest } ∧ CountsTaken s t e) ∧
  (∀ (s : State) (e : QueueEntry) (rest : List QueueEntry), Free .timeJob s → s.intake.time = e :: rest →
    s.time.run = .running → (TimeMessage.read e.bytes).kind = 1 →
    ∃ t, exec .timeRecordDequeue s = .next t ∧ OnlyTouches [.intake, .windows, .time, .notice, .arb] s t ∧
      t.intake = { s.intake with time := rest } ∧ CountsTaken s t e ∧
      t.time = { s.time with capture := some ⟨(TimeMessage.read e.bytes).mark, e.arrival⟩ } ∧
      StatusIfFlagged .timeJob s t ∧
      match s.time.capture with
      | none => t.notice = s.notice
      | some c => t.notice = (({ s.notice with flags := s.notice.flags ||| 0x080#12 } : NoticeUnit).take
          { kind := .timeViolation, subject := 0, stamp := s.stamp, value1 := 1,
            value2 := BitVec.ofNat 32 (TimeMessage.read e.bytes).mark, value3 := BitVec.ofNat 32 c.mark }).followed)

/-- A VALUE taken while RUNNING whose first failing check has reason v is a violation of that reason: TIME_VIOLATION is set and
posted, the capture is cleared by LATE and CONTINUITY and kept by WRONG_MARK, and no other Time Base state changes. -/
def Obligations.ValueViolation : Prop :=
  ∀ (s : State) (e : QueueEntry) (rest : List QueueEntry) (v : Violation), Free .timeJob s → s.intake.time = e :: rest →
    s.time.run = .running → (TimeMessage.read e.bytes).kind = 2 → ValueFails s.time (TimeMessage.read e.bytes) e.arrival v →
    ∃ t, exec .timeRecordDequeue s = .next t ∧ OnlyTouches [.intake, .windows, .time, .notice, .arb] s t ∧
      t.intake = { s.intake with time := rest } ∧ CountsTaken s t e ∧
      t.time = { s.time with capture := if v = .wrongMark then s.time.capture else none } ∧
      StatusIfFlagged .timeJob s t ∧
      t.notice = (({ s.notice with flags := s.notice.flags ||| 0x080#12 } : NoticeUnit).take
        { kind := .timeViolation, subject := 0, stamp := s.stamp,
          value1 := (match v with | .remark => 1 | .wrongMark => 2 | .late => 3 | .continuity => 4),
          value2 := BitVec.ofNat 32 (TimeMessage.read e.bytes).mark,
          value3 := BitVec.ofNat 32 (match s.time.capture with | some c => c.mark | none => 65536) }).followed

/-- A VALUE that passes the checks is applied: OC, S and the notices by the four cases of R8 on OT and Δ, then the completion of R9,
with the notices' values of R11 and stamps taken after the change. -/
def Obligations.ValueAccepted : Prop :=
  ∀ (s : State) (e : QueueEntry) (rest : List QueueEntry) (ltm : Nat), Free .timeJob s → s.intake.time = e :: rest →
    s.time.run = .running → (TimeMessage.read e.bytes).kind = 2 →
    ValuePasses s.time (TimeMessage.read e.bytes) e.arrival ltm →
    let m := TimeMessage.read e.bytes
    let ot := clamp64 ((m.masterTime : Int) + m.sendDelay + s.time.linkDelay - ltm)
    let d := clamp64 (ot - s.time.oc)
    ∃ t, exec .timeRecordDequeue s = .next t ∧ OnlyTouches [.intake, .windows, .time, .notice, .arb] s t ∧
      t.intake = { s.intake with time := rest } ∧ CountsTaken s t e ∧
      t.time = { s.time with
        oc := if s.time.sync = .unset ∨ (s.time.threshold : Int) < d then ot else s.time.oc
        slew := if s.time.sync = .unset ∨ (s.time.threshold : Int) < d then 0 else d
        tl := some m.masterTime
        capture := none
        lastSuccess := some e.arrival
        sync := .synced } ∧
      t.arb = s.arb.hand .timeJob ⟨s.pageAddr 0x200, t.statusBlock⟩ ∧
      t.notice = ((SyncNotices s.time t.stamp m d).foldl NoticeUnit.take s.notice).followed

/-- SET_TIME_PARAMETERS, START_TIME and STOP_TIME: refused with STATE in the wrong run state, SET_TIME_PARAMETERS also with BAD_ARGUMENT for
an argument out of range; otherwise all four parameters change together, or the run state changes with a status block, and STOP_TIME
clears the capture and TL and turns SYNCED into HOLDOVER. -/
def Obligations.TimeCommandsResult : Prop :=
  (∀ s : State, Offered .setTimeParameters s →
    ∃ t, exec .setTimeParameters s = .next t ∧
      if s.time.run = .running then Refuses s t .state
      else if 100 ≤ s.arg 1 ∧ s.arg 1 ≤ 10000 ∧ s.arg 1 % 100 = 0 ∧ s.arg 2 ≤ 100000 ∧ 100 ≤ s.arg 3 ∧ s.arg 3 ≤ 1000000 ∧
          s.arg 4 ≤ 1 then
        OnlyTouches [.time, .cmd, .arb] s t ∧ Reports s t .done ∧
          t.time = { s.time with interval := s.arg 1, linkDelay := s.arg 2, threshold := s.arg 3,
                                 continuity := decide (s.arg 4 = 1) }
      else Refuses s t .badArgument) ∧
  ((∀ s : State, Offered .startTime s →
    ∃ t, exec .startTime s = .next t ∧
      if s.time.run = .running then Refuses s t .state
      else OnlyTouches [.time, .cmd, .arb] s t ∧ ReportsWithStatus s t .done ∧
        t.time = { s.time with run := .running }) ∧
  (∀ s : State, Offered .stopTime s →
    ∃ t, exec .stopTime s = .next t ∧
      if s.time.run = .stopped then Refuses s t .state
      else OnlyTouches [.time, .cmd, .arb] s t ∧ ReportsWithStatus s t .done ∧
        t.time = { s.time with run := .stopped, capture := none, tl := none,
                               sync := if s.time.sync = .synced then .holdover else s.time.sync }))

/-- Terminal time never decreases among stamps of quality SYNCED or HOLDOVER: between power-on resets, and with the sync state not UNSET,
no command lowers LT + OC, and none returns the sync state to UNSET. A slew step comes about in the microsecond in which local time rises
onto its boundary (log entry 4). -/
def Obligations.TerminalTimeNeverDecreases : Prop :=
  ∀ (c : Instr) (s t : State), exec c s = .next t → (∀ b m, c ≠ .powerOnReset b m) → s.time.sync ≠ .unset →
    TimeInRange s.time → t.time.sync ≠ .unset ∧ (s.time.lt : Int) + s.time.oc ≤ t.time.lt + t.time.oc

/-! ## Chapter 2: Windows and Record Intake -/

/-- The records the part writes, field by field as chapter 11 lays them out, least significant byte first, with their sizes and reserved
bytes of 0: the result record, the status block, the notice record, the three mirror records, and the HOLD frame, which is in network
order with a fresh check word. -/
def Obligations.RecordLayouts : Prop :=
  (∀ c : CommandUnit, LaidOut c.resultRecord 32
    [(0x00, 4, c.commandReport.tag), (0x04, 4, c.commandReport.code.code), (0x08, 4, c.longReport.tag),
     (0x0C, 4, c.longReport.code.code), (0x10, 4, c.busyReport.tag), (0x14, 4, c.busyReport.code.code), (0x18, 8, 0)]) ∧
  (∀ r : ResultCode, [ResultCode.none, .running, .done, .unknownCommand, .badArgument, .overlap, .locked, .notFound, .full, .state,
    .busy, .aborted][r.code]? = some r) ∧
  (∀ s : State, LaidOut s.statusBlock 96
    [(0x00, 4, s.notice.producer.toNat), (0x04, 4, s.notice.consumer.toNat), (0x08, 4, s.notice.lengthInForce),
     (0x0C, 1, match s.notice.ring with | .undefined => 0 | .incomplete => 1 | .invalid => 2 | .ready => 3),
     (0x0D, 1, s.notice.overflow.toNat), (0x0E, 1, if s.cmd.busy then 1 else 0), (0x0F, 1, 0),
     (0x10, 4, s.notice.flags.toNat), (0x14, 4, s.notice.enables.toNat), (0x18, 4, s.notice.irqEnables.toNat),
     (0x1C, 1, match s.time.run with | .stopped => 0 | .running => 1),
     (0x1D, 1, match s.time.sync with | .unset => 0 | .synced => 1 | .holdover => 2),
     (0x1E, 1, if s.time.capture = none then 0 else 1), (0x1F, 1, 0),
     (0x20, 8, signedField 8 s.time.oc), (0x28, 8, signedField 8 s.time.slew),
     (0x30, 8, match s.time.lastSuccess with | some a => a | none => 2 ^ 64 - 1),
     (0x38, 4, s.grid.unknownCells), (0x3C, 4, s.grid.measureUsed), (0x40, 4, s.grid.measureRejected),
     (0x44, 4, s.grid.measureClamped), (0x48, 4, s.reefer.unknownTags), (0x4C, 4, s.reefer.dropped),
     (0x50, 4, s.reefer.rejected), (0x54, 2, EntriesIn s .vacant), (0x56, 2, EntriesIn s .enrolled),
     (0x58, 2, EntriesIn s .active), (0x5A, 2, EntriesIn s .excursion), (0x5C, 2, EntriesIn s .silent), (0x5E, 2, 0)]) ∧
  (∀ (n : Notice) (post : Nat), LaidOut (n.record post) 32
    [(0x00, 1, n.kind.code), (0x01, 1, n.kind.cls.code), (0x02, 2, n.subject),
     (0x04, 1, match n.stamp.quality with | .unset => 0 | .synced => 1 | .holdover => 2), (0x05, 3, 0),
     (0x08, 8, n.stamp.value.toNat), (0x10, 4, n.value1.toNat), (0x14, 4, n.value2.toNat), (0x18, 4, n.value3.toNat),
     (0x1C, 4, post)]) ∧
  (∀ k : NoticeKind, 1 ≤ k.code ∧
    [(NoticeKind.linkUp, 1), (.linkLost, 1), (.degraded, 1), (.recovered, 1), (.frameHeld, 1), (.unsent, 1), (.steer, 1),
     (.timeSynced, 2), (.timeStep, 2), (.timeBackward, 2), (.timeViolation, 2), (.timeLost, 2), (.squareState, 3),
     (.unknownCell, 3), (.enrolled, 4), (.excursionStart, 4), (.excursionClear, 4), (.silent, 4), (.returned, 4),
     (.silentEvicted, 4), (.alarmChange, 4), (.setpointChange, 4), (.tableFull, 4), (.writeBlocked, 5), (.tornRecord, 5),
     (.intakeOverrun, 5)][k.code - 1]? = some (k, k.cls.code)) ∧
  (∀ e : ReeferEntry, LaidOut e.mirrorRecord 64
    [(0x00, 1, match e.state with | .vacant => 0 | .enrolled => 1 | .active => 2 | .excursion => 3 | .silent => 4),
     (0x01, 1, (if e.sensorRange then 1 else 0) + (if e.setpointClamp then 2 else 0) + (if e.alarmClamp then 4 else 0) +
       (if e.powerUnknown then 8 else 0) + (if e.wasInExcursion then 16 else 0)),
     (0x02, 1, (if e.lastSequence = none then 0 else 1) + (if e.setpoint = none then 0 else 2) +
       (if e.filtered = none then 0 else 4) + (if e.defrostStart = none then 0 else 8)),
     (0x03, 1, e.criteria.val), (0x04, 4, e.tag),
     (0x08, 2, match e.square with | some q => q.val | none => 0xFFFF), (0x0A, 2, e.lastSequence.getD 0),
     (0x0C, 2, signedField 2 (e.setpoint.getD 0)), (0x0E, 2, signedField 2 (e.filtered.getD 0)),
     (0x10, 2, signedField 2 (match e.side with | .inBand => 0 | .above => e.excess | .below => -(e.excess : Int))),
     (0x12, 1, e.inBandCount), (0x13, 1, match e.power with | .none => 0 | .on => 1 | .off => 2 | .defrost => 3),
     (0x14, 4, e.accumulator), (0x18, 6, e.lastHeard), (0x1E, 1, qualityField e.outOfBandSince), (0x1F, 1, e.alarms.length),
     (0x20, 8, match e.outOfBandSince with | some x => x.value.toNat | none => 0), (0x28, 6, e.defrostStart.getD 0),
     (0x2E, 1, e.alarms.getD 0 0), (0x2F, 1, e.alarms.getD 1 0), (0x30, 1, e.alarms.getD 2 0), (0x31, 1, e.alarms.getD 3 0),
     (0x32, 1, e.alarms.getD 4 0), (0x33, 1, e.alarms.getD 5 0), (0x34, 4, e.reports), (0x38, 4, e.missed),
     (0x3C, 4, e.duplicates)]) ∧
  (∀ (x : Square) (cells : Vector (Option Nat) 24), LaidOut (x.mirrorRecord cells) 16
    [(0x00, 1, match x.state with | .unknown => 0 | .covered => 1 | .marginal => 2 | .hole => 3),
     (0x01, 1, match x.best with | some c => c.val | none => 0xFF),
     (0x02, 1, (List.finRange 24).countP fun c => match x.entries.get c with | .fresh _ _ => true | _ => false),
     (0x03, 1, (List.finRange 24).countP fun c => match x.entries.get c with | .stale _ _ => true | _ => false),
     (0x04, 4, match x.best with | some c => (cells.get c).getD 0 | none => 0),
     (0x08, 2, signedField 2 (x.bestEstimate.getD 0)), (0x0A, 1, qualityField x.lastChange), (0x0B, 1, 0),
     (0x0C, 4, match x.lastChange with | some y => y.value.toNat | none => 0)]) ∧
  (∀ c : Crane, LaidOut c.mirrorRecord 64
    [(0x00, 1, match c.link with | .dormant => 0 | .lost => 1 | .linked => 2 | .degraded => 3),
     (0x01, 1, if c.holdFlag then 1 else 0), (0x02, 1, c.params.craneId),
     (0x03, 1, (if c.positionRange then 1 else 0) + (if c.level = none then 0 else 2)),
     (0x04, 2, match c.square with | some q => q.val | none => 0xFFFF), (0x06, 2, signedField 2 (c.level.getD 0)),
     (0x08, 4, c.serving), (0x0C, 4, c.heldReads), (0x10, 4, c.overwrites), (0x14, 4, c.unsent), (0x18, 1, c.errors.length),
     (0x19, 1, c.errors.count .good), (0x1A, 1, c.errors.count .cadence), (0x1B, 1, c.errors.count .missing),
     (0x1C, 1, c.errors.count .sequence), (0x1D, 1, c.errors.count .check), (0x1E, 1, c.errors.count .framing),
     (0x1F, 1, qualityField c.lastHeard), (0x20, 8, match c.lastHeard with | some x => x.value.toNat | none => 0),
     (0x28, 24, 0)]) ∧
  ∀ id sequence reason stamp : Nat, let f := holdFrame id sequence reason stamp
    f.length = 16 ∧ field f 0 1 = 2 ∧ field f 1 1 = id % 256 ∧ field f 2 2 = sequence % 65536 ∧ field f 4 1 = 0 ∧
      field f 5 1 = reason % 256 ∧ field f 6 2 = 0 ∧ field f 8 2 = 0 ∧ field f 10 4 = stamp % 2 ^ 32 ∧
      field f 14 2 = checkWord (f.take 14)

/-- A read that falls in no window, in the control page or in a window of another kind than CRANE_DOWN is forwarded to return every beat as
DRAM gives it; a write that falls in no window and not in the control page, or in a GUARDED window that permits its master, is forwarded
as it is. Nothing else changes. Operands that are no transfer by the rules of the port (misaligned, no whole beat, more than 16 beats,
across a 4 KiB boundary, or from a beat beyond the control page) have no effect: the interconnect presents no such transfer (the model's own
convention, log entry 26). -/
def Obligations.TransfersPassUnaltered : Prop :=
  ((∀ (m : MasterId) (a : Address) (n : Nat) (s : State),
    ¬(a.toNat % 16 = 0 ∧ 1 ≤ n ∧ n ≤ 16 ∧ a.toNat % 4096 + 16 * n ≤ 4096) → exec (.readTransfer m a n) s = .next s) ∧
  (∀ (m : MasterId) (a : Address) (l : List Lane) (s : State),
    ¬(a.toNat % 16 = 0 ∧ l.length % 16 = 0 ∧ 16 ≤ l.length ∧ l.length ≤ 256 ∧ a.toNat % 4096 + l.length ≤ 4096) →
    exec (.writeTransfer m a l) s = .next s) ∧
  (∀ (m : MasterId) (beat : Nat) (l : List Lane) (s : State),
    ¬(l.length % 16 = 0 ∧ 16 ≤ l.length ∧ l.length ≤ 256 ∧ 16 * beat + l.length ≤ 4096) →
    exec (.controlPageWrite m beat l) s = .next s)) ∧
  (∀ (m : MasterId) (a : Address) (n : Nat) (s : State), (Transfer.read m a n).wf = true → s.inReset = false → Settled s →
    (∀ i, s.windowAt a.toNat = some i → (s.window i).kind ≠ some .craneDown) →
    ∃ t, exec (.readTransfer m a n) s = .next t ∧ OnlyTouches [.arb] s t ∧
      t.arb = { s.arb with passing := s.arb.passing ++ [.read m a (List.replicate n .pass)] }) ∧
  (∀ (m : MasterId) (a : Address) (l : List Lane) (s : State), (Transfer.write m a l).wf = true → s.inReset = false →
    Settled s → s.pageOffset a.toNat = none →
    (∀ i, s.windowAt a.toNat = some i → (s.window i).kind = some .guarded ∧ (s.window i).permits m = true) →
    ∃ t, exec (.writeTransfer m a l) s = .next t ∧ OnlyTouches [.arb] s t ∧ ForwardsWrite s m a l t.arb)

/-- A write into an in-use window of a part-only kind, or by a master outside its writer set, is blocked whatever its strobes; a write into
the control page is blocked when it writes a byte of the command record or tag word and its master is not CPID, or a byte of the result
record, the status block or the counter snapshot. No beat is forwarded, the master receives an error response, the window's blocked
counter increases, WRITE_BLOCKED is set, and one WRITE_BLOCKED notice is posted, with subject 32 for the page. A write into the control page
is presented as a WRITE_TRANSFER or as one of the four page-write rows (log entries 20 and 26). -/
def Obligations.WritesBlocked : Prop :=
  (∀ (m : MasterId) (a : Address) (l : List Lane) (s : State) (i : Fin 32) (k : WindowKind),
    (Transfer.write m a l).wf = true → s.inReset = false → Settled s → s.pageOffset a.toNat = none →
    s.windowAt a.toNat = some i → (s.window i).kind = some k →
    (k = .noticeRing ∨ k = .reeferMirror ∨ k = .gridMirror ∨ k = .craneMirror ∨ (s.window i).writers.getLsbD m.toNat = false) →
    ∃ t, exec (.writeTransfer m a l) s = .next t ∧ OnlyTouches [.windows, .port, .notice, .arb] s t ∧
      t.windows = upd s.windows i { s.window i with blocked := min ((s.window i).blocked + 1) 4294967295 } ∧
      t.port = { s.port with responses := s.port.responses ++ [.write m .error] } ∧
      t.notice = (({ s.notice with flags := s.notice.flags ||| 0x001#12 } : NoticeUnit).take
        { kind := .writeBlocked, subject := i.val, stamp := s.stamp, value1 := BitVec.ofNat 32 m.toNat,
          value2 := BitVec.ofNat 32 a.toNat, value3 := BitVec.ofNat 32 (a.toNat / 2 ^ 32) }).followed ∧
      StatusIfFlagged .other s t) ∧
  (∀ (c : Instr) (m : MasterId) (a : Address) (l : List Lane) (s : State) (off : Nat), PresentsWrite s c m a l →
    (Transfer.write m a l).wf = true → s.inReset = false → Settled s → s.pageOffset a.toNat = some off →
    (∃ j x, l[j]? = some x ∧ x.strobe = true ∧
      ((off + j < 0x44 ∧ m ≠ s.cpid) ∨ (0x80 ≤ off + j ∧ off + j < 0xA0) ∨ (0x200 ≤ off + j ∧ off + j < 0x260) ∨
        (0x400 ≤ off + j ∧ off + j < 0x600))) →
    ∃ t, exec c s = .next t ∧ OnlyTouches [.port, .notice, .arb] s t ∧
      t.port = { s.port with responses := s.port.responses ++ [.write m .error] } ∧
      t.notice = (({ s.notice with flags := s.notice.flags ||| 0x001#12 } : NoticeUnit).take
        { kind := .writeBlocked, subject := 32, stamp := s.stamp, value1 := BitVec.ofNat 32 m.toNat,
          value2 := BitVec.ofNat 32 a.toNat, value3 := BitVec.ofNat 32 (a.toNat / 2 ^ 32) }).followed ∧
      StatusIfFlagged .other s t)

/-- A permitted write into an intake window is forwarded unaltered, its touched record positions are settled, the torn and missed
counters increase by the number of positions so settled, and TORN_RECORD and then INTAKE_OVERRUN are set and posted once each with
the first position and the number of positions. -/
def Obligations.IntakeWriteSettles : Prop :=
  ∀ (m : MasterId) (a : Address) (l : List Lane) (s : State) (i : Fin 32) (k : WindowKind) (size capacity : Nat),
    (Transfer.write m a l).wf = true → s.inReset = false → Settled s → s.pageOffset a.toNat = none →
    s.windowAt a.toNat = some i → (s.window i).kind = some k → (s.window i).permits m = true →
    ((k = .craneUp ∧ size = 128 ∧ capacity = 16) ∨ (k = .reeferIn ∧ size = 64 ∧ capacity = 32) ∨
      (k = .measureIn ∧ size = 64 ∧ capacity = 16) ∨ (k = .timeIn ∧ size = 32 ∧ capacity = 4)) →
    let r := s.settlement i k size capacity a.toNat l
    let n (kind : NoticeKind) (p : List Nat) : Notice :=
      { kind, subject := i.val, stamp := s.stamp, value1 := BitVec.ofNat 32 m.toNat, value2 := BitVec.ofNat 32 (p.headD 0),
        value3 := BitVec.ofNat 32 p.length }
    let u1 := if r.torn = [] then s.notice
      else ({ s.notice with flags := s.notice.flags ||| 0x002#12 } : NoticeUnit).take (n .tornRecord r.torn)
    let u2 := if r.missed = [] then u1
      else ({ u1 with flags := u1.flags ||| 0x004#12 } : NoticeUnit).take (n .intakeOverrun r.missed)
    ∃ t, exec (.writeTransfer m a l) s = .next t ∧ OnlyTouches [.windows, .intake, .notice, .arb] s t ∧
      t.windows = upd s.windows i { s.window i with
        torn := min ((s.window i).torn + r.torn.length) 4294967295
        missed := min ((s.window i).missed + r.missed.length) 4294967295 } ∧
      t.intake = s.intake.setQueue k r.queue ∧ t.notice = u2.followed ∧ ForwardsWithStatus (.write m a l) s t

/-- Settling record positions. The positions of a transfer are taken in address order. Some of them go into the queue behind its entries,
each once and in that order, with the bytes as written, the local time as the transfer passes, the window's index and its mark set; every
touched whole position is either one of these or missed, never both, and the missed ones come after those taken; the torn positions are
those written in part; a position is missed only when the queue is full. -/
def Obligations.EveryTouchedPositionSettledOnce : Prop :=
  ∀ (s : State) (i : Fin 32) (k : WindowKind) (size capacity a : Nat) (l : List Lane),
    let w := s.window i
    let r := s.settlement i k size capacity a l
    let reached := reachedPositions (a - w.base) l.length size
    let bytes (p : Nat) := recordBytes w.base size p a l
    let whole (p : Nat) : Prop := bytes p ≠ [] ∧ (bytes p).all Option.isSome = true
    let entry (p : Nat) : QueueEntry :=
      { bytes := (bytes p).filterMap id, arrival := s.time.lt, window := i,
        crane := if k = .craneUp then w.crane else none, counted := true }
    reached.Pairwise (· < ·) ∧
    (0 < size → w.base ≤ a → ∀ p, (bytes p).any Option.isSome = true → p ∈ reached) ∧
    (∃ taken : List Nat, taken.Sublist reached ∧ r.queue = s.intake.queue k ++ taken.map entry ∧
      (∀ p, p ∈ taken ∨ p ∈ r.missed ↔ p ∈ reached ∧ whole p) ∧ (∀ p ∈ taken, ∀ m ∈ r.missed, p < m)) ∧
    r.torn.Sublist reached ∧ r.missed.Sublist reached ∧
    (∀ p, p ∈ r.torn ↔ p ∈ reached ∧ (bytes p).any Option.isSome = true ∧ (bytes p).any Option.isNone = true) ∧
    (r.missed ≠ [] → capacity ≤ r.queue.length) ∧
    ((s.intake.queue k).length ≤ capacity → r.queue.length ≤ capacity)

/-- DEFINE_WINDOW is refused with the result of the first check of R27 that fails, and then changes nothing else. When it passes every
check, the old definition of the entry is removed, the entry becomes in use with the new fields, lock level OPEN and counters 0, no other
entry changes, and the effects of R29 follow by kind; a mirror kind starts the refresh of its mirror as a long operation. The ring is judged
for the removed window and for the new one (log entry 12). -/
def Obligations.DefineWindowResult : Prop :=
  (∀ (s : State) (r : ResultCode), Offered .defineWindow s → DefineRefusal s (s.arg 1) (s.arg 2) (some r) →
    ∃ t, exec .defineWindow s = .next t ∧ Refuses s t r) ∧
  (∀ (s : State) (i : Fin 32) (k : WindowKind), Offered .defineWindow s →
    DefineRefusal s (s.arg 1) (s.arg 2) none → i.val = s.arg 1 → k.code = s.arg 2 →
    let old := s.window i
    let u1 := if old.inUse = true ∧ old.kind = some .noticeRing then
        RingJudgedOn (fun j => if j = i then Window.cleared else s.window j) s.notice else s.notice
    ∃ t, exec .defineWindow s = .next t ∧
      OnlyTouches [.windows, .intake, .cranes, .notice, .mirror, .cmd, .arb] s t ∧
      (∀ j, t.window j = if j = i then
          { inUse := true, kind := some k, base := s.arg 3 + 4294967296 * s.arg 4, size := 4096 * s.arg 5,
            slotSize := if k = .craneDown then some (s.arg 6) else none,
            crane := if k = .craneDown ∨ k = .craneUp then some (Fin.ofNat 16 (s.arg 7)) else none,
            writers := BitVec.ofNat 64 (s.arg 8 + 4294967296 * s.arg 9), lock := .openLevel, taken := 0, missed := 0,
            torn := 0, blocked := 0 }
        else s.window j) ∧
      t.intake = (if old.inUse = true then s.intake.uncountFrom i else s.intake) ∧
      (∀ c, t.crane c = if k = .craneDown ∧ c.val = s.arg 7 then
          (s.crane c).withTable (some (List.replicate (4096 * s.arg 5 / s.arg 6) Slot.setup))
        else if old.inUse = true ∧ old.kind = some .craneDown ∧ old.crane = some c then
          (s.crane c).withTable none
        else s.crane c) ∧
      t.notice = (if k = .noticeRing then RingJudgedOn t.window u1 else u1).followed ∧
      t.mirror = (match k with
        | .reeferMirror => { target := some .reefer, position := 0 }
        | .gridMirror => { target := some .grid, position := 0 }
        | .craneMirror => { target := some .crane, position := 0 }
        | _ => s.mirror) ∧
      (if k = .reeferMirror ∨ k = .gridMirror ∨ k = .craneMirror then t.cmd = s.cmd.started
        else t.cmd = s.cmd.reported .done) ∧
      ((RingDiffers u1 s.notice ∨ RingDiffers t.notice u1 ∨ t.cmd.state ≠ s.cmd.state) →
        t.arb = (s.arb.hand .command ⟨s.pageAddr 0x200, t.statusBlock⟩).hand .command
          ⟨s.pageAddr 0x80, t.cmd.resultRecord⟩) ∧
      (¬(RingDiffers u1 s.notice ∨ RingDiffers t.notice u1 ∨ t.cmd.state ≠ s.cmd.state) →
        t.arb = s.arb.hand .command ⟨s.pageAddr 0x80, t.cmd.resultRecord⟩))

/-- DELETE_WINDOW: BAD_ARGUMENT above 31, NOT_FOUND for an entry not in use, LOCKED for a LOCKED or TIGHT one; otherwise the entry
returns to its cleared values, queued records from it lose their counted mark, a CRANE_DOWN window's slot table goes, and a
NOTICE_RING window has the ring judged again. -/
def Obligations.DeleteWindowResult : Prop :=
  ∀ s : State, Offered .deleteWindow s →
    (31 < s.arg 1 → ∃ t, exec .deleteWindow s = .next t ∧ Refuses s t .badArgument) ∧
    ∀ i : Fin 32, i.val = s.arg 1 → ∃ t, exec .deleteWindow s = .next t ∧
      if (s.window i).inUse = false then Refuses s t .notFound
      else if (s.window i).lock ≠ .openLevel then Refuses s t .locked
      else
        OnlyTouches [.windows, .intake, .cranes, .notice, .cmd, .arb] s t ∧
        (∀ j, t.window j = if j = i then Window.cleared else s.window j) ∧ t.intake = s.intake.uncountFrom i ∧
        (∀ c, t.crane c = if (s.window i).kind = some .craneDown ∧ (s.window i).crane = some c then
            (s.crane c).withTable none
          else s.crane c) ∧
        t.notice = (if (s.window i).kind = some .noticeRing then RingJudgedOn t.window s.notice else s.notice).followed ∧
        (RingDiffers t.notice s.notice → ReportsWithStatus s t .done) ∧
        (¬RingDiffers t.notice s.notice → Reports s t .done)

/-- LOCK_WINDOW and UNLOCK_WINDOW, by the tables of R31 and R32: the lock level rises and falls as they say, nothing else of the
table changes, and every other case is refused. -/
def Obligations.LockAndUnlockWindow : Prop :=
  (∀ s : State, Offered .lockWindow s →
    ((31 < s.arg 1 ∨ s.arg 2 < 1 ∨ 2 < s.arg 2) → ∃ t, exec .lockWindow s = .next t ∧ Refuses s t .badArgument) ∧
    ∀ i : Fin 32, i.val = s.arg 1 → (s.arg 2 = 1 ∨ s.arg 2 = 2) → ∃ t, exec .lockWindow s = .next t ∧
      if (s.window i).inUse = false then Refuses s t .notFound
      else if (s.window i).lock = .openLevel ∨ ((s.window i).lock = .locked ∧ s.arg 2 = 2) then
        OnlyTouches [.windows, .cmd, .arb] s t ∧ Reports s t .done ∧
          t.windows = upd s.windows i { s.window i with lock := if s.arg 2 = 1 then .locked else .tight }
      else Refuses s t .state) ∧
  (∀ s : State, Offered .unlockWindow s →
    (31 < s.arg 1 → ∃ t, exec .unlockWindow s = .next t ∧ Refuses s t .badArgument) ∧
    ∀ i : Fin 32, i.val = s.arg 1 → ∃ t, exec .unlockWindow s = .next t ∧
      if (s.window i).inUse = false then Refuses s t .notFound
      else if (s.window i).lock = .tight then Refuses s t .locked
      else if (s.window i).lock = .openLevel then Refuses s t .state
      else OnlyTouches [.windows, .cmd, .arb] s t ∧ Reports s t .done ∧
        t.windows = upd s.windows i { s.window i with lock := .openLevel })

/-- The downstream port. FORWARD_DOWNSTREAM sends the oldest passing transfer unless the own-write queue is full and has let none out
(the mark of log entry 24); OWN_WRITE_ISSUE sends the oldest own write when no transfer waits or the queue is full; HELD_WRITE_JOIN moves
the oldest held write, of any block, into a free place (log entry 9). The response to a forwarded write goes upstream to its master with
the same status, read data beat by beat as the plan fixed at the read says, and the response to an own write ends it and sends nothing
upstream. Each changes nothing else. -/
def Obligations.PortsMove : Prop :=
  ((∀ (s : State) (p : Passing) (rest : List Passing), s.inReset = false → s.arb.passing = p :: rest →
    (s.arb.own.length ≠ 64 ∨ s.arb.letOut = true) →
    exec .forwardDownstream s = .next { s with arb := { s.arb with
      passing := rest, letOut := false, inFlight := s.arb.inFlight ++ [.passing p] } }) ∧
  (∀ (s : State) (w : OwnWrite) (rest : List OwnWrite), s.inReset = false → s.arb.own = w :: rest →
    (s.arb.passing = [] ∨ (s.arb.own.length = 64 ∧ s.arb.letOut = false)) →
    exec .ownWriteIssue s = .next { s with arb := { s.arb with
      own := rest, letOut := !s.arb.passing.isEmpty, inFlight := s.arb.inFlight ++ [.own w] } }) ∧
  (∀ (s : State) (h : HeldWrite) (rest : List HeldWrite), s.inReset = false → s.arb.held = h :: rest →
    s.arb.own.length < 64 →
    exec .heldWriteJoin s = .next { s with arb := { s.arb with held := rest, own := s.arb.own ++ [h.write] } })) ∧
  ((∀ (s : State) (n : Nat) (st : RespStatus) (m : MasterId) (a : Address) (l : List Lane), s.inReset = false →
    s.arb.inFlight[n]? = some (.passing (.write m a l)) →
    exec (.writeResponse n st) s = .next { s with
      arb := { s.arb with inFlight := s.arb.inFlight.eraseIdx n }
      port := { s.port with responses := s.port.responses ++ [.write m st] } }) ∧
  (∀ (s : State) (n : Nat) (st : RespStatus) (m : MasterId) (a : Address) (plan : List BeatPlan) (data : List (List Byte)),
    s.inReset = false → s.arb.inFlight[n]? = some (.passing (.read m a plan)) → data.length = plan.length →
    (∀ b ∈ data, b.length = 16) →
    exec (.readDataReturn n st data.flatten) s = .next { s with
      arb := { s.arb with inFlight := s.arb.inFlight.eraseIdx n }
      port := { s.port with responses := s.port.responses ++ [.read m st
        ((plan.zip data).map fun x => match x.1 with
          | .pass => x.2 | .hold frame => frame | .zero => List.replicate 16 0).flatten] } }) ∧
  (∀ (s : State) (n : Nat) (st : RespStatus) (w : OwnWrite), s.inReset = false → s.arb.inFlight[n]? = some (.own w) →
    exec (.ownWriteResponse n st) s = .next { s with arb := { s.arb with inFlight := s.arb.inFlight.eraseIdx n } }))

/-- No two in-use windows ever overlap, and none ever overlaps the control page (R28): every step keeps it. -/
def Obligations.WindowsStayApart : Prop := ∀ s t : State, WindowsApart s → step s = .next t → WindowsApart t

/-- A window at TIGHT keeps its kind, base, size, slot size, crane, writer set and level through every command but POWER_ON_RESET:
only its counters may change. -/
def Obligations.TightWindowUnchanged : Prop :=
  ∀ (c : Instr) (s t : State) (i : Fin 32), exec c s = .next t → (∀ b m, c ≠ .powerOnReset b m) →
    (s.window i).inUse = true → (s.window i).lock = .tight → (t.window i).definition = (s.window i).definition

/-! ## Chapter 3: Crane Downlink Supervision -/

/-- Transfers without a header beat in a CRANE_DOWN window. The beats of a permitted write that are no header beat, and a header beat with
every strobe clear, pass unaltered and change nothing. A read of payload beats alone changes no slot: each beat is returned as DRAM gives
it when its slot is PENDING or SENT with last verdict PASS, and as zeros otherwise. -/
def Obligations.PayloadBeats : Prop :=
  (∀ (m : MasterId) (a : Address) (l : List Lane) (s : State) (w : Fin 32) (i : Fin 16) (size : Nat),
    (Transfer.write m a l).wf = true → s.inReset = false → Settled s → s.pageOffset a.toNat = none →
    FallsInSlots s a.toNat w i size → (s.window w).permits m = true →
    (∀ j, 16 * j < l.length → (a.toNat - (s.window w).base + 16 * j) % size = 0 →
      ∀ x ∈ (l.drop (16 * j)).take 16, x.strobe = false) →
    ∃ t, exec (.writeTransfer m a l) s = .next t ∧ OnlyTouches [.arb] s t ∧ ForwardsWrite s m a l t.arb) ∧
  (∀ (m : MasterId) (a : Address) (beats : Nat) (s : State) (w : Fin 32) (i : Fin 16) (size : Nat),
    (Transfer.read m a beats).wf = true → s.inReset = false → Settled s → FallsInSlots s a.toNat w i size →
    (∀ j, j < beats → (a.toNat - (s.window w).base + 16 * j) % size ≠ 0) →
    ∃ t plan, exec (.readTransfer m a beats) s = .next t ∧ OnlyTouches [.arb] s t ∧ plan.length = beats ∧
      t.arb = { s.arb with passing := s.arb.passing ++ [.read m a plan] } ∧
      ∀ b, b < beats → (plan[b]? = some .pass ∨ plan[b]? = some .zero) ∧
        (plan[b]? = some .pass ↔ PayloadPasses (s.crane i) ((a.toNat - (s.window w).base + 16 * b) / size)))

/-- A torn header beat: its slot becomes FAULTED (TORN) with its sequence and deadline kept, the beat goes downstream as received, the
window's torn counter increases, and TORN_RECORD is set and posted. -/
def Obligations.TornHeaderBeat : Prop :=
  ∀ (m : MasterId) (a : Address) (l : List Lane) (s : State) (w : Fin 32) (i : Fin 16) (size j : Nat),
    (Transfer.write m a l).wf = true → s.inReset = false → Settled s → s.pageOffset a.toNat = none →
    FallsInSlots s a.toNat w i size → (s.window w).permits m = true → 16 * j < l.length →
    (a.toNat - (s.window w).base + 16 * j) % size = 0 →
    (∃ x ∈ (l.drop (16 * j)).take 16, x.strobe = true) → (∃ x ∈ (l.drop (16 * j)).take 16, x.strobe = false) →
    let n := (a.toNat - (s.window w).base + 16 * j) / size
    ∃ t, exec (.writeTransfer m a l) s = .next t ∧ OnlyTouches [.windows, .cranes, .notice, .arb] s t ∧
      t.windows = upd s.windows w { s.window w with torn := min ((s.window w).torn + 1) 4294967295 } ∧
      (∀ c, c ≠ i → t.crane c = s.crane c) ∧
      t.crane i = (s.crane i).afterWrite (t.crane i) n { (s.crane i).slot n with
        state := .faulted .torn, writeTime := s.time.lt, lastVerdict := .hold } ∧
      (t.crane i).downExpected = (s.crane i).downExpected ∧ (t.crane i).madeCount = (s.crane i).madeCount ∧
      t.notice = (({ s.notice with flags := s.notice.flags ||| 0x002#12 } : NoticeUnit).take
        (noticeOf .tornRecord w.val s.stamp m.toNat n 1)).followed ∧
      ForwardsWithStatus (.write m a l) s t

/-- A fully written header beat: the slot takes the state of the first condition of 3.3 that applies, with the frame's sequence, the
local time and last verdict HOLD, a PENDING slot the deadline of R52 and any other its old one; a well-formed frame makes the
expected sequence its own + 1 and goes downstream with the release stamp and a fresh check word, and a beat that is not well
formed goes as written; the window's taken counter increases. A slot made PENDING is the newest of its deadline: it takes the next number of
the crane's write order (log entry 11). -/
def Obligations.FullHeaderBeat : Prop :=
  ∀ (m : MasterId) (a : Address) (l : List Lane) (s : State) (w : Fin 32) (i : Fin 16) (size j : Nat),
    (Transfer.write m a l).wf = true → s.inReset = false → Settled s → s.pageOffset a.toNat = none →
    FallsInSlots s a.toNat w i size → (s.window w).permits m = true → 16 * j < l.length →
    (a.toNat - (s.window w).base + 16 * j) % size = 0 → (∀ x ∈ (l.drop (16 * j)).take 16, x.strobe = true) →
    let n := (a.toNat - (s.window w).base + 16 * j) / size
    let beat := ((l.drop (16 * j)).take 16).map Lane.byte
    let h := FrameHeader.read beat
    let o := FrameOutcome (s.crane i) size beat
    let stamp := beBytes 4 (s.stamp.value.toNat % 4294967296)
    let out := beat.take 10 ++ stamp ++ beBytes 2 (checkWord (beat.take 10 ++ stamp))
    ∃ t, exec (.writeTransfer m a l) s = .next t ∧ OnlyTouches [.windows, .cranes, .arb] s t ∧
      t.windows = upd s.windows w { s.window w with taken := min ((s.window w).taken + 1) 4294967295 } ∧
      (∀ c, c ≠ i → t.crane c = s.crane c) ∧
      t.crane i = (s.crane i).afterWrite (t.crane i) n
        { state := o, sequence := h.sequence, writeTime := s.time.lt,
          deadline := if o = .pending then DeadlineOf (s.crane i) s.time.lt h.validity else ((s.crane i).slot n).deadline,
          lastVerdict := .hold
          madeNo := if o = .pending then (s.crane i).madeCount + 1 else ((s.crane i).slot n).madeNo } ∧
      (t.crane i).madeCount = (if o = .pending then (s.crane i).madeCount + 1 else (s.crane i).madeCount) ∧
      (WellFormedFrame o → (t.crane i).downExpected = some ((h.sequence + 1) % 65536) ∧
        ForwardsWrite s m a (l.take (16 * j) ++ out.map (fun b => ⟨b, true⟩) ++ l.drop (16 * j + 16)) t.arb) ∧
      (¬WellFormedFrame o → (t.crane i).downExpected = (s.crane i).downExpected ∧ ForwardsWrite s m a l t.arb)

/-- A read that carries a header beat: the verdict is PASS, or HOLD with the reason of the first condition of R59 that holds. PASS
makes the slot SENT and returns the beat as DRAM gives it; HOLD counts a held read, returns the HOLD frame of R61 in the beat's
place, and posts FRAME_HELD when the crane's last verdict was PASS. The payload beats are returned or zeroed by their slot's
record after the verdict. -/
def Obligations.HeaderReadVerdict : Prop :=
  ∀ (m : MasterId) (a : Address) (beats : Nat) (s : State) (w : Fin 32) (i : Fin 16) (size j : Nat),
    (Transfer.read m a beats).wf = true → s.inReset = false → Settled s → FallsInSlots s a.toNat w i size → j < beats →
    (a.toNat - (s.window w).base + 16 * j) % size = 0 →
    let c := s.crane i
    let n := (a.toNat - (s.window w).base + 16 * j) / size
    let x := c.slot n
    let sequence := if x.state = .empty then c.lastPassed.getD 0 else x.sequence
    ∃ t plan, exec (.readTransfer m a beats) s = .next t ∧ OnlyTouches [.cranes, .notice, .arb] s t ∧
      (∀ d, d ≠ i → t.crane d = s.crane d) ∧ plan.length = beats ∧
      (∀ b, b < beats → b ≠ j → (plan[b]? = some .pass ↔
          PayloadPasses (t.crane i) ((a.toNat - (s.window w).base + 16 * b) / size)) ∧
        (plan[b]? = some .pass ∨ plan[b]? = some .zero)) ∧
      (match HoldReason c n s.time.lt with
        | none => plan[j]? = some .pass ∧ t.notice = s.notice ∧
            t.arb = { s.arb with passing := s.arb.passing ++ [.read m a plan] } ∧
            t.crane i = { c with
              slots := c.slots.map fun l => l.set n { x with state := .sent, lastVerdict := .pass }
              pendingSlots := c.pendingSlots.filter (· != n)
              lastPassed := some x.sequence
              lastCraneVerdict := .pass }
        | some reason =>
            plan[j]? = some (.hold (holdFrame c.params.craneId sequence reason (s.stamp.value.toNat % 4294967296))) ∧
            t.crane i = { c with
              slots := c.slots.map fun l => l.set n { x with lastVerdict := .hold }
              heldReads := min (c.heldReads + 1) 4294967295
              lastCraneVerdict := .hold } ∧
            ForwardsWithStatus (.read m a plan) s t ∧
            t.notice = (if c.lastCraneVerdict = .pass then
                (s.notice.take (noticeOf .frameHeld i.val s.stamp reason n sequence)).followed
              else s.notice))

/-- Every crane's pending list stays as R55 describes it through every step: its PENDING slots, each once, by deadline, and slots of equal
deadline in write order, which the model keeps as a number for each slot (log entry 11). -/
def Obligations.PendingListsKept : Prop :=
  ∀ s t : State, TablesFit s → (∀ i, PendingWf (s.crane i)) → step s = .next t →
    TablesFit t ∧ ∀ i, PendingWf (t.crane i)

/-- In every step in which a crane becomes DEGRADED, each of its slots that is PENDING afterwards has an effective deadline no later
than its write time + the degraded cap, and not yet passed. -/
def Obligations.DegradedEntryCapsDeadlines : Prop :=
  ∀ (s t : State) (i : Fin 16) (n : Nat), TablesFit s → (∀ j, PendingWf (s.crane j)) → step s = .next t →
    (s.crane i).link ≠ .degraded → (t.crane i).link = .degraded → ((t.crane i).slot n).state = .pending →
    ((t.crane i).slot n).deadline ≤ ((t.crane i).slot n).writeTime + 1000 * (t.crane i).params.cap ∧
      t.time.lt ≤ ((t.crane i).slot n).deadline

/-! ## Chapter 4: Crane Uplink and Link State -/

/-- ATTACH_CRANE and SET_CRANE_PARAMETERS: the checks of R72 and R73 in order; otherwise ATTACH_CRANE gives the context the values of
R70 with the parameters, its mirror record before the result record, and SET_CRANE_PARAMETERS changes all eight parameters and nothing
else. -/
def Obligations.CraneParameterCommands : Prop :=
  (∀ s : State, Offered .attachCrane s →
    (15 < s.arg 1 → ∃ t, exec .attachCrane s = .next t ∧ Refuses s t .badArgument) ∧
    ∀ i : Fin 16, i.val = s.arg 1 → ∃ t, exec .attachCrane s = .next t ∧
      ((s.crane i).link ≠ .dormant → Refuses s t .state) ∧
      ((s.crane i).link = .dormant → ¬CraneArgsGood s → Refuses s t .badArgument) ∧
      ((s.crane i).link = .dormant → CraneArgsGood s → CraneIdTaken s i → Refuses s t .overlap) ∧
      ((s.crane i).link = .dormant → CraneArgsGood s → ¬CraneIdTaken s i →
        OnlyTouches [.cranes, .cmd, .arb] s t ∧ ReportsWithCraneMirror s t i .done ∧
        t.cranes = upd s.cranes i { Crane.cleared with link := .lost, params := CraneParamsOf s })) ∧
  (∀ s : State, Offered .setCraneParameters s →
    (15 < s.arg 1 → ∃ t, exec .setCraneParameters s = .next t ∧ Refuses s t .badArgument) ∧
    ∀ i : Fin 16, i.val = s.arg 1 → ∃ t, exec .setCraneParameters s = .next t ∧
      ((s.crane i).link = .dormant → Refuses s t .state) ∧
      ((s.crane i).link ≠ .dormant → ¬CraneArgsGood s → Refuses s t .badArgument) ∧
      ((s.crane i).link ≠ .dormant → CraneArgsGood s → CraneIdTaken s i → Refuses s t .overlap) ∧
      ((s.crane i).link ≠ .dormant → CraneArgsGood s → ¬CraneIdTaken s i →
        OnlyTouches [.cranes, .cmd, .arb] s t ∧ Reports s t .done ∧
        t.cranes = upd s.cranes i { s.crane i with params := CraneParamsOf s }))

/-- DETACH_CRANE, HOLD_CRANE and RELEASE_CRANE: refused for an index above 15 and for a crane not attached, DETACH_CRANE also while a
crane window names the crane; otherwise the context is cleared, or the hold flag set or cleared, with the crane's mirror record
when something changed. -/
def Obligations.DetachHoldRelease : Prop :=
  (∀ s : State, Offered .detachCrane s →
    (15 < s.arg 1 → ∃ t, exec .detachCrane s = .next t ∧ Refuses s t .badArgument) ∧
    ∀ i : Fin 16, i.val = s.arg 1 → ∃ t, exec .detachCrane s = .next t ∧
      ((s.crane i).link = .dormant ∨ CraneNamed s i → Refuses s t .state) ∧
      ((s.crane i).link ≠ .dormant → ¬CraneNamed s i →
        OnlyTouches [.cranes, .cmd, .arb] s t ∧ ReportsWithCraneMirror s t i .done ∧
        t.cranes = upd s.cranes i Crane.cleared)) ∧
  (∀ (s : State) (flag : Bool), Offered (if flag then .holdCrane else .releaseCrane) s →
    (15 < s.arg 1 → ∃ t, exec (if flag then .holdCrane else .releaseCrane) s = .next t ∧ Refuses s t .badArgument) ∧
    ∀ i : Fin 16, i.val = s.arg 1 → ∃ t, exec (if flag then .holdCrane else .releaseCrane) s = .next t ∧
      ((s.crane i).link = .dormant → Refuses s t .state) ∧
      ((s.crane i).link ≠ .dormant → (s.crane i).holdFlag = flag → Refuses s t .done) ∧
      ((s.crane i).link ≠ .dormant → (s.crane i).holdFlag ≠ flag →
        OnlyTouches [.cranes, .cmd, .arb] s t ∧ ReportsWithCraneMirror s t i .done ∧
        t.cranes = upd s.cranes i { s.crane i with holdFlag := flag }))

/-- An uplink record that is not used (R76, R77), or whose crane is DORMANT. A DORMANT crane's record is discarded. Any other gets its
outcome: it joins the error window, the consecutive GOOD count becomes 0, the outcome's flag is set, the link is judged by R84 and R85 with
its notices and its mirror record, and no other field of the context changes but what the capping of R57 does to its slots. -/
def Obligations.UnusedUplinkRecord : Prop :=
  ∀ (s : State) (e : QueueEntry) (rest : List QueueEntry) (i : Fin 16), Free .uplinkJob s →
    s.intake.uplink = e :: rest → e.crane = some i →
    ((s.crane i).link = .dormant → ∃ t, exec .uplinkRecordDequeue s = .next t ∧ OnlyTouches [.intake, .windows] s t ∧
      t.intake = { s.intake with uplink := rest } ∧ CountsTaken s t e) ∧
    ∀ o : UplinkOutcome, (s.crane i).link ≠ .dormant → UnusedOutcome (s.crane i) e.bytes o →
      let u : State := { s with
        cranes := upd s.cranes i { s.crane i with errors := ErrorsAfter (s.crane i).errors [o], goodCount := 0 }
        notice := { s.notice with flags := s.notice.flags ||| OutcomeFlag o } }
      ∃ t v, exec .uplinkRecordDequeue s = .next t ∧ OnlyTouches [.intake, .windows, .cranes, .notice, .arb] s t ∧
        t.intake = { s.intake with uplink := rest } ∧ CountsTaken s t e ∧ (∀ c, c ≠ i → t.crane c = s.crane c) ∧
        t.crane i = { s.crane i with
          errors := ErrorsAfter (s.crane i).errors [o]
          goodCount := 0
          link := (t.crane i).link
          slots := (t.crane i).slots
          pendingSlots := (t.crane i).pendingSlots
          unsent := (t.crane i).unsent } ∧
        LinkAfterRecord (s.crane i).link o t i (t.crane i).link ∧
        ((t.crane i).link = (s.crane i).link → (t.crane i).slots = (s.crane i).slots ∧
          (t.crane i).pendingSlots = (s.crane i).pendingSlots ∧ (t.crane i).unsent = (s.crane i).unsent) ∧
        JudgedOnRecord u v i o ∧ t.cranes = v.cranes ∧ t.notice = v.notice.followed ∧
        ThenStatusIfFlagged .uplinkJob s t
          (if (t.crane i).link = (s.crane i).link then s.arb else WithCraneMirror .uplinkJob s.arb t i)

/-- A used uplink record: MISSING outcomes and then its own (CADENCE when early, else GOOD) join the error window and set their flags; the
heartbeat timer, the expected sequence, the arrival, the last heard stamp, the level, the square with its POSITION_RANGE mark and the
serving cell are set as R79 and R82 say. Then, in order, the sample of a serving cell other than 0 is handled, the link state is judged by
R84 and R85, and the steer check runs; the crane's mirror record is written once, last, when its square, serving cell or link state
changed, before a status block (log entry 8). Without a serving cell the grid is unchanged. -/
def Obligations.UsedUplinkRecord : Prop :=
  ∀ (s : State) (e : QueueEntry) (rest : List QueueEntry) (i : Fin 16) (missing : Nat) (own : UplinkOutcome),
    Free .uplinkJob s → s.intake.uplink = e :: rest → e.crane = some i → (s.crane i).link ≠ .dormant →
    InSequence (s.crane i) e.bytes missing → (Early (s.crane i) e.arrival → own = .cadence) →
    (¬Early (s.crane i) e.arrival → own = .good) →
    let h := UplinkHeader.read e.bytes
    let c := s.crane i
    let segment := h.position / c.params.segmentLength
    let heard : Crane := { c with
      errors := ErrorsAfter c.errors (List.replicate missing .missing ++ [own])
      goodCount := if own = .good then (if missing = 0 then min (c.goodCount + 1) 15 else 1) else 0
      heartbeat := some (e.arrival + 1000 * c.params.heartbeat)
      expected := some ((h.sequence + 1) % 65536)
      prevArrival := some e.arrival
      lastHeard := some s.stamp
      level := some h.level
      square := some (squareIndex (min segment (s.grid.params.segmentCount - 1)) h.band)
      positionRange := decide (s.grid.params.segmentCount ≤ segment)
      serving := h.serving }
    let b : State := { s with
      cranes := upd s.cranes i heard
      notice := { s.notice with flags := s.notice.flags ||| (if missing = 0 then 0 else OutcomeFlag .missing) ||| OutcomeFlag own }
      scratch := { EventScratch.idle with work := .uplinkJob, deferred := some i } }
    let u := if h.serving = 0 then b
      else b.sample (min segment (s.grid.params.segmentCount - 1)) h.band h.serving h.level e.arrival (.uplink i.val)
    ∃ t v, exec .uplinkRecordDequeue s = .next t ∧ OnlyTouches [.intake, .windows, .cranes, .grid, .notice, .arb] s t ∧
      t.intake = { s.intake with uplink := rest } ∧ CountsTaken s t e ∧
      t.crane i = { heard with
        link := (t.crane i).link
        steerHoldoff := (t.crane i).steerHoldoff
        slots := (t.crane i).slots
        pendingSlots := (t.crane i).pendingSlots
        unsent := (t.crane i).unsent } ∧
      LinkAfterRecord c.link own t i (t.crane i).link ∧ JudgedOnRecord u v i own ∧
      t.cranes = (v.steerCheck i e.arrival).cranes ∧ t.grid = u.grid ∧ (h.serving = 0 → t.grid = s.grid) ∧
      t.notice = (v.steerCheck i e.arrival).notice.followed ∧
      ThenStatusIfFlagged .uplinkJob s t
        (if (t.crane i).square = c.square ∧ (t.crane i).serving = c.serving ∧ (t.crane i).link = c.link then v.arb
          else WithCraneMirror .uplinkJob v.arb t i)

/-- The steer check: STEER is raised, and the holdoff started, exactly when the crane is LINKED or DEGRADED, its square has a fresh
entry for its serving cell, the best cell is another one, the best estimate lies at least the margin × 8 above that entry, and the
holdoff has run out. The holdoff starts whether or not the STEER kind is enabled (log entry 13). -/
def Obligations.SteerPostedWhenDue : Prop :=
  ∀ (s : State) (i : Fin 16) (arrival : Nat),
    let c := s.crane i
    let due (q : Fin 512) (serving best : Fin 24) (es eb : Int) (u : Nat) : Prop :=
      (c.link = .linked ∨ c.link = .degraded) ∧ c.square = some q ∧ s.grid.cellIndex c.serving = some serving ∧
        (s.square q).entries.get serving = .fresh es u ∧ (s.square q).best = some best ∧
        (s.square q).bestEstimate = some eb ∧ best ≠ serving ∧ (s.grid.params.steerMargin : Int) * 8 ≤ eb - es ∧
        (∀ e, c.steerHoldoff = some e → e ≤ arrival)
    (∀ q serving best es eb u, due q serving best es eb u →
      s.steerCheck i arrival =
        (s.setCrane i { c with steerHoldoff := some (arrival + 1000000 * s.grid.params.steerHoldoff) }).raise .steer i.val
          (BitVec.ofNat 32 c.serving) (BitVec.ofNat 32 ((s.grid.cells.get best).getD 0)) (BitVec.ofInt 32 (eb - es))) ∧
    ((¬∃ q serving best es eb u, due q serving best es eb u) → s.steerCheck i arrival = s)

/-- The judgement of R86 on a change of a square's state: each attached crane whose current square it is becomes DEGRADED or LINKED as
the table says, and every other crane is unchanged; where one crane stands in the square, nothing but its transition comes about. What a
transition does: an entry into DEGRADED caps the deadlines, raises DEGRADED with its cause and then UNSENT for each slot that expires, and
hands the crane's mirror record after those expiries (log entries 10 and 36); a return to LINKED raises its notice with the square and
hands the record. -/
def Obligations.SquareChangeJudgesCranes : Prop :=
  ∀ (s : State) (q : Fin 512) (before after : SquareState), (s.square q).state = after → before ≠ after →
    let weak (x : SquareState) : Prop := x = .hole ∨ x = .marginal
    ∀ i, ((s.crane i).square ≠ some q → (s.reportSquare q before after).crane i = s.crane i) ∧
      ((s.crane i).square = some q →
        ((s.crane i).link = .linked → weak after → ((s.reportSquare q before after).crane i).link = .degraded) ∧
        ((s.crane i).link = .linked → ¬weak after → (s.reportSquare q before after).crane i = s.crane i) ∧
        ((s.crane i).link = .degraded → ¬weak after → weak before →
          (s.crane i).errors.countP (· != .good) < (s.crane i).params.degrade →
          (s.reportSquare q before after).crane i = { s.crane i with link := .linked }) ∧
        ((s.crane i).link = .degraded → weak after ∨ ¬weak before ∨
          (s.crane i).params.degrade ≤ (s.crane i).errors.countP (· != .good) →
          (s.reportSquare q before after).crane i = s.crane i) ∧
        ((s.crane i).link = .lost ∨ (s.crane i).link = .dormant → (s.reportSquare q before after).crane i = s.crane i) ∧
        ((∀ j, j ≠ i → (s.crane j).square ≠ some q) →
          ((s.crane i).link = .linked → weak after → s.reportSquare q before after = s.enterDegraded i) ∧
          ((s.crane i).link = .degraded → ¬weak after → weak before →
            (s.crane i).errors.countP (· != .good) < (s.crane i).params.degrade →
            s.reportSquare q before after = s.enterLinked i .recovered))) ∧
      (PendingWf (s.crane i) → EntersDegraded s (s.enterDegraded i) i) ∧
      ∀ (k : NoticeKind) (p : Fin 512), (s.crane i).square = some p → EntersLinked s (s.enterLinked i k) i k p

/-- No crane is LINKED while its current square is HOLE or MARGINAL: every step keeps this. -/
def Obligations.NoLinkedCraneInWeakSquareKept : Prop :=
  ∀ s t : State, NoLinkedCraneInWeakSquare s → step s = .next t → NoLinkedCraneInWeakSquare t

/-- The three expiries, when local time has passed their time. HOLDOVER_EXPIRY while RUNNING and SYNCED gives HOLDOVER with TIME_LOST and a
status block. HEARTBEAT_EXPIRY stops the timer, makes the expected sequence absent and the GOOD count 0, and a LINKED or DEGRADED crane
becomes LOST with LINK_LOST, whose second word is the previous used arrival (free where that is absent, log entry 16), and its mirror
record, before a status block of the event (log entry 8). SLOT_EXPIRY makes the slot at the head of the pending list EXPIRED and takes it
from the list, counts it unsent and posts UNSENT. Nothing else changes. -/
def Obligations.Expiries : Prop :=
  (∀ (s : State) (a : Nat), s.inReset = false → Settled s → s.time.run = .running → s.time.sync = .synced →
    s.time.lastSuccess = some a → a + 8 * (1000 * s.time.interval) < s.time.lt →
    ∃ t, exec .holdoverExpiry s = .next t ∧ OnlyTouches [.time, .notice, .arb] s t ∧
      t.time = { s.time with sync := .holdover } ∧
      t.notice = (({ s.notice with flags := s.notice.flags ||| 0x100#12 } : NoticeUnit).take
        { kind := .timeLost, subject := 0, stamp := t.stamp, value1 := BitVec.ofNat 32 s.time.interval,
          value2 := BitVec.ofNat 32 a, value3 := 0 }).followed ∧
      t.arb = s.arb.hand .other ⟨s.pageAddr 0x200, t.statusBlock⟩) ∧
  (∀ (s : State) (i : Fin 16) (x : Nat), s.inReset = false → Settled s → (s.crane i).link ≠ .dormant →
    (s.crane i).heartbeat = some x → x < s.time.lt →
    ∃ t, exec (.heartbeatExpiry i) s = .next t ∧ OnlyTouches [.cranes, .notice, .arb] s t ∧
      t.cranes = upd s.cranes i { s.crane i with link := .lost, heartbeat := none, expected := none, goodCount := 0 } ∧
      ((s.crane i).link = .lost → t.notice = s.notice ∧ t.arb = s.arb) ∧
      ((s.crane i).link ≠ .lost → ThenStatusIfFlagged .other s t (WithCraneMirror .other s.arb t i) ∧
        ∃ w, (∀ a, (s.crane i).prevArrival = some a → w = BitVec.ofNat 32 a) ∧
          t.notice = (s.notice.take
            { kind := .linkLost, subject := i.val, stamp := s.stamp,
              value1 := if (s.crane i).link = .linked then 2 else 3, value2 := w,
              value3 := BitVec.ofNat 32 (s.crane i).params.heartbeat }).followed)) ∧
  (∀ (s : State) (i : Fin 16) (n : Nat) (rest : List Nat), s.inReset = false → Settled s →
    (s.crane i).pendingSlots = n :: rest → ((s.crane i).slot n).state = .pending →
    ((s.crane i).slot n).deadline < s.time.lt →
    ∃ t, exec (.slotExpiry i) s = .next t ∧ OnlyTouches [.cranes, .notice, .arb] s t ∧
      t.cranes = upd s.cranes i { s.crane i with
        slots := (s.crane i).slots.map fun l => l.set n { (s.crane i).slot n with state := .expired }
        pendingSlots := (n :: rest).filter (· != n)
        unsent := min ((s.crane i).unsent + 1) 4294967295 } ∧
      t.notice = (s.notice.take (noticeOf .unsent i.val s.stamp n ((s.crane i).slot n).sequence
        ((s.crane i).slot n).deadline)).followed ∧
      StatusIfFlagged .other s t)

/-- What every step keeps of the tables: the attached cranes' IDs are distinct and their parameters in range; a LINKED or DEGRADED crane has a
square, a previous arrival and a running heartbeat timer (so no notice of a run from reset takes the free value of log entry 16); the cell
table holds each identity and the reefer table each tag at most once; and a square is UNKNOWN exactly when none of its entries is fresh,
with its best fresh entry as its best cell. -/
def Obligations.TablesConsistentKept : Prop :=
  (∀ s t : State, CraneIdsDistinct s → step s = .next t → CraneIdsDistinct t) ∧
  (∀ s t : State, LinkedCraneHeard s → step s = .next t → LinkedCraneHeard t) ∧
  (∀ s t : State, step s = .next t → (CellsDistinct s → CellsDistinct t) ∧ (TagsDistinct s → TagsDistinct t)) ∧
  (∀ s t : State, (∀ q, SummaryFits (s.square q)) → step s = .next t → ∀ q, SummaryFits (t.square q))

/-! ## Chapter 5: Quay Coverage Grid -/

/-- SET_CELL and CLEAR_CELL: the refusals of R93 and R94; an empty place takes the identity and nothing else of the grid changes; the
same identity changes nothing; another identity, and CLEAR_CELL, clear the place in every square first, in index order, with the effects
of R100 in each, before the status block (log entry 8) and the result record. -/
def Obligations.SetAndClearCell : Prop :=
  (∀ s : State, Offered .setCell s →
    (23 < s.arg 1 ∨ s.arg 2 = 0 → ∃ t, exec .setCell s = .next t ∧ Refuses s t .badArgument) ∧
    ∀ c : Fin 24, c.val = s.arg 1 → s.arg 2 ≠ 0 → ∃ t, exec .setCell s = .next t ∧
      ((∃ d, d ≠ c ∧ s.grid.cells.get d = some (s.arg 2)) → Refuses s t .overlap) ∧
      ((∀ d, d ≠ c → s.grid.cells.get d ≠ some (s.arg 2)) →
        t.cmd = s.cmd.reported .done ∧
        (s.grid.cells.get c = none → OnlyTouches [.grid, .cmd, .arb] s t ∧ Reports s t .done ∧
          t.grid = { s.grid with cells := upd s.grid.cells c (some (s.arg 2)) }) ∧
        (s.grid.cells.get c = some (s.arg 2) → Refuses s t .done) ∧
        (∀ old, s.grid.cells.get c = some old → old ≠ s.arg 2 →
          OnlyTouches [.grid, .cranes, .notice, .cmd, .arb] s t ∧ ClearsPlace s t c (some (s.arg 2)) ∧
          ClearsInOrder s t c))) ∧
  (∀ s : State, Offered .clearCell s →
    (23 < s.arg 1 → ∃ t, exec .clearCell s = .next t ∧ Refuses s t .badArgument) ∧
    ∀ c : Fin 24, c.val = s.arg 1 → ∃ t, exec .clearCell s = .next t ∧
      (s.grid.cells.get c = none → Refuses s t .notFound) ∧
      (s.grid.cells.get c ≠ none → t.cmd = s.cmd.reported .done ∧
        OnlyTouches [.grid, .cranes, .notice, .cmd, .arb] s t ∧ ClearsPlace s t c none ∧ ClearsInOrder s t c))

/-- SET_COVERAGE_PARAMETERS and SET_CRITERIA change all eight fields together or are refused with BAD_ARGUMENT, and SET_ENROLMENT_MODE
takes MANUAL or AUTO; none of them recomputes or judges anything, and none writes a mirror record. -/
def Obligations.SetTableParameters : Prop :=
  (∀ s : State, Offered .setCoverageParameters s → ∃ t, exec .setCoverageParameters s = .next t ∧
    (¬CoverageArgsGood s → Refuses s t .badArgument) ∧
    (CoverageArgsGood s → OnlyTouches [.grid, .cmd, .arb] s t ∧ Reports s t .done ∧
      t.grid = { s.grid with params := {
        holeEnter := s.argS 1
        holeExit := s.argS 2
        marginalEnter := s.argS 3
        marginalExit := s.argS 4
        ageLimit := s.arg 5
        steerMargin := s.arg 6
        steerHoldoff := s.arg 7
        segmentCount := s.arg 8 } })) ∧
  (∀ s : State, Offered .setCriteria s → ∃ t, exec .setCriteria s = .next t ∧
    (15 < s.arg 1 ∨ ¬CriteriaArgsGood s → Refuses s t .badArgument) ∧
    (∀ i : Fin 16, i.val = s.arg 1 → CriteriaArgsGood s → OnlyTouches [.reefer, .cmd, .arb] s t ∧ Reports s t .done ∧
      t.reefer = { s.reefer with criteria := upd s.reefer.criteria i {
        upper := s.arg 2
        lower := s.arg 3
        shift := s.arg 4
        limit := s.arg 5
        settle := s.arg 6
        elapsedCap := s.arg 7
        defrostAllowance := s.arg 8
        silentLimit := s.arg 9 } })) ∧
  (∀ s : State, Offered .setEnrolmentMode s → ∃ t, exec .setEnrolmentMode s = .next t ∧
    (1 < s.arg 1 → Refuses s t .badArgument) ∧
    (s.arg 1 ≤ 1 → OnlyTouches [.reefer, .cmd, .arb] s t ∧ Reports s t .done ∧
      t.reefer = { s.reefer with mode := if s.arg 1 = 1 then .auto else .manual }))

/-- Recomputing a summary: the best cell is the fresh entry with the greatest estimate, ties to the lower index, the best estimate is
that entry's, and the state follows the table of R99 from the state before and the thresholds × 8; with no fresh entry the square is
UNKNOWN without best cell. The last change stamp is new exactly when the state changes. A square that takes new entries so has the effects
of R100 in their order: SQUARE_STATE, one mirror record, the judgement of its cranes. -/
def Obligations.SummaryRecomputed : Prop :=
  (∀ (s : State) (q : Fin 512) (entries : Vector CellEntry 24), SquareChanged s (s.changeSquare q entries) q entries) ∧
  ∀ (x : Square) (p : CoverageParams) (now : Stamp),
    let y := x.summarised p now
    y.entries = x.entries ∧
    ((∀ c e u, x.entries.get c ≠ .fresh e u) → y.state = .unknown ∧ y.best = none ∧ y.bestEstimate = none) ∧
    (∀ c e, BestOf x.entries c e → y.best = some c ∧ y.bestEstimate = some e ∧ y.state = StateAfter p x.state e) ∧
    ((∃ c e u, x.entries.get c = .fresh e u) → ∃ c e, BestOf x.entries c e) ∧
    y.lastChange = if y.state = x.state then x.lastChange else some now

/-- One sample. A known cell: its entry becomes fresh at the arrival time, at level × 8 when it was absent or stale, and otherwise
moved by the difference divided by 2^weight, truncated and at least one; the square takes the new entries with the effects of R100, and no
other entry changes. An unknown identity: the unknown-cell count increases, the limiter is consulted, and UNKNOWN_CELL is raised when it lets it
through. -/
def Obligations.SampleApplied : Prop :=
  ∀ (s : State) (segment band identity arrival : Nat) (level : Int) (src : SampleSource),
    let seg := if s.grid.params.segmentCount ≤ segment then s.grid.params.segmentCount - 1 else segment
    let q := squareIndex seg band
    let t := s.sample segment band identity level arrival src
    let target := 8 * max (-280) (min (-40) level)
    let weight := match src with | .uplink _ => 2 | .measurement _ => 3 | .reefer _ => 4
    let source := match src with | .uplink _ => 1 | .measurement _ => 2 | .reefer _ => 3
    let subject := match src with | .uplink i => i | .measurement m => m | .reefer n => n
    (∀ c, s.grid.cellIndex identity = some c →
      t.grid = { s.grid with squares := t.grid.squares } ∧ (∀ p, p ≠ q → t.square p = s.square p) ∧
      ∃ e, (t.square q) = ({ s.square q with entries := upd (s.square q).entries c (.fresh e arrival) } : Square).summarised
          s.grid.params s.stamp ∧
        t = s.changeSquare q (upd (s.square q).entries c (.fresh e arrival)) ∧
        match (s.square q).entries.get c with
        | .fresh old _ =>
          let step := Int.tdiv (target - old) (2 ^ weight)
          e = if step ≠ 0 then old + step else if old < target then old + 1 else if target < old then old - 1 else old
        | .stale _ _ => e = target
        | .absent => e = target) ∧
    (s.grid.cellIndex identity = none →
      ∃ raised, LimiterRule s.grid.limiter t.grid.limiter identity s.time.lt raised ∧
        t.grid = { s.grid with
          unknownCells := min (s.grid.unknownCells + 1) 4294967295
          limiter := t.grid.limiter } ∧
        t.cranes = s.cranes ∧ t.arb = s.arb ∧
        t.notice = if raised = true then
            s.notice.take (noticeOf .unknownCell q.val s.stamp identity source subject)
          else s.notice)

/-- A measurement record: rejected, with only the reject count, when its kind is not 1 or its band is above 3; otherwise used, with the
used count, the clamp count once when its segment or pair count is out of range, and one sample for each pair up to the count whose
identity is not 0, in order, with the record's square after clamping; the crane judgements, the notices and the own writes are those of the
samples, with a status block last if a flag or the overflow set changed (log entry 8). -/
def Obligations.MeasurementRecordHandled : Prop :=
  ∀ (s : State) (e : QueueEntry) (rest : List QueueEntry), Free .measureJob s → s.intake.measure = e :: rest →
    let r := MeasureRecord.read e.bytes
    let segment := if s.grid.params.segmentCount ≤ r.segment then s.grid.params.segmentCount - 1 else r.segment
    let sampled := (r.pairs.take (min r.pairCount 8)).foldl (fun u x =>
      if x.1 = 0 then u else u.sample segment r.band x.1 x.2 e.arrival (.measurement r.source)) (s.beginEvent .measureJob)
    ∃ t, exec .measurementRecordDequeue s = .next t ∧
      OnlyTouches [.intake, .windows, .grid, .cranes, .notice, .arb] s t ∧
      t.intake = { s.intake with measure := rest } ∧ CountsTaken s t e ∧
      (r.kind ≠ 1 ∨ 3 < r.band → OnlyTouches [.intake, .windows, .grid] s t ∧
        t.grid = { s.grid with measureRejected := min (s.grid.measureRejected + 1) 4294967295 }) ∧
      (r.kind = 1 → r.band ≤ 3 →
        t.grid = { sampled.grid with
          measureUsed := min (s.grid.measureUsed + 1) 4294967295
          measureClamped := if s.grid.params.segmentCount ≤ r.segment ∨ 8 < r.pairCount then
            min (s.grid.measureClamped + 1) 4294967295 else s.grid.measureClamped } ∧
        t.cranes = sampled.cranes ∧ t.notice = sampled.notice.followed ∧ ThenStatusIfFlagged .measureJob s t sampled.arb ∧
        (∀ p, p ≠ squareIndex segment r.band → t.square p = s.square p) ∧
        ((∀ x ∈ r.pairs.take (min r.pairCount 8), x.1 = 0) → OnlyTouches [.intake, .windows, .grid] s t))

/-- AGING_VISIT of the square at the pass position: its fresh entries older than the age limit become stale with estimate and time kept,
its summary is recomputed with the effects of R100, no other square changes, and the pass moves on or ends, its position 0 after the end
(log entry 42). A visit that changes neither state nor best cell touches nothing else; where no crane stands in the square, one that does
raises SQUARE_STATE for a change of state and hands the mirror record once, before a status block (log entry 8). -/
def Obligations.AgingVisitAges : Prop :=
  ∀ (s : State) (q : Fin 512), Free .agingPass s → s.grid.aging.inProgress = true → s.grid.aging.position = q.val →
    ∃ t, exec .agingVisit s = .next t ∧ OnlyTouches [.grid, .cranes, .notice, .arb] s t ∧
      t.grid = { s.grid with aging := s.grid.aging.afterVisit 512, squares := t.grid.squares } ∧
      (∀ p, p ≠ q → t.square p = s.square p) ∧
      (∀ c, (t.square q).entries.get c = match (s.square q).entries.get c with
        | .fresh e u => if u + 1000000 * s.grid.params.ageLimit < s.time.lt then .stale e u else .fresh e u
        | x => x) ∧
      t.square q = ({ s.square q with entries := (t.square q).entries } : Square).summarised s.grid.params s.stamp ∧
      ((t.square q).state = (s.square q).state → (t.square q).best = (s.square q).best → OnlyTouches [.grid] s t) ∧
      RecomputedBy .agingPass s t q (t.square q).entries ∧
      ((∀ i, (s.crane i).square ≠ some q) → ¬((t.square q).state = (s.square q).state ∧ (t.square q).best = (s.square q).best) →
        t.cranes = s.cranes ∧ t.notice = (if (t.square q).state = (s.square q).state then s.notice else s.notice.take
          { kind := .squareState, subject := q.val, stamp := s.stamp,
            value1 := BitVec.ofNat 32 (s.square q).state.code, value2 := BitVec.ofNat 32 (t.square q).state.code,
            value3 := BitVec.ofInt 32 ((t.square q).bestEstimate.getD 0) }).followed ∧
        ThenStatusIfFlagged .agingPass s t (WithGridMirror .agingPass s t q))

/-- CLEAR_GRID_VISIT of the square at the clear position: every entry becomes absent and the square UNKNOWN without best cell, with the
effects of R100 on a change, no other square changes, and the position moves on. The square's mirror record is written once whether or not
anything changed (log entry 14), before a status block (log entry 8); a held write of the operation's taking does not keep the visit back
(log entry 40); where no crane stands in the square, SQUARE_STATE for a square that was not UNKNOWN is the only notice. -/
def Obligations.ClearGridVisitClears : Prop :=
  ∀ (s : State) (q : Fin 512), Free .longOperation s → s.grid.clearing = true → s.grid.clearPosition = q.val →
    ∃ t, exec .clearGridVisit s = .next t ∧ OnlyTouches [.grid, .cranes, .notice, .arb] s t ∧
      t.grid = { s.grid with clearPosition := q.val + 1, squares := t.grid.squares } ∧
      (∀ p, p ≠ q → t.square p = s.square p) ∧ (∀ c, (t.square q).entries.get c = .absent) ∧
      (t.square q).state = .unknown ∧ (t.square q).best = none ∧ (t.square q).bestEstimate = none ∧
      ((s.square q).state = .unknown → (s.square q).best = none → OnlyTouches [.grid, .arb] s t ∧
        t.arb = WithGridMirror .longOperation s t q) ∧
      (¬((s.square q).state = .unknown ∧ (s.square q).best = none) →
        RecomputedBy .longOperation s t q (Vector.replicate 24 .absent)) ∧
      ((∀ i, (s.crane i).square ≠ some q) → t.cranes = s.cranes ∧
        t.notice = (if (s.square q).state = .unknown then s.notice else (s.notice.take (noticeOf .squareState q.val s.stamp
          (match (s.square q).state with | .unknown => 0 | .covered => 1 | .marginal => 2 | .hole => 3) 0 0)).followed) ∧
        ThenStatusIfFlagged .longOperation s t (WithGridMirror .longOperation s t q))

/-- The ranges that every step keeps: local time is a 48-bit count and OC and S are signed 64-bit values (at the ends of OC's range by log
entry 30); every estimate of the grid lies in −2240 to −320; every criteria entry stays in the ranges of R115; and, with it, F, the stored
setpoint, A, the alarm list, the in-band count, the last sequence and the report, missed and duplicate counts of every reefer entry stay in
the ranges of R112. -/
def Obligations.RangesKept : Prop :=
  (∀ s t : State, TimeInRange s.time → step s = .next t → TimeInRange t.time) ∧
  (∀ s t : State, (∀ q c, EstimateInRange ((s.square q).entries.get c)) → step s = .next t →
    ∀ q c, EstimateInRange ((t.square q).entries.get c)) ∧
  (∀ s t : State, (∀ i, CriteriaInRange (s.criteria i)) → step s = .next t → ∀ i, CriteriaInRange (t.criteria i)) ∧
  (∀ s t : State, (∀ i, CriteriaInRange (s.criteria i)) → (∀ n, EntryInRange (s.entry n)) → step s = .next t →
    ∀ n, EntryInRange (t.entry n))

/-! ## Chapters 6 and 7: Reefer Table and Reefer Excursion Arithmetic -/

/-- ENROL_REEFER and REMOVE_REEFER by the tables of R117 and R119: the refusals; a held tag takes the new criteria index and square (with
no mirror record when both are as before, log entry 19); a new tag takes the lowest VACANT entry, or the SILENT one heard longest ago with
SILENT_EVICTED, and its mirror record comes before a status block, which a lost notice calls for (log entry 8), and the result record; a
removed entry returns to its cleared values. -/
def Obligations.EnrolAndRemoveReefer : Prop :=
  (∀ s : State, Offered .enrolReefer s → ∃ t, exec .enrolReefer s = .next t ∧
    (s.arg 1 = 0 ∨ 15 < s.arg 2 ∨ 512 < s.arg 3 → Refuses s t .badArgument) ∧
    ∀ (c : Fin 16) (q : Option (Fin 512)), s.arg 1 ≠ 0 → c.val = s.arg 2 →
      s.arg 3 = (match q with | none => 0 | some x => x.val + 1) →
      (∀ n, Holds s n (s.arg 1) →
        ((s.entry n).criteria = c ∧ (s.entry n).square = q → Refuses s t .done) ∧
        (¬((s.entry n).criteria = c ∧ (s.entry n).square = q) →
          OnlyTouches [.reefer, .cmd, .arb] s t ∧ ReportsWithReeferMirror s t n ∧
          t.reefer = { s.reefer with entries := upd s.reefer.entries n { s.entry n with criteria := c, square := q } })) ∧
      (∀ n evicted, NotHeld s (s.arg 1) → PlaceForNewTag s n evicted →
        OnlyTouches [.reefer, .notice, .cmd, .arb] s t ∧ t.cmd = s.cmd.reported .done ∧
        t.reefer = { s.reefer with entries := upd s.reefer.entries n (EnrolledAs (s.arg 1) c q s.time.lt) } ∧
        t.notice = (if evicted = true then (s.notice.take (EvictionNotice s n (s.arg 1))).followed else s.notice) ∧
        t.arb = (if t.notice.flags = s.notice.flags ∧ t.notice.overflow = s.notice.overflow then WithReeferMirror .command s t n
          else (WithReeferMirror .command s t n).hand .command ⟨s.pageAddr 0x200, t.statusBlock⟩).hand .command
            ⟨s.pageAddr 0x80, t.cmd.resultRecord⟩) ∧
      (NotHeld s (s.arg 1) → (∀ n, (s.entry n).state ≠ .vacant ∧ (s.entry n).state ≠ .silent) → Refuses s t .full)) ∧
  (∀ s : State, Offered .removeReefer s → ∃ t, exec .removeReefer s = .next t ∧
    (s.arg 1 = 0 → Refuses s t .badArgument) ∧
    (s.arg 1 ≠ 0 → NotHeld s (s.arg 1) → Refuses s t .notFound) ∧
    (∀ n, s.arg 1 ≠ 0 → Holds s n (s.arg 1) → OnlyTouches [.reefer, .cmd, .arb] s t ∧ ReportsWithReeferMirror s t n ∧
      t.reefer = { s.reefer with entries := upd s.reefer.entries n ReeferEntry.cleared }))

/-- A reefer report that is not used: rejected by its kind or tag 0, unknown in MANUAL, dropped in AUTO for want of an entry (with TABLE_FULL
through its limiter), or duplicate or old for its entry. Only the count, and for a duplicate the mirror record, shows it. -/
def Obligations.UnusedReeferReport : Prop :=
  ∀ (s : State) (e : QueueEntry) (rest : List QueueEntry), Free .reeferJob s → s.intake.reefer = e :: rest →
    let r := ReeferReport.read e.bytes
    ∃ t, exec .reeferReportDequeue s = .next t ∧ t.intake = { s.intake with reefer := rest } ∧ CountsTaken s t e ∧
      (r.kind ≠ 1 ∨ r.tag = 0 → OnlyTouches [.intake, .windows, .reefer] s t ∧
        t.reefer = { s.reefer with rejected := min (s.reefer.rejected + 1) 4294967295 }) ∧
      (r.kind = 1 → r.tag ≠ 0 → NotHeld s r.tag →
        (s.reefer.mode = .manual → OnlyTouches [.intake, .windows, .reefer] s t ∧
          t.reefer = { s.reefer with unknownTags := min (s.reefer.unknownTags + 1) 4294967295 }) ∧
        (s.reefer.mode = .auto → (∀ n, (s.entry n).state ≠ .vacant ∧ (s.entry n).state ≠ .silent) →
          OnlyTouches [.intake, .windows, .reefer, .notice, .arb] s t ∧ StatusIfFlagged .reeferJob s t ∧
          (∀ a, s.reefer.tableFull = some a → s.time.lt < a + 60000000 → t.notice = s.notice ∧
            t.reefer = { s.reefer with dropped := min (s.reefer.dropped + 1) 4294967295 }) ∧
          ((∀ a, s.reefer.tableFull = some a → a + 60000000 ≤ s.time.lt) →
            t.reefer = { s.reefer with
              dropped := min (s.reefer.dropped + 1) 4294967295
              tableFull := some s.time.lt } ∧
            t.notice = (s.notice.take (noticeOf .tableFull 0 s.stamp r.tag t.reefer.dropped
              (s.reefer.inState .excursion))).followed))) ∧
      (∀ n l, r.kind = 1 → r.tag ≠ 0 → Holds s n r.tag → (s.entry n).lastSequence = some l →
        (seqDiff r.sequence l = 0 ∨ 32768 ≤ seqDiff r.sequence l) →
        OnlyTouches [.intake, .windows, .reefer, .arb] s t ∧ t.arb = WithReeferMirror .reeferJob s t n ∧
        t.reefer = { s.reefer with
          entries := upd s.reefer.entries n { s.entry n with
            duplicates := min ((s.entry n).duplicates + 1) 4294967295 } })

/-- A used reefer report, for a held entry or one just enrolled in AUTO: the entry takes the bookkeeping of R120 to R125 and the excursion
arithmetic of R132 to R142, and no other entry and no other field of the table changes. The notices are those of R118, R121, R122, R124
and R143 in step order, with the coverage sample of an entry that has a square and a report that names a serving cell handled between the
bookkeeping and the arithmetic; without a sample the grid and the cranes are unchanged. The mirror record is written once, after the
sample's own writes and before a status block of the event (log entry 8). -/
def Obligations.UsedReeferReport : Prop :=
  ∀ (s : State) (q : QueueEntry) (rest : List QueueEntry) (n : Fin 4096) (e : ReeferEntry), Free .reeferJob s →
    s.intake.reefer = q :: rest → ReportEntry s (ReeferReport.read q.bytes) q.arrival n e →
    let r := ReeferReport.read q.bytes
    (∀ l, e.lastSequence = some l → 1 ≤ seqDiff r.sequence l ∧ seqDiff r.sequence l ≤ 32767) →
    let before := EnrolmentNotices s r n ++ BookkeepingNotices n.val e r q.arrival s.stamp
    let after := ExcursionNotices n.val e (s.criteria e.criteria) r q.arrival s.stamp
    ∃ t, exec .reeferReportDequeue s = .next t ∧
      OnlyTouches [.intake, .windows, .reefer, .grid, .cranes, .notice, .arb] s t ∧
      t.intake = { s.intake with reefer := rest } ∧ CountsTaken s t q ∧
      t.reefer = { s.reefer with
        entries := upd s.reefer.entries n (AfterReport e (s.criteria e.criteria) r q.arrival s.stamp) } ∧
      (e.square = none ∨ r.serving = 0 → t.grid = s.grid ∧ t.cranes = s.cranes ∧
        t.notice = ((before ++ after).foldl NoticeUnit.take s.notice).followed ∧
        ThenStatusIfFlagged .reeferJob s t (WithReeferMirror .reeferJob s t n)) ∧
      ∀ p, e.square = some p → r.serving ≠ 0 →
        let b : State := { s with
          notice := before.foldl NoticeUnit.take s.notice
          scratch := { EventScratch.idle with work := .reeferJob } }
        let u := b.sample (p.val / 4) (p.val % 4) r.serving r.level q.arrival (.reefer n.val)
        t.grid = u.grid ∧ t.cranes = u.cranes ∧ t.notice = (after.foldl NoticeUnit.take u.notice).followed ∧
        ThenStatusIfFlagged .reeferJob s t (match s.mirrorBase .reeferMirror with
          | some m => u.arb.hand .reeferJob ⟨m + 64 * n.val, (t.entry n).mirrorRecord⟩
          | none => u.arb)

/-- SWEEP_VISIT of the entry at the sweep position: an ENROLLED, ACTIVE or EXCURSION entry whose age exceeds its silent limit becomes
SILENT, marked when it was in EXCURSION, with a SILENT notice and its mirror record, before a status block of the event (log entry 8); any
other entry is unchanged. The sweep moves on or ends, its position 0 after the end (log entry 42). -/
def Obligations.SweepVisitSilences : Prop :=
  ∀ (s : State) (n : Fin 4096), Free .silenceSweep s → s.reefer.sweep.inProgress = true →
    s.reefer.sweep.position = n.val →
    let e := s.entry n
    let age := s.time.lt - e.lastHeard
    let due : Prop := (e.state = .enrolled ∨ e.state = .active ∨ e.state = .excursion) ∧
      1000000 * (s.criteria e.criteria).silentLimit < age
    ∃ t, exec .sweepVisit s = .next t ∧ OnlyTouches [.reefer, .notice, .arb] s t ∧
      (¬due → OnlyTouches [.reefer] s t ∧ t.reefer = { s.reefer with sweep := s.reefer.sweep.afterVisit 4096 }) ∧
      (due →
        t.reefer = { s.reefer with
          sweep := s.reefer.sweep.afterVisit 4096
          entries := upd s.reefer.entries n
            { e with state := .silent, wasInExcursion := decide (e.state = .excursion) } } ∧
        t.notice = (s.notice.take (noticeOf .silent n.val s.stamp e.tag (age / 1000000)
          (match e.state with | .enrolled => 1 | .active => 2 | _ => 3))).followed ∧
        ThenStatusIfFlagged .silenceSweep s t (WithReeferMirror .silenceSweep s t n))

/-! ## Chapter 8: Notices, Flags and the Interrupt Line -/

/-- A notice handed to the Notice Unit: discarded without a trace when its kind is not enabled; with a free place it stands behind every
notice of its class and ahead of every lower one; with the queue full it displaces the youngest notice of the lowest class when that ranks
below its own and is dropped otherwise, and the class that loses a notice joins the overflow set with NOTICE_OVERFLOW set. -/
def Obligations.NoticeTaken : Prop :=
  ∀ (u : NoticeUnit) (n : Notice), QueueOrdered u.queue →
    let enabled := u.enables.getLsbD (n.kind.code - 1)
    let joins (before after : List Notice) : Prop := ∃ front back, before = front ++ back ∧ after = front ++ n :: back ∧
      (∀ x ∈ front, x.kind.cls.code ≤ n.kind.cls.code) ∧ (∀ x ∈ back, n.kind.cls.code < x.kind.cls.code)
    let loses (c : Nat) (after : List Notice) : Prop := u.take n = { u with
      queue := after
      overflow := u.overflow ||| (1#5 <<< (c - 1))
      flags := u.flags ||| 0x200#12 }
    (enabled = false → u.take n = u) ∧
    (enabled = true → u.queue.length < 32 → ∃ after, joins u.queue after ∧ u.take n = { u with queue := after }) ∧
    (enabled = true → u.queue.length = 32 → ∀ front last, u.queue = front ++ [last] →
      (n.kind.cls.code < last.kind.cls.code → ∃ after, joins front after ∧ loses last.kind.cls.code after) ∧
      (last.kind.cls.code ≤ n.kind.cls.code → loses n.kind.cls.code u.queue))

/-- NOTICE_POST in a READY ring with room: the head notice leaves the queue, its record goes to the producer's slot of the ring, the
producer index increases by 1, and the status block follows the record. -/
def Obligations.NoticePosted : Prop :=
  ∀ (s : State) (n : Notice) (rest : List Notice), Free .noticePost s → s.notice.ring = .ready →
    s.notice.queue = n :: rest → (s.notice.producer - s.notice.consumer).toNat < s.notice.defLength →
    ∃ t, exec .noticePost s = .next t ∧ OnlyTouches [.notice, .arb] s t ∧
      t.notice = ({ s.notice with queue := rest, producer := s.notice.producer + 1 } : NoticeUnit).followed ∧
      t.arb = (s.arb.hand .noticePost ⟨s.notice.defBase + 32 * (s.notice.producer.toNat % s.notice.defLength),
        n.record s.notice.producer.toNat⟩).hand .noticePost ⟨s.pageAddr 0x200, t.statusBlock⟩

/-- SET_NOTICE_ENABLES, SET_IRQ_ENABLES and CLEAR_FLAGS: refused with BAD_ARGUMENT when a bit beyond their last is set; otherwise the
enables take the word, or the named flags are cleared and, with NOTICE_OVERFLOW, the overflow set, with the status block before the result
record (for CLEAR_FLAGS when something changed), and the interrupt line follows (R147, R154 to R156). -/
def Obligations.EnablesAndFlags : Prop :=
  (∀ s : State, Offered .setNoticeEnables s → ∃ t, exec .setNoticeEnables s = .next t ∧
    (2 ^ 26 ≤ s.arg 1 → Refuses s t .badArgument) ∧
    (s.arg 1 < 2 ^ 26 → OnlyTouches [.notice, .cmd, .arb] s t ∧ ReportsWithStatus s t .done ∧
      t.notice = { s.notice with enables := BitVec.ofNat 26 (s.arg 1) })) ∧
  (∀ s : State, Offered .setIrqEnables s → ∃ t, exec .setIrqEnables s = .next t ∧
    (2 ^ 13 ≤ s.arg 1 → Refuses s t .badArgument) ∧
    (s.arg 1 < 2 ^ 13 → OnlyTouches [.notice, .cmd, .arb] s t ∧ ReportsWithStatus s t .done ∧
      t.notice = ({ s.notice with irqEnables := BitVec.ofNat 13 (s.arg 1) } : NoticeUnit).followed)) ∧
  (∀ s : State, Offered .clearFlags s → ∃ t, exec .clearFlags s = .next t ∧
    (2 ^ 12 ≤ s.arg 1 → Refuses s t .badArgument) ∧
    (s.arg 1 < 2 ^ 12 → OnlyTouches [.notice, .cmd, .arb] s t ∧
      t.notice = ({ s.notice with
        flags := s.notice.flags &&& ~~~BitVec.ofNat 12 (s.arg 1)
        overflow := if (s.arg 1).testBit 9 = true then 0 else s.notice.overflow } : NoticeUnit).followed ∧
      (t.notice.flags = s.notice.flags ∧ t.notice.overflow = s.notice.overflow → Reports s t .done) ∧
      (¬(t.notice.flags = s.notice.flags ∧ t.notice.overflow = s.notice.overflow) → ReportsWithStatus s t .done)))

/-- A permitted write of the control page, presented as a WRITE_TRANSFER or as one of the rows RING_BASE_WRITE, RING_LENGTH_WRITE,
CONSUMER_INDEX_WRITE and CONTROL_PAGE_WRITE: each written byte goes into the copies, a byte of the tag word sets the offer mark, the pair
rule and the judgement of R150, R151 and R153 move the ring, the write is forwarded unaltered (a row for one word writes no byte but that
word's, log entry 26), and the status block follows a completion, a change of ring state or a flag. -/
def Obligations.PageWritePermitted : Prop :=
  ∀ (c : Instr) (m : MasterId) (a : Address) (l : List Lane) (s : State) (off : Nat), PresentsWrite s c m a l →
    (Transfer.write m a l).wf = true → s.inReset = false → Settled s → s.pageOffset a.toNat = some off →
    (∀ j x, l[j]? = some x → x.strobe = true →
      ¬((off + j < 0x44 ∧ m ≠ s.cpid) ∨ (0x80 ≤ off + j ∧ off + j < 0xA0) ∨ (0x200 ≤ off + j ∧ off + j < 0x260) ∨
        (0x400 ≤ off + j ∧ off + j < 0x600))) →
    ∃ t v, exec c s = .next t ∧ OnlyTouches [.cmd, .notice, .arb] s t ∧
      t.cmd = { s.cmd with
        recordCopy := CopiedFrom s.cmd.recordCopy off l 0
        tagCopy := CopiedFrom s.cmd.tagCopy off l 0x40
        offerMark := s.cmd.offerMark || PageTouches off l 0x40 4 } ∧
      RingAfterWrite s s.notice v off l ∧ t.notice = v.followed ∧
      let due : Prop := PairCompletes s.notice (PageTouches off l 0x100 8) (PageTouches off l 0x108 4) ∨
        v.ring ≠ s.notice.ring ∨ v.flags ≠ s.notice.flags
      (¬due → ForwardsWrite s m a l t.arb) ∧
      (due → t.arb = Arbiter.hand { s.arb with passing := s.arb.passing ++ [.write m a l] } .other
        ⟨s.pageAddr 0x200, t.statusBlock⟩)

/-- The ring's marks, state, length in force and indices stay as R150 to R153 relate them, through every step; producer − consumer never
exceeds the length in force. -/
def Obligations.RingDefinitionKept : Prop := ∀ s t : State, RingWf s → step s = .next t → RingWf t

/-! ## Chapter 9: Control Page and Commands -/

/-- The offers that take no command of the table: OFFER_JUDGEMENT of a tag equal to the last taken one clears the mark and nothing else;
UNKNOWN_COMMAND takes a code that names no command and reports it; BUSY_REFUSAL in LONG leaves the last taken tag and every block and
makes the busy report. -/
def Obligations.OffersJudged : Prop :=
  (∀ s : State, Free .command s → s.cmd.offerMark = true → s.cmd.tag = s.cmd.lastTaken →
    exec .offerJudgement s = .next { s with cmd := { s.cmd with offerMark := false } }) ∧
  (∀ s : State, Free .command s → s.cmd.offerMark = true → s.cmd.tag ≠ s.cmd.lastTaken → s.cmd.state = .idle →
    (s.cmd.code = 0 ∨ 27 < s.cmd.code) → ∃ t, exec .unknownCommand s = .next t ∧ Refuses s t .unknownCommand) ∧
  (∀ s : State, Free .command s → s.cmd.offerMark = true → s.cmd.tag ≠ s.cmd.lastTaken → s.cmd.state = .long →
    s.cmd.code ∉ [8, 9, 22, 23, 24, 27] → ∃ t, exec .busyRefusal s = .next t ∧ OnlyTouches [.cmd, .arb] s t ∧
      t.cmd = { s.cmd with offerMark := false, busyReport := ⟨s.cmd.tag, .busy⟩ } ∧
      t.arb = s.arb.hand .command ⟨s.pageAddr 0x80, t.cmd.resultRecord⟩)

/-- The long operations: REFRESH_MIRROR and CLEAR_GRID at their taking; REFRESH_VISIT, which writes the record at the refresh position from
the table as it stands and moves on; and LONG_OPERATION_END after the last visit. The status block comes before the result record at the
taking and at the end. A held write of the taking keeps neither a visit nor the end back (log entry 40). The own writes of the end are the
Command Unit's (log entry 28), and the clear position and the refresh position are 0 after it (log entries 37 and 39). -/
def Obligations.LongOperations : Prop :=
  (∀ s : State, Offered .refreshMirror s → ∃ t, exec .refreshMirror s = .next t ∧
    (s.arg 1 ≠ 7 → s.arg 1 ≠ 8 → s.arg 1 ≠ 9 → Refuses s t .badArgument) ∧
    ∀ (m : MirrorKind) (k : WindowKind), ((m = .reefer ∧ k = .reeferMirror) ∨ (m = .grid ∧ k = .gridMirror) ∨
        (m = .crane ∧ k = .craneMirror)) → k.code = s.arg 1 →
      ((∀ w, (s.window w).inUse = true → (s.window w).kind ≠ some k) → Refuses s t .notFound) ∧
      (∀ w, (s.window w).inUse = true → (s.window w).kind = some k →
        OnlyTouches [.mirror, .cmd, .arb] s t ∧ t.mirror = { target := some m, position := 0 } ∧ t.cmd = s.cmd.started ∧
        t.arb = (s.arb.hand .command ⟨s.pageAddr 0x200, t.statusBlock⟩).hand .command
          ⟨s.pageAddr 0x80, t.cmd.resultRecord⟩)) ∧
  (∀ s : State, Offered .clearGrid s → ∃ t, exec .clearGrid s = .next t ∧ OnlyTouches [.grid, .cmd, .arb] s t ∧
    t.grid = { s.grid with clearing := true, clearPosition := 0 } ∧ t.cmd = s.cmd.started ∧
    t.arb = (s.arb.hand .command ⟨s.pageAddr 0x200, t.statusBlock⟩).hand .command ⟨s.pageAddr 0x80, t.cmd.resultRecord⟩) ∧
  (∀ (s : State) (k : MirrorKind), Free .longOperation s → s.mirror.target = some k →
    s.mirror.position < (match k with | .reefer => 4096 | .grid => 512 | .crane => 16) →
    ∃ t, exec .refreshVisit s = .next t ∧ OnlyTouches [.mirror, .arb] s t ∧
      t.mirror = { target := some k, position := s.mirror.position + 1 } ∧ RefreshWrite s k s.mirror.position t.arb) ∧
  (∀ s : State, Free .longOperation s → s.cmd.state = .long →
    ((s.grid.clearing = true ∧ s.grid.clearPosition = 512) ∨ (s.mirror.target = some .reefer ∧ s.mirror.position = 4096) ∨
      (s.mirror.target = some .grid ∧ s.mirror.position = 512) ∨
      (s.mirror.target = some .crane ∧ s.mirror.position = 16)) →
    ∃ t, exec .longOperationEnd s = .next t ∧ OnlyTouches [.grid, .mirror, .cmd, .arb] s t ∧
      t.grid = { s.grid with clearing := false, clearPosition := 0 } ∧ t.mirror = { target := none, position := 0 } ∧
      t.cmd = s.cmd.closed .done ∧
      t.arb = (s.arb.hand .command ⟨s.pageAddr 0x200, t.statusBlock⟩).hand .command
        ⟨s.pageAddr 0x80, t.cmd.resultRecord⟩)

/-- READ_COUNTERS writes the four counters of the 32 window entries, zeros for an entry not in use, in two own writes in address order
before its result record, and changes no counter. CLEAR_COUNTERS sets the window, coverage and reefer counters and the entries' counts to
0 and clears the counted marks of the queued records, and writes nothing but its result record. -/
def Obligations.CounterCommands : Prop :=
  (∀ s : State, Offered .readCounters s →
    let snapshot := (List.finRange 32).flatMap fun i => if (s.window i).inUse = true then
      leBytes 4 (s.window i).taken ++ leBytes 4 (s.window i).missed ++ leBytes 4 (s.window i).torn ++
        leBytes 4 (s.window i).blocked else List.replicate 16 0
    ∃ t, exec .readCounters s = .next t ∧ OnlyTouches [.cmd, .arb] s t ∧ t.cmd = s.cmd.reported .done ∧
      t.arb = ((s.arb.hand .command ⟨s.pageAddr 0x400, snapshot.take 256⟩).hand .command
        ⟨s.pageAddr 0x500, snapshot.drop 256⟩).hand .command ⟨s.pageAddr 0x80, t.cmd.resultRecord⟩) ∧
  (∀ s : State, Offered .clearCounters s →
    ∃ t, exec .clearCounters s = .next t ∧ OnlyTouches [.windows, .intake, .grid, .reefer, .cmd, .arb] s t ∧
      Reports s t .done ∧
      (∀ i, t.window i = { s.window i with taken := 0, missed := 0, torn := 0, blocked := 0 }) ∧
      Uncounted s.intake.uplink t.intake.uplink ∧ Uncounted s.intake.reefer t.intake.reefer ∧
      Uncounted s.intake.measure t.intake.measure ∧ Uncounted s.intake.time t.intake.time ∧
      t.grid = { s.grid with unknownCells := 0, measureUsed := 0, measureRejected := 0, measureClamped := 0 } ∧
      t.reefer = { s.reefer with unknownTags := 0, dropped := 0, rejected := 0, entries := t.reefer.entries } ∧
      ∀ n, t.entry n = { s.entry n with reports := 0, missed := 0, duplicates := 0 })

/-- RESTART: every block's changes at once. The capture and TL go and SYNCED becomes HOLDOVER; the queued records are discarded and counted
as missed for their windows; every attached crane becomes LOST with its link history and slots emptied; the pending notices go; a pass in
progress starts over; a long operation is aborted, and the clear position is 0 (log entry 37). The own writes are its ABORTED result record,
the mirror records of the attached cranes in index order while a CRANE_MIRROR window is in use, the status block, and RESTART's result record
(log entry 18). A record that a job unit has in hand (the free choice of log entry 33) is the oldest of its queue, counted as taken and not as
missed; after RESTART an uplink record in hand is discarded without an outcome, a VALUE in hand fails with WRONG_MARK, and a measurement
record or report in hand is handled as a dequeue of it would handle it. -/
def Obligations.RestartResult : Prop :=
  (∀ s : State, Offered .restart s →
    let h := s.inHand
    let p := s.pickUp h
    let c := if s.cmd.state = .long then s.cmd.closed .aborted else s.cmd
    let aborted := if s.cmd.state = .long then s.arb.hand .command ⟨s.pageAddr 0x80, c.resultRecord⟩ else s.arb
    PickedUp s p h ∧ (∀ e, h.time = some e → (TimeMessage.read e.bytes).kind = 2) ∧
    ∃ u, exec .restart s = .next (((u.handleLater .measureJob h.measure State.measureRecord).handleLater .reeferJob h.reefer
        State.reeferRecord).handleLater .timeJob h.time State.timeRecord) ∧
      u.inReset = s.inReset ∧ u.cpb = s.cpb ∧ u.cpid = s.cpid ∧ u.pending = s.pending ∧ u.port = s.port ∧
      u.restarts = s.restarts + 1 ∧ Settled u ∧
      u.time = { s.time with
        capture := none
        tl := none
        sync := if s.time.sync = .synced then .holdover else s.time.sync } ∧
      u.intake = { uplink := [], reefer := [], measure := [], time := [] } ∧
      (∀ i, u.window i = if (s.window i).inUse = true ∧ MissedAtRestart p i ≠ 0 then
        { p.window i with missed := min ((s.window i).missed + MissedAtRestart p i) 4294967295 } else p.window i) ∧
      (∀ i, ((s.crane i).link ≠ .dormant → u.crane i = (s.crane i).afterRestart) ∧
        ((s.crane i).link = .dormant → (s.crane i).slots = none → u.crane i = s.crane i)) ∧
      u.grid = { s.grid with
        clearing := false
        clearPosition := 0
        aging := { s.grid.aging with
          position := if s.grid.aging.inProgress = true then 0 else s.grid.aging.position } } ∧
      u.reefer = { s.reefer with
        sweep := { s.reefer.sweep with
          position := if s.reefer.sweep.inProgress = true then 0 else s.reefer.sweep.position } } ∧
      u.notice = { s.notice with queue := [] } ∧ u.mirror = { target := none, position := 0 } ∧
      u.cmd = c.reported .done ∧
      u.arb = (((List.finRange 16).foldl (fun a i => if (s.crane i).link = .dormant then a else WithCraneMirror .command a u i)
        aborted).hand .command ⟨s.pageAddr 0x200, u.statusBlock⟩).hand .command ⟨s.pageAddr 0x80, u.cmd.resultRecord⟩) ∧
  (∀ (u : State) (k : Work) (f : State → List Byte → Nat → State), u.handleLater k none f = u) ∧
  (∀ (u : State) (e : QueueEntry), u.inReset = false → Settled u → u.time.capture = none →
    (TimeMessage.read e.bytes).kind = 2 → ∃ t, t = u.handleLater .timeJob (some e) State.timeRecord ∧
      (u.time.run = .stopped → t = u) ∧
      (u.time.run = .running → OnlyTouches [.notice, .arb] u t ∧ StatusIfFlagged .timeJob u t ∧
        t.notice = (({ u.notice with flags := u.notice.flags ||| 0x080#12 } : NoticeUnit).take
          (noticeOf .timeViolation 0 u.stamp 2 (TimeMessage.read e.bytes).mark 65536)).followed)) ∧
  (∀ (u : State) (e : QueueEntry), Free .measureJob u → u.intake.measure = [] → e.counted = false →
    exec .measurementRecordDequeue { u with intake := { u.intake with measure := [e] } } =
      .next (u.handleLater .measureJob (some e) State.measureRecord)) ∧
  (∀ (u : State) (e : QueueEntry), Free .reeferJob u → u.intake.reefer = [] → e.counted = false →
    exec .reeferReportDequeue { u with intake := { u.intake with reefer := [e] } } =
      .next (u.handleLater .reeferJob (some e) State.reeferRecord))

/-- Reset. RESET_ASSERTION stops the ports, lowers the interrupt line and loses the transfers in flight and the own writes; while RST_N is
asserted a presented transfer waits, the writes of the four page-write rows with it at the address of the page by the CPB sampled last (log
entries 20, 26 and 41), and every event of the part does nothing (log entry 23). POWER_ON_RESET, which is taken as a pulse of RST_N where
it is not asserted (log entry 22), samples the straps and gives every block its power-on values (the model's own of log entries 24, 25, 33,
37 and 38 among them), and the transfers that waited are handled after it, the first presented first (log entry 7). -/
def Obligations.ResetBehaviour : Prop :=
  (∀ s : State, s.inReset = false → exec .resetAssertion s = .next { s with
    inReset := true
    notice := { s.notice with irq := false }
    arb := { passing := [], own := [], held := [], letOut := false, inFlight := [] } }) ∧
  ((∀ (x : Transfer) (s : State), x.wf = true → s.inReset = true →
    exec (match x with | .read m a n => .readTransfer m a n | .write m a l => .writeTransfer m a l) s =
      .next { s with port := { s.port with waiting := s.port.waiting ++ [x] } }) ∧
  (∀ (c : Instr) (m : MasterId) (a : Address) (l : List Lane) (s : State), PresentsWrite s c m a l →
    (Transfer.write m a l).wf = true → s.inReset = true →
    exec c s = .next { s with port := { s.port with waiting := s.port.waiting ++ [.write m a l] } })) ∧
  (∀ (c : Instr) (s : State), s.inReset = true → (∀ b m, c ≠ .powerOnReset b m) → (∀ m a n, c ≠ .readTransfer m a n) →
    (∀ m a l, c ≠ .writeTransfer m a l) → (∀ m l, c ≠ .ringBaseWrite m l) → (∀ m l, c ≠ .ringLengthWrite m l) →
    (∀ m l, c ≠ .consumerIndexWrite m l) → (∀ m b l, c ≠ .controlPageWrite m b l) → exec c s = .next s) ∧
  (∀ (b : BitVec 16) (m : BitVec 6) (s : State), s.port.waiting = [] →
    ∃ t, exec (.powerOnReset b m) s = .next t ∧
      t = { State.reset with cpb := b, cpid := m, restarts := s.restarts, pending := s.pending } ∧
      t.inReset = false ∧ t.time.lt = 0 ∧ t.time.run = .stopped ∧ t.time.sync = .unset ∧ t.time.oc = 0 ∧ t.time.slew = 0 ∧
      t.time.tl = none ∧ t.time.capture = none ∧ t.time.lastSuccess = none ∧
      t.time.interval = 1000 ∧ t.time.linkDelay = 0 ∧ t.time.threshold = 1000 ∧ t.time.continuity = false ∧
      (∀ i, t.window i = Window.cleared) ∧ t.arb = { passing := [], own := [], held := [], letOut := false, inFlight := [] } ∧
      t.port = { waiting := [], responses := [] } ∧ t.intake = { uplink := [], reefer := [], measure := [], time := [] } ∧
      (∀ i, t.crane i = Crane.cleared) ∧ (∀ c, t.grid.cells.get c = none) ∧
      (∀ q, t.square q = { entries := Vector.replicate 24 .absent, state := .unknown, best := none, bestEstimate := none,
                           lastChange := none }) ∧
      t.grid.params = { holeEnter := -240, holeExit := -232, marginalEnter := -220, marginalExit := -212, ageLimit := 600,
                        steerMargin := 12, steerHoldoff := 10, segmentCount := 128 } ∧
      t.grid.aging.inProgress = false ∧ t.grid.aging.position = 0 ∧ t.grid.aging.startHeld = false ∧ t.grid.clearing = false ∧
      t.grid.clearPosition = 0 ∧
      (∀ p, t.grid.limiter.get p = none) ∧ t.grid.unknownCells = 0 ∧ t.grid.measureUsed = 0 ∧ t.grid.measureRejected = 0 ∧
      t.grid.measureClamped = 0 ∧
      (∀ n, t.entry n = ReeferEntry.cleared) ∧
      (∀ i, t.criteria i = { upper := 200, lower := 200, shift := 2, limit := 3000, settle := 2, elapsedCap := 1800,
                             defrostAllowance := 45, silentLimit := 1800 }) ∧
      t.reefer.mode = .manual ∧ t.reefer.sweep.inProgress = false ∧ t.reefer.sweep.position = 0 ∧
      t.reefer.sweep.startHeld = false ∧ t.reefer.tableFull = none ∧
      t.reefer.unknownTags = 0 ∧ t.reefer.dropped = 0 ∧ t.reefer.rejected = 0 ∧
      t.notice.enables = 0 ∧ t.notice.queue = [] ∧ t.notice.baseCopy = Vector.replicate 8 0 ∧
      t.notice.lengthCopy = Vector.replicate 4 0 ∧ t.notice.consumerCopy = Vector.replicate 4 0 ∧ t.notice.baseMark = false ∧
      t.notice.lengthMark = false ∧ t.notice.ring = .undefined ∧ t.notice.defBase = 0 ∧ t.notice.defLength = 0 ∧
      t.notice.lengthInForce = 0 ∧ t.notice.producer = 0 ∧ t.notice.consumer = 0 ∧ t.notice.overflow = 0 ∧
      t.notice.flags = 0 ∧ t.notice.irqEnables = 0 ∧ t.notice.irq = false ∧ t.cmd.state = .idle ∧ t.cmd.busy = false ∧
      t.cmd.lastTaken = 0 ∧ t.cmd.recordCopy = Vector.replicate 64 0 ∧ t.cmd.tagCopy = Vector.replicate 4 0 ∧ t.cmd.tag = 0 ∧
      t.cmd.offerMark = false ∧ t.cmd.commandReport = ⟨0, .none⟩ ∧ t.cmd.longReport = ⟨0, .none⟩ ∧
      t.cmd.busyReport = ⟨0, .none⟩ ∧ t.mirror = { target := none, position := 0 }) ∧
  (∀ (b : BitVec 16) (m : BitVec 6) (s t : State) (l : List Transfer) (x : Transfer), x.wf = true →
    exec (.powerOnReset b m) { s with port := { s.port with waiting := l } } = .next t →
    exec (.powerOnReset b m) { s with port := { s.port with waiting := l ++ [x] } } =
      exec (match x with | .read m a n => .readTransfer m a n | .write m a l => .writeTransfer m a l) t)

/-- LONG, the busy indication, the long report and the block at work agree through every step, and at most one long operation runs; the
refresh position is 0 while no refresh runs (after the end of one, log entry 39). -/
def Obligations.BusyConsistentKept : Prop := ∀ s t : State, BusyWf s → step s = .next t → BusyWf t

/-- Every queue keeps within its capacity through every step, and the pending notices stay in class priority order. -/
def Obligations.BuffersKept : Prop := ∀ s t : State, BuffersWf s → step s = .next t → BuffersWf t

/-- The reset state satisfies every invariant of these statements. -/
def Obligations.ResetMeetsInvariants : Prop :=
  Settled State.reset ∧ TimeInRange State.reset.time ∧ WindowsApart State.reset ∧ TablesFit State.reset ∧
  (∀ i, PendingWf (State.reset.crane i)) ∧ NoLinkedCraneInWeakSquare State.reset ∧ CraneIdsDistinct State.reset ∧
  LinkedCraneHeard State.reset ∧ CellsDistinct State.reset ∧ TagsDistinct State.reset ∧
  (∀ q, SummaryFits (State.reset.square q)) ∧ (∀ q c, EstimateInRange ((State.reset.square q).entries.get c)) ∧
  (∀ n, EntryInRange (State.reset.entry n)) ∧ (∀ i, CriteriaInRange (State.reset.criteria i)) ∧ RingWf State.reset ∧
  BusyWf State.reset ∧ BuffersWf State.reset
end

