-- ==== Sys2Proof/Laws/State.lean ====
section
/-! SUPPORT. One lemma for each field after each block update, and for the entries of the tables after an entry update. -/

namespace Sys2Proof.Machine

variable (s : State)

@[simp] theorem State.setTime_inReset (t : TimeBase) : (s.setTime t).inReset = s.inReset := (rfl)
@[simp] theorem State.setTime_cpb (t : TimeBase) : (s.setTime t).cpb = s.cpb := (rfl)
@[simp] theorem State.setTime_cpid (t : TimeBase) : (s.setTime t).cpid = s.cpid := (rfl)
@[simp] theorem State.setTime_time (t : TimeBase) : (s.setTime t).time = t := (rfl)
@[simp] theorem State.setTime_windows (t : TimeBase) : (s.setTime t).windows = s.windows := (rfl)
@[simp] theorem State.setTime_intake (t : TimeBase) : (s.setTime t).intake = s.intake := (rfl)
@[simp] theorem State.setTime_arb (t : TimeBase) : (s.setTime t).arb = s.arb := (rfl)
@[simp] theorem State.setTime_port (t : TimeBase) : (s.setTime t).port = s.port := (rfl)
@[simp] theorem State.setTime_cranes (t : TimeBase) : (s.setTime t).cranes = s.cranes := (rfl)
@[simp] theorem State.setTime_grid (t : TimeBase) : (s.setTime t).grid = s.grid := (rfl)
@[simp] theorem State.setTime_reefer (t : TimeBase) : (s.setTime t).reefer = s.reefer := (rfl)
@[simp] theorem State.setTime_notice (t : TimeBase) : (s.setTime t).notice = s.notice := (rfl)
@[simp] theorem State.setTime_cmd (t : TimeBase) : (s.setTime t).cmd = s.cmd := (rfl)
@[simp] theorem State.setTime_mirror (t : TimeBase) : (s.setTime t).mirror = s.mirror := (rfl)
@[simp] theorem State.setTime_scratch (t : TimeBase) : (s.setTime t).scratch = s.scratch := (rfl)
@[simp] theorem State.setTime_restarts (t : TimeBase) : (s.setTime t).restarts = s.restarts := (rfl)
@[simp] theorem State.setTime_pending (t : TimeBase) : (s.setTime t).pending = s.pending := (rfl)

@[simp] theorem State.setWindows_inReset (w : Vector Window 32) : (s.setWindows w).inReset = s.inReset := (rfl)
@[simp] theorem State.setWindows_cpb (w : Vector Window 32) : (s.setWindows w).cpb = s.cpb := (rfl)
@[simp] theorem State.setWindows_cpid (w : Vector Window 32) : (s.setWindows w).cpid = s.cpid := (rfl)
@[simp] theorem State.setWindows_time (w : Vector Window 32) : (s.setWindows w).time = s.time := (rfl)
@[simp] theorem State.setWindows_windows (w : Vector Window 32) : (s.setWindows w).windows = w := (rfl)
@[simp] theorem State.setWindows_intake (w : Vector Window 32) : (s.setWindows w).intake = s.intake := (rfl)
@[simp] theorem State.setWindows_arb (w : Vector Window 32) : (s.setWindows w).arb = s.arb := (rfl)
@[simp] theorem State.setWindows_port (w : Vector Window 32) : (s.setWindows w).port = s.port := (rfl)
@[simp] theorem State.setWindows_cranes (w : Vector Window 32) : (s.setWindows w).cranes = s.cranes := (rfl)
@[simp] theorem State.setWindows_grid (w : Vector Window 32) : (s.setWindows w).grid = s.grid := (rfl)
@[simp] theorem State.setWindows_reefer (w : Vector Window 32) : (s.setWindows w).reefer = s.reefer := (rfl)
@[simp] theorem State.setWindows_notice (w : Vector Window 32) : (s.setWindows w).notice = s.notice := (rfl)
@[simp] theorem State.setWindows_cmd (w : Vector Window 32) : (s.setWindows w).cmd = s.cmd := (rfl)
@[simp] theorem State.setWindows_mirror (w : Vector Window 32) : (s.setWindows w).mirror = s.mirror := (rfl)
@[simp] theorem State.setWindows_scratch (w : Vector Window 32) : (s.setWindows w).scratch = s.scratch := (rfl)
@[simp] theorem State.setWindows_restarts (w : Vector Window 32) : (s.setWindows w).restarts = s.restarts := (rfl)
@[simp] theorem State.setWindows_pending (w : Vector Window 32) : (s.setWindows w).pending = s.pending := (rfl)

@[simp] theorem State.setIntake_inReset (q : Intake) : (s.setIntake q).inReset = s.inReset := (rfl)
@[simp] theorem State.setIntake_cpb (q : Intake) : (s.setIntake q).cpb = s.cpb := (rfl)
@[simp] theorem State.setIntake_cpid (q : Intake) : (s.setIntake q).cpid = s.cpid := (rfl)
@[simp] theorem State.setIntake_time (q : Intake) : (s.setIntake q).time = s.time := (rfl)
@[simp] theorem State.setIntake_windows (q : Intake) : (s.setIntake q).windows = s.windows := (rfl)
@[simp] theorem State.setIntake_intake (q : Intake) : (s.setIntake q).intake = q := (rfl)
@[simp] theorem State.setIntake_arb (q : Intake) : (s.setIntake q).arb = s.arb := (rfl)
@[simp] theorem State.setIntake_port (q : Intake) : (s.setIntake q).port = s.port := (rfl)
@[simp] theorem State.setIntake_cranes (q : Intake) : (s.setIntake q).cranes = s.cranes := (rfl)
@[simp] theorem State.setIntake_grid (q : Intake) : (s.setIntake q).grid = s.grid := (rfl)
@[simp] theorem State.setIntake_reefer (q : Intake) : (s.setIntake q).reefer = s.reefer := (rfl)
@[simp] theorem State.setIntake_notice (q : Intake) : (s.setIntake q).notice = s.notice := (rfl)
@[simp] theorem State.setIntake_cmd (q : Intake) : (s.setIntake q).cmd = s.cmd := (rfl)
@[simp] theorem State.setIntake_mirror (q : Intake) : (s.setIntake q).mirror = s.mirror := (rfl)
@[simp] theorem State.setIntake_scratch (q : Intake) : (s.setIntake q).scratch = s.scratch := (rfl)
@[simp] theorem State.setIntake_restarts (q : Intake) : (s.setIntake q).restarts = s.restarts := (rfl)
@[simp] theorem State.setIntake_pending (q : Intake) : (s.setIntake q).pending = s.pending := (rfl)

@[simp] theorem State.setArb_inReset (a : Arbiter) : (s.setArb a).inReset = s.inReset := (rfl)
@[simp] theorem State.setArb_cpb (a : Arbiter) : (s.setArb a).cpb = s.cpb := (rfl)
@[simp] theorem State.setArb_cpid (a : Arbiter) : (s.setArb a).cpid = s.cpid := (rfl)
@[simp] theorem State.setArb_time (a : Arbiter) : (s.setArb a).time = s.time := (rfl)
@[simp] theorem State.setArb_windows (a : Arbiter) : (s.setArb a).windows = s.windows := (rfl)
@[simp] theorem State.setArb_intake (a : Arbiter) : (s.setArb a).intake = s.intake := (rfl)
@[simp] theorem State.setArb_arb (a : Arbiter) : (s.setArb a).arb = a := (rfl)
@[simp] theorem State.setArb_port (a : Arbiter) : (s.setArb a).port = s.port := (rfl)
@[simp] theorem State.setArb_cranes (a : Arbiter) : (s.setArb a).cranes = s.cranes := (rfl)
@[simp] theorem State.setArb_grid (a : Arbiter) : (s.setArb a).grid = s.grid := (rfl)
@[simp] theorem State.setArb_reefer (a : Arbiter) : (s.setArb a).reefer = s.reefer := (rfl)
@[simp] theorem State.setArb_notice (a : Arbiter) : (s.setArb a).notice = s.notice := (rfl)
@[simp] theorem State.setArb_cmd (a : Arbiter) : (s.setArb a).cmd = s.cmd := (rfl)
@[simp] theorem State.setArb_mirror (a : Arbiter) : (s.setArb a).mirror = s.mirror := (rfl)
@[simp] theorem State.setArb_scratch (a : Arbiter) : (s.setArb a).scratch = s.scratch := (rfl)
@[simp] theorem State.setArb_restarts (a : Arbiter) : (s.setArb a).restarts = s.restarts := (rfl)
@[simp] theorem State.setArb_pending (a : Arbiter) : (s.setArb a).pending = s.pending := (rfl)

@[simp] theorem State.setPort_inReset (p : UpstreamPort) : (s.setPort p).inReset = s.inReset := (rfl)
@[simp] theorem State.setPort_cpb (p : UpstreamPort) : (s.setPort p).cpb = s.cpb := (rfl)
@[simp] theorem State.setPort_cpid (p : UpstreamPort) : (s.setPort p).cpid = s.cpid := (rfl)
@[simp] theorem State.setPort_time (p : UpstreamPort) : (s.setPort p).time = s.time := (rfl)
@[simp] theorem State.setPort_windows (p : UpstreamPort) : (s.setPort p).windows = s.windows := (rfl)
@[simp] theorem State.setPort_intake (p : UpstreamPort) : (s.setPort p).intake = s.intake := (rfl)
@[simp] theorem State.setPort_arb (p : UpstreamPort) : (s.setPort p).arb = s.arb := (rfl)
@[simp] theorem State.setPort_port (p : UpstreamPort) : (s.setPort p).port = p := (rfl)
@[simp] theorem State.setPort_cranes (p : UpstreamPort) : (s.setPort p).cranes = s.cranes := (rfl)
@[simp] theorem State.setPort_grid (p : UpstreamPort) : (s.setPort p).grid = s.grid := (rfl)
@[simp] theorem State.setPort_reefer (p : UpstreamPort) : (s.setPort p).reefer = s.reefer := (rfl)
@[simp] theorem State.setPort_notice (p : UpstreamPort) : (s.setPort p).notice = s.notice := (rfl)
@[simp] theorem State.setPort_cmd (p : UpstreamPort) : (s.setPort p).cmd = s.cmd := (rfl)
@[simp] theorem State.setPort_mirror (p : UpstreamPort) : (s.setPort p).mirror = s.mirror := (rfl)
@[simp] theorem State.setPort_scratch (p : UpstreamPort) : (s.setPort p).scratch = s.scratch := (rfl)
@[simp] theorem State.setPort_restarts (p : UpstreamPort) : (s.setPort p).restarts = s.restarts := (rfl)
@[simp] theorem State.setPort_pending (p : UpstreamPort) : (s.setPort p).pending = s.pending := (rfl)

@[simp] theorem State.setCranes_inReset (c : Vector Crane 16) : (s.setCranes c).inReset = s.inReset := (rfl)
@[simp] theorem State.setCranes_cpb (c : Vector Crane 16) : (s.setCranes c).cpb = s.cpb := (rfl)
@[simp] theorem State.setCranes_cpid (c : Vector Crane 16) : (s.setCranes c).cpid = s.cpid := (rfl)
@[simp] theorem State.setCranes_time (c : Vector Crane 16) : (s.setCranes c).time = s.time := (rfl)
@[simp] theorem State.setCranes_windows (c : Vector Crane 16) : (s.setCranes c).windows = s.windows := (rfl)
@[simp] theorem State.setCranes_intake (c : Vector Crane 16) : (s.setCranes c).intake = s.intake := (rfl)
@[simp] theorem State.setCranes_arb (c : Vector Crane 16) : (s.setCranes c).arb = s.arb := (rfl)
@[simp] theorem State.setCranes_port (c : Vector Crane 16) : (s.setCranes c).port = s.port := (rfl)
@[simp] theorem State.setCranes_cranes (c : Vector Crane 16) : (s.setCranes c).cranes = c := (rfl)
@[simp] theorem State.setCranes_grid (c : Vector Crane 16) : (s.setCranes c).grid = s.grid := (rfl)
@[simp] theorem State.setCranes_reefer (c : Vector Crane 16) : (s.setCranes c).reefer = s.reefer := (rfl)
@[simp] theorem State.setCranes_notice (c : Vector Crane 16) : (s.setCranes c).notice = s.notice := (rfl)
@[simp] theorem State.setCranes_cmd (c : Vector Crane 16) : (s.setCranes c).cmd = s.cmd := (rfl)
@[simp] theorem State.setCranes_mirror (c : Vector Crane 16) : (s.setCranes c).mirror = s.mirror := (rfl)
@[simp] theorem State.setCranes_scratch (c : Vector Crane 16) : (s.setCranes c).scratch = s.scratch := (rfl)
@[simp] theorem State.setCranes_restarts (c : Vector Crane 16) : (s.setCranes c).restarts = s.restarts := (rfl)
@[simp] theorem State.setCranes_pending (c : Vector Crane 16) : (s.setCranes c).pending = s.pending := (rfl)

@[simp] theorem State.setGrid_inReset (g : Grid) : (s.setGrid g).inReset = s.inReset := (rfl)
@[simp] theorem State.setGrid_cpb (g : Grid) : (s.setGrid g).cpb = s.cpb := (rfl)
@[simp] theorem State.setGrid_cpid (g : Grid) : (s.setGrid g).cpid = s.cpid := (rfl)
@[simp] theorem State.setGrid_time (g : Grid) : (s.setGrid g).time = s.time := (rfl)
@[simp] theorem State.setGrid_windows (g : Grid) : (s.setGrid g).windows = s.windows := (rfl)
@[simp] theorem State.setGrid_intake (g : Grid) : (s.setGrid g).intake = s.intake := (rfl)
@[simp] theorem State.setGrid_arb (g : Grid) : (s.setGrid g).arb = s.arb := (rfl)
@[simp] theorem State.setGrid_port (g : Grid) : (s.setGrid g).port = s.port := (rfl)
@[simp] theorem State.setGrid_cranes (g : Grid) : (s.setGrid g).cranes = s.cranes := (rfl)
@[simp] theorem State.setGrid_grid (g : Grid) : (s.setGrid g).grid = g := (rfl)
@[simp] theorem State.setGrid_reefer (g : Grid) : (s.setGrid g).reefer = s.reefer := (rfl)
@[simp] theorem State.setGrid_notice (g : Grid) : (s.setGrid g).notice = s.notice := (rfl)
@[simp] theorem State.setGrid_cmd (g : Grid) : (s.setGrid g).cmd = s.cmd := (rfl)
@[simp] theorem State.setGrid_mirror (g : Grid) : (s.setGrid g).mirror = s.mirror := (rfl)
@[simp] theorem State.setGrid_scratch (g : Grid) : (s.setGrid g).scratch = s.scratch := (rfl)
@[simp] theorem State.setGrid_restarts (g : Grid) : (s.setGrid g).restarts = s.restarts := (rfl)
@[simp] theorem State.setGrid_pending (g : Grid) : (s.setGrid g).pending = s.pending := (rfl)

@[simp] theorem State.setReefer_inReset (r : ReeferTable) : (s.setReefer r).inReset = s.inReset := (rfl)
@[simp] theorem State.setReefer_cpb (r : ReeferTable) : (s.setReefer r).cpb = s.cpb := (rfl)
@[simp] theorem State.setReefer_cpid (r : ReeferTable) : (s.setReefer r).cpid = s.cpid := (rfl)
@[simp] theorem State.setReefer_time (r : ReeferTable) : (s.setReefer r).time = s.time := (rfl)
@[simp] theorem State.setReefer_windows (r : ReeferTable) : (s.setReefer r).windows = s.windows := (rfl)
@[simp] theorem State.setReefer_intake (r : ReeferTable) : (s.setReefer r).intake = s.intake := (rfl)
@[simp] theorem State.setReefer_arb (r : ReeferTable) : (s.setReefer r).arb = s.arb := (rfl)
@[simp] theorem State.setReefer_port (r : ReeferTable) : (s.setReefer r).port = s.port := (rfl)
@[simp] theorem State.setReefer_cranes (r : ReeferTable) : (s.setReefer r).cranes = s.cranes := (rfl)
@[simp] theorem State.setReefer_grid (r : ReeferTable) : (s.setReefer r).grid = s.grid := (rfl)
@[simp] theorem State.setReefer_reefer (r : ReeferTable) : (s.setReefer r).reefer = r := (rfl)
@[simp] theorem State.setReefer_notice (r : ReeferTable) : (s.setReefer r).notice = s.notice := (rfl)
@[simp] theorem State.setReefer_cmd (r : ReeferTable) : (s.setReefer r).cmd = s.cmd := (rfl)
@[simp] theorem State.setReefer_mirror (r : ReeferTable) : (s.setReefer r).mirror = s.mirror := (rfl)
@[simp] theorem State.setReefer_scratch (r : ReeferTable) : (s.setReefer r).scratch = s.scratch := (rfl)
@[simp] theorem State.setReefer_restarts (r : ReeferTable) : (s.setReefer r).restarts = s.restarts := (rfl)
@[simp] theorem State.setReefer_pending (r : ReeferTable) : (s.setReefer r).pending = s.pending := (rfl)

@[simp] theorem State.setNotice_inReset (u : NoticeUnit) : (s.setNotice u).inReset = s.inReset := (rfl)
@[simp] theorem State.setNotice_cpb (u : NoticeUnit) : (s.setNotice u).cpb = s.cpb := (rfl)
@[simp] theorem State.setNotice_cpid (u : NoticeUnit) : (s.setNotice u).cpid = s.cpid := (rfl)
@[simp] theorem State.setNotice_time (u : NoticeUnit) : (s.setNotice u).time = s.time := (rfl)
@[simp] theorem State.setNotice_windows (u : NoticeUnit) : (s.setNotice u).windows = s.windows := (rfl)
@[simp] theorem State.setNotice_intake (u : NoticeUnit) : (s.setNotice u).intake = s.intake := (rfl)
@[simp] theorem State.setNotice_arb (u : NoticeUnit) : (s.setNotice u).arb = s.arb := (rfl)
@[simp] theorem State.setNotice_port (u : NoticeUnit) : (s.setNotice u).port = s.port := (rfl)
@[simp] theorem State.setNotice_cranes (u : NoticeUnit) : (s.setNotice u).cranes = s.cranes := (rfl)
@[simp] theorem State.setNotice_grid (u : NoticeUnit) : (s.setNotice u).grid = s.grid := (rfl)
@[simp] theorem State.setNotice_reefer (u : NoticeUnit) : (s.setNotice u).reefer = s.reefer := (rfl)
@[simp] theorem State.setNotice_notice (u : NoticeUnit) : (s.setNotice u).notice = u := (rfl)
@[simp] theorem State.setNotice_cmd (u : NoticeUnit) : (s.setNotice u).cmd = s.cmd := (rfl)
@[simp] theorem State.setNotice_mirror (u : NoticeUnit) : (s.setNotice u).mirror = s.mirror := (rfl)
@[simp] theorem State.setNotice_scratch (u : NoticeUnit) : (s.setNotice u).scratch = s.scratch := (rfl)
@[simp] theorem State.setNotice_restarts (u : NoticeUnit) : (s.setNotice u).restarts = s.restarts := (rfl)
@[simp] theorem State.setNotice_pending (u : NoticeUnit) : (s.setNotice u).pending = s.pending := (rfl)

@[simp] theorem State.setCmd_inReset (c : CommandUnit) : (s.setCmd c).inReset = s.inReset := (rfl)
@[simp] theorem State.setCmd_cpb (c : CommandUnit) : (s.setCmd c).cpb = s.cpb := (rfl)
@[simp] theorem State.setCmd_cpid (c : CommandUnit) : (s.setCmd c).cpid = s.cpid := (rfl)
@[simp] theorem State.setCmd_time (c : CommandUnit) : (s.setCmd c).time = s.time := (rfl)
@[simp] theorem State.setCmd_windows (c : CommandUnit) : (s.setCmd c).windows = s.windows := (rfl)
@[simp] theorem State.setCmd_intake (c : CommandUnit) : (s.setCmd c).intake = s.intake := (rfl)
@[simp] theorem State.setCmd_arb (c : CommandUnit) : (s.setCmd c).arb = s.arb := (rfl)
@[simp] theorem State.setCmd_port (c : CommandUnit) : (s.setCmd c).port = s.port := (rfl)
@[simp] theorem State.setCmd_cranes (c : CommandUnit) : (s.setCmd c).cranes = s.cranes := (rfl)
@[simp] theorem State.setCmd_grid (c : CommandUnit) : (s.setCmd c).grid = s.grid := (rfl)
@[simp] theorem State.setCmd_reefer (c : CommandUnit) : (s.setCmd c).reefer = s.reefer := (rfl)
@[simp] theorem State.setCmd_notice (c : CommandUnit) : (s.setCmd c).notice = s.notice := (rfl)
@[simp] theorem State.setCmd_cmd (c : CommandUnit) : (s.setCmd c).cmd = c := (rfl)
@[simp] theorem State.setCmd_mirror (c : CommandUnit) : (s.setCmd c).mirror = s.mirror := (rfl)
@[simp] theorem State.setCmd_scratch (c : CommandUnit) : (s.setCmd c).scratch = s.scratch := (rfl)
@[simp] theorem State.setCmd_restarts (c : CommandUnit) : (s.setCmd c).restarts = s.restarts := (rfl)
@[simp] theorem State.setCmd_pending (c : CommandUnit) : (s.setCmd c).pending = s.pending := (rfl)

@[simp] theorem State.setMirror_inReset (m : MirrorWriter) : (s.setMirror m).inReset = s.inReset := (rfl)
@[simp] theorem State.setMirror_cpb (m : MirrorWriter) : (s.setMirror m).cpb = s.cpb := (rfl)
@[simp] theorem State.setMirror_cpid (m : MirrorWriter) : (s.setMirror m).cpid = s.cpid := (rfl)
@[simp] theorem State.setMirror_time (m : MirrorWriter) : (s.setMirror m).time = s.time := (rfl)
@[simp] theorem State.setMirror_windows (m : MirrorWriter) : (s.setMirror m).windows = s.windows := (rfl)
@[simp] theorem State.setMirror_intake (m : MirrorWriter) : (s.setMirror m).intake = s.intake := (rfl)
@[simp] theorem State.setMirror_arb (m : MirrorWriter) : (s.setMirror m).arb = s.arb := (rfl)
@[simp] theorem State.setMirror_port (m : MirrorWriter) : (s.setMirror m).port = s.port := (rfl)
@[simp] theorem State.setMirror_cranes (m : MirrorWriter) : (s.setMirror m).cranes = s.cranes := (rfl)
@[simp] theorem State.setMirror_grid (m : MirrorWriter) : (s.setMirror m).grid = s.grid := (rfl)
@[simp] theorem State.setMirror_reefer (m : MirrorWriter) : (s.setMirror m).reefer = s.reefer := (rfl)
@[simp] theorem State.setMirror_notice (m : MirrorWriter) : (s.setMirror m).notice = s.notice := (rfl)
@[simp] theorem State.setMirror_cmd (m : MirrorWriter) : (s.setMirror m).cmd = s.cmd := (rfl)
@[simp] theorem State.setMirror_mirror (m : MirrorWriter) : (s.setMirror m).mirror = m := (rfl)
@[simp] theorem State.setMirror_scratch (m : MirrorWriter) : (s.setMirror m).scratch = s.scratch := (rfl)
@[simp] theorem State.setMirror_restarts (m : MirrorWriter) : (s.setMirror m).restarts = s.restarts := (rfl)
@[simp] theorem State.setMirror_pending (m : MirrorWriter) : (s.setMirror m).pending = s.pending := (rfl)

@[simp] theorem State.setScratch_inReset (e : EventScratch) : (s.setScratch e).inReset = s.inReset := (rfl)
@[simp] theorem State.setScratch_cpb (e : EventScratch) : (s.setScratch e).cpb = s.cpb := (rfl)
@[simp] theorem State.setScratch_cpid (e : EventScratch) : (s.setScratch e).cpid = s.cpid := (rfl)
@[simp] theorem State.setScratch_time (e : EventScratch) : (s.setScratch e).time = s.time := (rfl)
@[simp] theorem State.setScratch_windows (e : EventScratch) : (s.setScratch e).windows = s.windows := (rfl)
@[simp] theorem State.setScratch_intake (e : EventScratch) : (s.setScratch e).intake = s.intake := (rfl)
@[simp] theorem State.setScratch_arb (e : EventScratch) : (s.setScratch e).arb = s.arb := (rfl)
@[simp] theorem State.setScratch_port (e : EventScratch) : (s.setScratch e).port = s.port := (rfl)
@[simp] theorem State.setScratch_cranes (e : EventScratch) : (s.setScratch e).cranes = s.cranes := (rfl)
@[simp] theorem State.setScratch_grid (e : EventScratch) : (s.setScratch e).grid = s.grid := (rfl)
@[simp] theorem State.setScratch_reefer (e : EventScratch) : (s.setScratch e).reefer = s.reefer := (rfl)
@[simp] theorem State.setScratch_notice (e : EventScratch) : (s.setScratch e).notice = s.notice := (rfl)
@[simp] theorem State.setScratch_cmd (e : EventScratch) : (s.setScratch e).cmd = s.cmd := (rfl)
@[simp] theorem State.setScratch_mirror (e : EventScratch) : (s.setScratch e).mirror = s.mirror := (rfl)
@[simp] theorem State.setScratch_scratch (e : EventScratch) : (s.setScratch e).scratch = e := (rfl)
@[simp] theorem State.setScratch_restarts (e : EventScratch) : (s.setScratch e).restarts = s.restarts := (rfl)
@[simp] theorem State.setScratch_pending (e : EventScratch) : (s.setScratch e).pending = s.pending := (rfl)

/-! ## Entries of the tables -/

@[simp] theorem upd_get_self {α : Type} {n : Nat} (v : Vector α n) (i : Fin n) (x : α) : (upd v i x).get i = x := by
  show (v.set i.val x i.isLt)[i.val] = x
  simp

theorem upd_get_other {α : Type} {n : Nat} (v : Vector α n) (i j : Fin n) (x : α) (h : j ≠ i) :
    (upd v i x).get j = v.get j := by
  have hne : i.val ≠ j.val := fun e => h (Fin.ext e.symm)
  show (v.set i.val x i.isLt)[j.val] = v[j.val]
  exact Vector.getElem_set_ne _ _ hne

theorem upd_get {α : Type} {n : Nat} (v : Vector α n) (i j : Fin n) (x : α) :
    (upd v i x).get j = if j = i then x else v.get j := by
  split
  · next h => subst h; exact upd_get_self v _ x
  · next h => exact upd_get_other v i j x h

@[simp] theorem ofFn_get {α : Type} {n : Nat} (f : Fin n → α) (i : Fin n) : (Vector.ofFn f).get i = f i := by
  show (Vector.ofFn f)[i.val] = f i
  simp

@[simp] theorem replicate_get {α : Type} {n : Nat} (x : α) (i : Fin n) : (Vector.replicate n x).get i = x := by
  show (Vector.replicate n x)[i.val] = x
  simp

@[simp] theorem State.setWindow_inReset (i : Fin 32) (w : Window) : (s.setWindow i w).inReset = s.inReset := (rfl)
@[simp] theorem State.setWindow_cpb (i : Fin 32) (w : Window) : (s.setWindow i w).cpb = s.cpb := (rfl)
@[simp] theorem State.setWindow_cpid (i : Fin 32) (w : Window) : (s.setWindow i w).cpid = s.cpid := (rfl)
@[simp] theorem State.setWindow_time (i : Fin 32) (w : Window) : (s.setWindow i w).time = s.time := (rfl)
@[simp] theorem State.setWindow_intake (i : Fin 32) (w : Window) : (s.setWindow i w).intake = s.intake := (rfl)
@[simp] theorem State.setWindow_arb (i : Fin 32) (w : Window) : (s.setWindow i w).arb = s.arb := (rfl)
@[simp] theorem State.setWindow_port (i : Fin 32) (w : Window) : (s.setWindow i w).port = s.port := (rfl)
@[simp] theorem State.setWindow_cranes (i : Fin 32) (w : Window) : (s.setWindow i w).cranes = s.cranes := (rfl)
@[simp] theorem State.setWindow_grid (i : Fin 32) (w : Window) : (s.setWindow i w).grid = s.grid := (rfl)
@[simp] theorem State.setWindow_reefer (i : Fin 32) (w : Window) : (s.setWindow i w).reefer = s.reefer := (rfl)
@[simp] theorem State.setWindow_notice (i : Fin 32) (w : Window) : (s.setWindow i w).notice = s.notice := (rfl)
@[simp] theorem State.setWindow_cmd (i : Fin 32) (w : Window) : (s.setWindow i w).cmd = s.cmd := (rfl)
@[simp] theorem State.setWindow_mirror (i : Fin 32) (w : Window) : (s.setWindow i w).mirror = s.mirror := (rfl)
@[simp] theorem State.setWindow_scratch (i : Fin 32) (w : Window) : (s.setWindow i w).scratch = s.scratch := (rfl)
@[simp] theorem State.setWindow_restarts (i : Fin 32) (w : Window) : (s.setWindow i w).restarts = s.restarts := (rfl)
@[simp] theorem State.setWindow_pending (i : Fin 32) (w : Window) : (s.setWindow i w).pending = s.pending := (rfl)
@[simp] theorem State.setWindow_windows (i : Fin 32) (w : Window) : (s.setWindow i w).windows = upd s.windows i w := (rfl)

theorem State.setWindow_window (i j : Fin 32) (w : Window) : (s.setWindow i w).window j = if j = i then w else s.window j :=
  upd_get _ i j w

@[simp] theorem State.setWindow_window_self (i : Fin 32) (w : Window) : (s.setWindow i w).window i = w := upd_get_self _ i w

@[simp] theorem State.setCrane_inReset (i : Fin 16) (c : Crane) : (s.setCrane i c).inReset = s.inReset := (rfl)
@[simp] theorem State.setCrane_cpb (i : Fin 16) (c : Crane) : (s.setCrane i c).cpb = s.cpb := (rfl)
@[simp] theorem State.setCrane_cpid (i : Fin 16) (c : Crane) : (s.setCrane i c).cpid = s.cpid := (rfl)
@[simp] theorem State.setCrane_time (i : Fin 16) (c : Crane) : (s.setCrane i c).time = s.time := (rfl)
@[simp] theorem State.setCrane_windows (i : Fin 16) (c : Crane) : (s.setCrane i c).windows = s.windows := (rfl)
@[simp] theorem State.setCrane_intake (i : Fin 16) (c : Crane) : (s.setCrane i c).intake = s.intake := (rfl)
@[simp] theorem State.setCrane_arb (i : Fin 16) (c : Crane) : (s.setCrane i c).arb = s.arb := (rfl)
@[simp] theorem State.setCrane_port (i : Fin 16) (c : Crane) : (s.setCrane i c).port = s.port := (rfl)
@[simp] theorem State.setCrane_grid (i : Fin 16) (c : Crane) : (s.setCrane i c).grid = s.grid := (rfl)
@[simp] theorem State.setCrane_reefer (i : Fin 16) (c : Crane) : (s.setCrane i c).reefer = s.reefer := (rfl)
@[simp] theorem State.setCrane_notice (i : Fin 16) (c : Crane) : (s.setCrane i c).notice = s.notice := (rfl)
@[simp] theorem State.setCrane_cmd (i : Fin 16) (c : Crane) : (s.setCrane i c).cmd = s.cmd := (rfl)
@[simp] theorem State.setCrane_mirror (i : Fin 16) (c : Crane) : (s.setCrane i c).mirror = s.mirror := (rfl)
@[simp] theorem State.setCrane_scratch (i : Fin 16) (c : Crane) : (s.setCrane i c).scratch = s.scratch := (rfl)
@[simp] theorem State.setCrane_restarts (i : Fin 16) (c : Crane) : (s.setCrane i c).restarts = s.restarts := (rfl)
@[simp] theorem State.setCrane_pending (i : Fin 16) (c : Crane) : (s.setCrane i c).pending = s.pending := (rfl)
@[simp] theorem State.setCrane_cranes (i : Fin 16) (c : Crane) : (s.setCrane i c).cranes = upd s.cranes i c := (rfl)

theorem State.setCrane_crane (i j : Fin 16) (c : Crane) : (s.setCrane i c).crane j = if j = i then c else s.crane j :=
  upd_get _ i j c

@[simp] theorem State.setCrane_crane_self (i : Fin 16) (c : Crane) : (s.setCrane i c).crane i = c := upd_get_self _ i c

@[simp] theorem State.setSquare_inReset (q : Fin 512) (x : Square) : (s.setSquare q x).inReset = s.inReset := (rfl)
@[simp] theorem State.setSquare_cpb (q : Fin 512) (x : Square) : (s.setSquare q x).cpb = s.cpb := (rfl)
@[simp] theorem State.setSquare_cpid (q : Fin 512) (x : Square) : (s.setSquare q x).cpid = s.cpid := (rfl)
@[simp] theorem State.setSquare_time (q : Fin 512) (x : Square) : (s.setSquare q x).time = s.time := (rfl)
@[simp] theorem State.setSquare_windows (q : Fin 512) (x : Square) : (s.setSquare q x).windows = s.windows := (rfl)
@[simp] theorem State.setSquare_intake (q : Fin 512) (x : Square) : (s.setSquare q x).intake = s.intake := (rfl)
@[simp] theorem State.setSquare_arb (q : Fin 512) (x : Square) : (s.setSquare q x).arb = s.arb := (rfl)
@[simp] theorem State.setSquare_port (q : Fin 512) (x : Square) : (s.setSquare q x).port = s.port := (rfl)
@[simp] theorem State.setSquare_cranes (q : Fin 512) (x : Square) : (s.setSquare q x).cranes = s.cranes := (rfl)
@[simp] theorem State.setSquare_reefer (q : Fin 512) (x : Square) : (s.setSquare q x).reefer = s.reefer := (rfl)
@[simp] theorem State.setSquare_notice (q : Fin 512) (x : Square) : (s.setSquare q x).notice = s.notice := (rfl)
@[simp] theorem State.setSquare_cmd (q : Fin 512) (x : Square) : (s.setSquare q x).cmd = s.cmd := (rfl)
@[simp] theorem State.setSquare_mirror (q : Fin 512) (x : Square) : (s.setSquare q x).mirror = s.mirror := (rfl)
@[simp] theorem State.setSquare_scratch (q : Fin 512) (x : Square) : (s.setSquare q x).scratch = s.scratch := (rfl)
@[simp] theorem State.setSquare_restarts (q : Fin 512) (x : Square) : (s.setSquare q x).restarts = s.restarts := (rfl)
@[simp] theorem State.setSquare_pending (q : Fin 512) (x : Square) : (s.setSquare q x).pending = s.pending := (rfl)
@[simp] theorem State.setSquare_grid (q : Fin 512) (x : Square) :
    (s.setSquare q x).grid = { s.grid with squares := upd s.grid.squares q x } := (rfl)

theorem State.setSquare_square (q j : Fin 512) (x : Square) : (s.setSquare q x).square j = if j = q then x else s.square j :=
  upd_get _ q j x

@[simp] theorem State.setSquare_square_self (q : Fin 512) (x : Square) : (s.setSquare q x).square q = x := upd_get_self _ q x

@[simp] theorem State.setEntry_inReset (n : Fin 4096) (e : ReeferEntry) : (s.setEntry n e).inReset = s.inReset := (rfl)
@[simp] theorem State.setEntry_cpb (n : Fin 4096) (e : ReeferEntry) : (s.setEntry n e).cpb = s.cpb := (rfl)
@[simp] theorem State.setEntry_cpid (n : Fin 4096) (e : ReeferEntry) : (s.setEntry n e).cpid = s.cpid := (rfl)
@[simp] theorem State.setEntry_time (n : Fin 4096) (e : ReeferEntry) : (s.setEntry n e).time = s.time := (rfl)
@[simp] theorem State.setEntry_windows (n : Fin 4096) (e : ReeferEntry) : (s.setEntry n e).windows = s.windows := (rfl)
@[simp] theorem State.setEntry_intake (n : Fin 4096) (e : ReeferEntry) : (s.setEntry n e).intake = s.intake := (rfl)
@[simp] theorem State.setEntry_arb (n : Fin 4096) (e : ReeferEntry) : (s.setEntry n e).arb = s.arb := (rfl)
@[simp] theorem State.setEntry_port (n : Fin 4096) (e : ReeferEntry) : (s.setEntry n e).port = s.port := (rfl)
@[simp] theorem State.setEntry_cranes (n : Fin 4096) (e : ReeferEntry) : (s.setEntry n e).cranes = s.cranes := (rfl)
@[simp] theorem State.setEntry_grid (n : Fin 4096) (e : ReeferEntry) : (s.setEntry n e).grid = s.grid := (rfl)
@[simp] theorem State.setEntry_notice (n : Fin 4096) (e : ReeferEntry) : (s.setEntry n e).notice = s.notice := (rfl)
@[simp] theorem State.setEntry_cmd (n : Fin 4096) (e : ReeferEntry) : (s.setEntry n e).cmd = s.cmd := (rfl)
@[simp] theorem State.setEntry_mirror (n : Fin 4096) (e : ReeferEntry) : (s.setEntry n e).mirror = s.mirror := (rfl)
@[simp] theorem State.setEntry_scratch (n : Fin 4096) (e : ReeferEntry) : (s.setEntry n e).scratch = s.scratch := (rfl)
@[simp] theorem State.setEntry_restarts (n : Fin 4096) (e : ReeferEntry) : (s.setEntry n e).restarts = s.restarts := (rfl)
@[simp] theorem State.setEntry_pending (n : Fin 4096) (e : ReeferEntry) : (s.setEntry n e).pending = s.pending := (rfl)
@[simp] theorem State.setEntry_reefer (n : Fin 4096) (e : ReeferEntry) :
    (s.setEntry n e).reefer = { s.reefer with entries := upd s.reefer.entries n e } := (rfl)

theorem State.setEntry_entry (n j : Fin 4096) (e : ReeferEntry) : (s.setEntry n e).entry j = if j = n then e else s.entry j :=
  upd_get _ n j e

@[simp] theorem State.setEntry_entry_self (n : Fin 4096) (e : ReeferEntry) : (s.setEntry n e).entry n = e := upd_get_self _ n e

/-! ## An entry after the update of another block -/

@[simp] theorem State.setTime_window (t : TimeBase) (i : Fin 32) : (s.setTime t).window i = s.window i := (rfl)
@[simp] theorem State.setIntake_window (q : Intake) (i : Fin 32) : (s.setIntake q).window i = s.window i := (rfl)
@[simp] theorem State.setArb_window (a : Arbiter) (i : Fin 32) : (s.setArb a).window i = s.window i := (rfl)
@[simp] theorem State.setPort_window (p : UpstreamPort) (i : Fin 32) : (s.setPort p).window i = s.window i := (rfl)
@[simp] theorem State.setCranes_window (c : Vector Crane 16) (i : Fin 32) : (s.setCranes c).window i = s.window i := (rfl)
@[simp] theorem State.setGrid_window (g : Grid) (i : Fin 32) : (s.setGrid g).window i = s.window i := (rfl)
@[simp] theorem State.setReefer_window (r : ReeferTable) (i : Fin 32) : (s.setReefer r).window i = s.window i := (rfl)
@[simp] theorem State.setNotice_window (u : NoticeUnit) (i : Fin 32) : (s.setNotice u).window i = s.window i := (rfl)
@[simp] theorem State.setCmd_window (c : CommandUnit) (i : Fin 32) : (s.setCmd c).window i = s.window i := (rfl)
@[simp] theorem State.setMirror_window (m : MirrorWriter) (i : Fin 32) : (s.setMirror m).window i = s.window i := (rfl)
@[simp] theorem State.setScratch_window (e : EventScratch) (i : Fin 32) : (s.setScratch e).window i = s.window i := (rfl)

@[simp] theorem State.setTime_crane (t : TimeBase) (i : Fin 16) : (s.setTime t).crane i = s.crane i := (rfl)
@[simp] theorem State.setWindows_crane (w : Vector Window 32) (i : Fin 16) : (s.setWindows w).crane i = s.crane i := (rfl)
@[simp] theorem State.setIntake_crane (q : Intake) (i : Fin 16) : (s.setIntake q).crane i = s.crane i := (rfl)
@[simp] theorem State.setArb_crane (a : Arbiter) (i : Fin 16) : (s.setArb a).crane i = s.crane i := (rfl)
@[simp] theorem State.setPort_crane (p : UpstreamPort) (i : Fin 16) : (s.setPort p).crane i = s.crane i := (rfl)
@[simp] theorem State.setGrid_crane (g : Grid) (i : Fin 16) : (s.setGrid g).crane i = s.crane i := (rfl)
@[simp] theorem State.setReefer_crane (r : ReeferTable) (i : Fin 16) : (s.setReefer r).crane i = s.crane i := (rfl)
@[simp] theorem State.setNotice_crane (u : NoticeUnit) (i : Fin 16) : (s.setNotice u).crane i = s.crane i := (rfl)
@[simp] theorem State.setCmd_crane (c : CommandUnit) (i : Fin 16) : (s.setCmd c).crane i = s.crane i := (rfl)
@[simp] theorem State.setMirror_crane (m : MirrorWriter) (i : Fin 16) : (s.setMirror m).crane i = s.crane i := (rfl)
@[simp] theorem State.setScratch_crane (e : EventScratch) (i : Fin 16) : (s.setScratch e).crane i = s.crane i := (rfl)

@[simp] theorem State.setTime_square (t : TimeBase) (q : Fin 512) : (s.setTime t).square q = s.square q := (rfl)
@[simp] theorem State.setWindows_square (w : Vector Window 32) (q : Fin 512) : (s.setWindows w).square q = s.square q := (rfl)
@[simp] theorem State.setIntake_square (q' : Intake) (q : Fin 512) : (s.setIntake q').square q = s.square q := (rfl)
@[simp] theorem State.setArb_square (a : Arbiter) (q : Fin 512) : (s.setArb a).square q = s.square q := (rfl)
@[simp] theorem State.setPort_square (p : UpstreamPort) (q : Fin 512) : (s.setPort p).square q = s.square q := (rfl)
@[simp] theorem State.setCranes_square (c : Vector Crane 16) (q : Fin 512) : (s.setCranes c).square q = s.square q := (rfl)
@[simp] theorem State.setReefer_square (r : ReeferTable) (q : Fin 512) : (s.setReefer r).square q = s.square q := (rfl)
@[simp] theorem State.setNotice_square (u : NoticeUnit) (q : Fin 512) : (s.setNotice u).square q = s.square q := (rfl)
@[simp] theorem State.setCmd_square (c : CommandUnit) (q : Fin 512) : (s.setCmd c).square q = s.square q := (rfl)
@[simp] theorem State.setMirror_square (m : MirrorWriter) (q : Fin 512) : (s.setMirror m).square q = s.square q := (rfl)
@[simp] theorem State.setScratch_square (e : EventScratch) (q : Fin 512) : (s.setScratch e).square q = s.square q := (rfl)

@[simp] theorem State.setTime_entry (t : TimeBase) (n : Fin 4096) : (s.setTime t).entry n = s.entry n := (rfl)
@[simp] theorem State.setWindows_entry (w : Vector Window 32) (n : Fin 4096) : (s.setWindows w).entry n = s.entry n := (rfl)
@[simp] theorem State.setIntake_entry (q : Intake) (n : Fin 4096) : (s.setIntake q).entry n = s.entry n := (rfl)
@[simp] theorem State.setArb_entry (a : Arbiter) (n : Fin 4096) : (s.setArb a).entry n = s.entry n := (rfl)
@[simp] theorem State.setPort_entry (p : UpstreamPort) (n : Fin 4096) : (s.setPort p).entry n = s.entry n := (rfl)
@[simp] theorem State.setCranes_entry (c : Vector Crane 16) (n : Fin 4096) : (s.setCranes c).entry n = s.entry n := (rfl)
@[simp] theorem State.setGrid_entry (g : Grid) (n : Fin 4096) : (s.setGrid g).entry n = s.entry n := (rfl)
@[simp] theorem State.setNotice_entry (u : NoticeUnit) (n : Fin 4096) : (s.setNotice u).entry n = s.entry n := (rfl)
@[simp] theorem State.setCmd_entry (c : CommandUnit) (n : Fin 4096) : (s.setCmd c).entry n = s.entry n := (rfl)
@[simp] theorem State.setMirror_entry (m : MirrorWriter) (n : Fin 4096) : (s.setMirror m).entry n = s.entry n := (rfl)
@[simp] theorem State.setScratch_entry (e : EventScratch) (n : Fin 4096) : (s.setScratch e).entry n = s.entry n := (rfl)

@[simp] theorem State.setTime_criteria (t : TimeBase) (i : Fin 16) : (s.setTime t).criteria i = s.criteria i := (rfl)
@[simp] theorem State.setWindows_criteria (w : Vector Window 32) (i : Fin 16) : (s.setWindows w).criteria i = s.criteria i := (rfl)
@[simp] theorem State.setIntake_criteria (q : Intake) (i : Fin 16) : (s.setIntake q).criteria i = s.criteria i := (rfl)
@[simp] theorem State.setArb_criteria (a : Arbiter) (i : Fin 16) : (s.setArb a).criteria i = s.criteria i := (rfl)
@[simp] theorem State.setPort_criteria (p : UpstreamPort) (i : Fin 16) : (s.setPort p).criteria i = s.criteria i := (rfl)
@[simp] theorem State.setCranes_criteria (c : Vector Crane 16) (i : Fin 16) : (s.setCranes c).criteria i = s.criteria i := (rfl)
@[simp] theorem State.setGrid_criteria (g : Grid) (i : Fin 16) : (s.setGrid g).criteria i = s.criteria i := (rfl)
@[simp] theorem State.setNotice_criteria (u : NoticeUnit) (i : Fin 16) : (s.setNotice u).criteria i = s.criteria i := (rfl)
@[simp] theorem State.setCmd_criteria (c : CommandUnit) (i : Fin 16) : (s.setCmd c).criteria i = s.criteria i := (rfl)
@[simp] theorem State.setMirror_criteria (m : MirrorWriter) (i : Fin 16) : (s.setMirror m).criteria i = s.criteria i := (rfl)
@[simp] theorem State.setScratch_criteria (e : EventScratch) (i : Fin 16) : (s.setScratch e).criteria i = s.criteria i := (rfl)

@[simp] theorem State.setTime_pageAddr (t : TimeBase) (k : Nat) : (s.setTime t).pageAddr k = s.pageAddr k := (rfl)
@[simp] theorem State.setWindows_pageAddr (w : Vector Window 32) (k : Nat) : (s.setWindows w).pageAddr k = s.pageAddr k := (rfl)
@[simp] theorem State.setIntake_pageAddr (q : Intake) (k : Nat) : (s.setIntake q).pageAddr k = s.pageAddr k := (rfl)
@[simp] theorem State.setArb_pageAddr (a : Arbiter) (k : Nat) : (s.setArb a).pageAddr k = s.pageAddr k := (rfl)
@[simp] theorem State.setPort_pageAddr (p : UpstreamPort) (k : Nat) : (s.setPort p).pageAddr k = s.pageAddr k := (rfl)
@[simp] theorem State.setCranes_pageAddr (c : Vector Crane 16) (k : Nat) : (s.setCranes c).pageAddr k = s.pageAddr k := (rfl)
@[simp] theorem State.setGrid_pageAddr (g : Grid) (k : Nat) : (s.setGrid g).pageAddr k = s.pageAddr k := (rfl)
@[simp] theorem State.setReefer_pageAddr (r : ReeferTable) (k : Nat) : (s.setReefer r).pageAddr k = s.pageAddr k := (rfl)
@[simp] theorem State.setNotice_pageAddr (u : NoticeUnit) (k : Nat) : (s.setNotice u).pageAddr k = s.pageAddr k := (rfl)
@[simp] theorem State.setCmd_pageAddr (c : CommandUnit) (k : Nat) : (s.setCmd c).pageAddr k = s.pageAddr k := (rfl)
@[simp] theorem State.setMirror_pageAddr (m : MirrorWriter) (k : Nat) : (s.setMirror m).pageAddr k = s.pageAddr k := (rfl)
@[simp] theorem State.setScratch_pageAddr (e : EventScratch) (k : Nat) : (s.setScratch e).pageAddr k = s.pageAddr k := (rfl)

@[simp] theorem State.setWindows_stamp (w : Vector Window 32) : (s.setWindows w).stamp = s.stamp := (rfl)
@[simp] theorem State.setIntake_stamp (q : Intake) : (s.setIntake q).stamp = s.stamp := (rfl)
@[simp] theorem State.setArb_stamp (a : Arbiter) : (s.setArb a).stamp = s.stamp := (rfl)
@[simp] theorem State.setPort_stamp (p : UpstreamPort) : (s.setPort p).stamp = s.stamp := (rfl)
@[simp] theorem State.setCranes_stamp (c : Vector Crane 16) : (s.setCranes c).stamp = s.stamp := (rfl)
@[simp] theorem State.setGrid_stamp (g : Grid) : (s.setGrid g).stamp = s.stamp := (rfl)
@[simp] theorem State.setReefer_stamp (r : ReeferTable) : (s.setReefer r).stamp = s.stamp := (rfl)
@[simp] theorem State.setNotice_stamp (u : NoticeUnit) : (s.setNotice u).stamp = s.stamp := (rfl)
@[simp] theorem State.setCmd_stamp (c : CommandUnit) : (s.setCmd c).stamp = s.stamp := (rfl)
@[simp] theorem State.setMirror_stamp (m : MirrorWriter) : (s.setMirror m).stamp = s.stamp := (rfl)
@[simp] theorem State.setScratch_stamp (e : EventScratch) : (s.setScratch e).stamp = s.stamp := (rfl)

end Sys2Proof.Machine
end

