-- ==== Sys2Proof/Laws/Ops.lean ====
section
/-! SUPPORT. What the shared operations leave unchanged, and what they do: own writes, flags, notices, the ring, the status block and
the frame of an event. -/

namespace Sys2Proof.Machine

/-! ## Own writes -/

@[simp] theorem State.hand_inReset (s : State) (a : Nat) (d : List Byte) : (s.hand a d).inReset = s.inReset := (rfl)
@[simp] theorem State.hand_cpb (s : State) (a : Nat) (d : List Byte) : (s.hand a d).cpb = s.cpb := (rfl)
@[simp] theorem State.hand_cpid (s : State) (a : Nat) (d : List Byte) : (s.hand a d).cpid = s.cpid := (rfl)
@[simp] theorem State.hand_time (s : State) (a : Nat) (d : List Byte) : (s.hand a d).time = s.time := (rfl)
@[simp] theorem State.hand_windows (s : State) (a : Nat) (d : List Byte) : (s.hand a d).windows = s.windows := (rfl)
@[simp] theorem State.hand_intake (s : State) (a : Nat) (d : List Byte) : (s.hand a d).intake = s.intake := (rfl)
@[simp] theorem State.hand_port (s : State) (a : Nat) (d : List Byte) : (s.hand a d).port = s.port := (rfl)
@[simp] theorem State.hand_cranes (s : State) (a : Nat) (d : List Byte) : (s.hand a d).cranes = s.cranes := (rfl)
@[simp] theorem State.hand_grid (s : State) (a : Nat) (d : List Byte) : (s.hand a d).grid = s.grid := (rfl)
@[simp] theorem State.hand_reefer (s : State) (a : Nat) (d : List Byte) : (s.hand a d).reefer = s.reefer := (rfl)
@[simp] theorem State.hand_notice (s : State) (a : Nat) (d : List Byte) : (s.hand a d).notice = s.notice := (rfl)
@[simp] theorem State.hand_cmd (s : State) (a : Nat) (d : List Byte) : (s.hand a d).cmd = s.cmd := (rfl)
@[simp] theorem State.hand_mirror (s : State) (a : Nat) (d : List Byte) : (s.hand a d).mirror = s.mirror := (rfl)
@[simp] theorem State.hand_scratch (s : State) (a : Nat) (d : List Byte) : (s.hand a d).scratch = s.scratch := (rfl)
@[simp] theorem State.hand_restarts (s : State) (a : Nat) (d : List Byte) : (s.hand a d).restarts = s.restarts := (rfl)
@[simp] theorem State.hand_pending (s : State) (a : Nat) (d : List Byte) : (s.hand a d).pending = s.pending := (rfl)

@[simp] theorem State.handMirror_inReset (s : State) (k : WindowKind) (a : Nat) (d : List Byte) : (s.handMirror k a d).inReset = s.inReset := (rfl)
@[simp] theorem State.handMirror_cpb (s : State) (k : WindowKind) (a : Nat) (d : List Byte) : (s.handMirror k a d).cpb = s.cpb := (rfl)
@[simp] theorem State.handMirror_cpid (s : State) (k : WindowKind) (a : Nat) (d : List Byte) : (s.handMirror k a d).cpid = s.cpid := (rfl)
@[simp] theorem State.handMirror_time (s : State) (k : WindowKind) (a : Nat) (d : List Byte) : (s.handMirror k a d).time = s.time := (rfl)
@[simp] theorem State.handMirror_windows (s : State) (k : WindowKind) (a : Nat) (d : List Byte) : (s.handMirror k a d).windows = s.windows := (rfl)
@[simp] theorem State.handMirror_intake (s : State) (k : WindowKind) (a : Nat) (d : List Byte) : (s.handMirror k a d).intake = s.intake := (rfl)
@[simp] theorem State.handMirror_port (s : State) (k : WindowKind) (a : Nat) (d : List Byte) : (s.handMirror k a d).port = s.port := (rfl)
@[simp] theorem State.handMirror_cranes (s : State) (k : WindowKind) (a : Nat) (d : List Byte) : (s.handMirror k a d).cranes = s.cranes := (rfl)
@[simp] theorem State.handMirror_grid (s : State) (k : WindowKind) (a : Nat) (d : List Byte) : (s.handMirror k a d).grid = s.grid := (rfl)
@[simp] theorem State.handMirror_reefer (s : State) (k : WindowKind) (a : Nat) (d : List Byte) : (s.handMirror k a d).reefer = s.reefer := (rfl)
@[simp] theorem State.handMirror_notice (s : State) (k : WindowKind) (a : Nat) (d : List Byte) : (s.handMirror k a d).notice = s.notice := (rfl)
@[simp] theorem State.handMirror_cmd (s : State) (k : WindowKind) (a : Nat) (d : List Byte) : (s.handMirror k a d).cmd = s.cmd := (rfl)
@[simp] theorem State.handMirror_mirror (s : State) (k : WindowKind) (a : Nat) (d : List Byte) : (s.handMirror k a d).mirror = s.mirror := (rfl)
@[simp] theorem State.handMirror_scratch (s : State) (k : WindowKind) (a : Nat) (d : List Byte) : (s.handMirror k a d).scratch = s.scratch := (rfl)
@[simp] theorem State.handMirror_restarts (s : State) (k : WindowKind) (a : Nat) (d : List Byte) : (s.handMirror k a d).restarts = s.restarts := (rfl)
@[simp] theorem State.handMirror_pending (s : State) (k : WindowKind) (a : Nat) (d : List Byte) : (s.handMirror k a d).pending = s.pending := (rfl)

/-- A handed own write goes to the back of the queue, or to the back of the held ones; nothing else of the arbiter changes. -/
theorem Arbiter.hand_cases (a : Arbiter) (k : Work) (w : OwnWrite) :
    (a.hand k w = { a with own := a.own ++ [w] } ∧ a.held = [] ∧ a.own.length < 64) ∨
      (a.hand k w = { a with held := a.held ++ [⟨w, k⟩] } ∧ ¬(a.held = [] ∧ a.own.length < 64)) := by
  unfold Arbiter.hand
  split
  · next h => left; simp_all
  · next h => right; simp_all

@[simp] theorem Arbiter.hand_passing (a : Arbiter) (k : Work) (w : OwnWrite) : (a.hand k w).passing = a.passing := by
  unfold Arbiter.hand; split <;> simp

@[simp] theorem Arbiter.hand_letOut (a : Arbiter) (k : Work) (w : OwnWrite) : (a.hand k w).letOut = a.letOut := by
  unfold Arbiter.hand; split <;> simp

@[simp] theorem Arbiter.hand_inFlight (a : Arbiter) (k : Work) (w : OwnWrite) : (a.hand k w).inFlight = a.inFlight := by
  unfold Arbiter.hand; split <;> simp

/-- The own-write queue never grows past 64 by a handing. -/
theorem Arbiter.hand_own_length (a : Arbiter) (k : Work) (w : OwnWrite) (h : a.own.length ≤ 64) :
    (a.hand k w).own.length ≤ 64 := by
  obtain ⟨e, -, hl⟩ | ⟨e, -⟩ := a.hand_cases k w
  · rw [e]; simp; omega
  · rw [e]; exact h

/-! ## Flags and notices -/

@[simp] theorem State.callStatus_inReset (s : State) : (s.callStatus).inReset = s.inReset := (rfl)
@[simp] theorem State.callStatus_cpb (s : State) : (s.callStatus).cpb = s.cpb := (rfl)
@[simp] theorem State.callStatus_cpid (s : State) : (s.callStatus).cpid = s.cpid := (rfl)
@[simp] theorem State.callStatus_time (s : State) : (s.callStatus).time = s.time := (rfl)
@[simp] theorem State.callStatus_windows (s : State) : (s.callStatus).windows = s.windows := (rfl)
@[simp] theorem State.callStatus_intake (s : State) : (s.callStatus).intake = s.intake := (rfl)
@[simp] theorem State.callStatus_arb (s : State) : (s.callStatus).arb = s.arb := (rfl)
@[simp] theorem State.callStatus_port (s : State) : (s.callStatus).port = s.port := (rfl)
@[simp] theorem State.callStatus_cranes (s : State) : (s.callStatus).cranes = s.cranes := (rfl)
@[simp] theorem State.callStatus_grid (s : State) : (s.callStatus).grid = s.grid := (rfl)
@[simp] theorem State.callStatus_reefer (s : State) : (s.callStatus).reefer = s.reefer := (rfl)
@[simp] theorem State.callStatus_notice (s : State) : (s.callStatus).notice = s.notice := (rfl)
@[simp] theorem State.callStatus_cmd (s : State) : (s.callStatus).cmd = s.cmd := (rfl)
@[simp] theorem State.callStatus_mirror (s : State) : (s.callStatus).mirror = s.mirror := (rfl)
@[simp] theorem State.callStatus_restarts (s : State) : (s.callStatus).restarts = s.restarts := (rfl)
@[simp] theorem State.callStatus_pending (s : State) : (s.callStatus).pending = s.pending := (rfl)

@[simp] theorem State.callStatus_scratch (s : State) : s.callStatus.scratch = { s.scratch with statusDue := true } := rfl

@[simp] theorem State.setFlag_inReset (s : State) (f : Flag) : (s.setFlag f).inReset = s.inReset := (rfl)
@[simp] theorem State.setFlag_cpb (s : State) (f : Flag) : (s.setFlag f).cpb = s.cpb := (rfl)
@[simp] theorem State.setFlag_cpid (s : State) (f : Flag) : (s.setFlag f).cpid = s.cpid := (rfl)
@[simp] theorem State.setFlag_time (s : State) (f : Flag) : (s.setFlag f).time = s.time := (rfl)
@[simp] theorem State.setFlag_windows (s : State) (f : Flag) : (s.setFlag f).windows = s.windows := (rfl)
@[simp] theorem State.setFlag_intake (s : State) (f : Flag) : (s.setFlag f).intake = s.intake := (rfl)
@[simp] theorem State.setFlag_arb (s : State) (f : Flag) : (s.setFlag f).arb = s.arb := (rfl)
@[simp] theorem State.setFlag_port (s : State) (f : Flag) : (s.setFlag f).port = s.port := (rfl)
@[simp] theorem State.setFlag_cranes (s : State) (f : Flag) : (s.setFlag f).cranes = s.cranes := (rfl)
@[simp] theorem State.setFlag_grid (s : State) (f : Flag) : (s.setFlag f).grid = s.grid := (rfl)
@[simp] theorem State.setFlag_reefer (s : State) (f : Flag) : (s.setFlag f).reefer = s.reefer := (rfl)
@[simp] theorem State.setFlag_cmd (s : State) (f : Flag) : (s.setFlag f).cmd = s.cmd := (rfl)
@[simp] theorem State.setFlag_mirror (s : State) (f : Flag) : (s.setFlag f).mirror = s.mirror := (rfl)
@[simp] theorem State.setFlag_restarts (s : State) (f : Flag) : (s.setFlag f).restarts = s.restarts := (rfl)
@[simp] theorem State.setFlag_pending (s : State) (f : Flag) : (s.setFlag f).pending = s.pending := (rfl)

@[simp] theorem State.setFlag_notice (s : State) (f : Flag) :
    (s.setFlag f).notice = { s.notice with flags := s.notice.flags ||| f.bit } := (rfl)

@[simp] theorem State.followIrq_inReset (s : State) : (s.followIrq).inReset = s.inReset := (rfl)
@[simp] theorem State.followIrq_cpb (s : State) : (s.followIrq).cpb = s.cpb := (rfl)
@[simp] theorem State.followIrq_cpid (s : State) : (s.followIrq).cpid = s.cpid := (rfl)
@[simp] theorem State.followIrq_time (s : State) : (s.followIrq).time = s.time := (rfl)
@[simp] theorem State.followIrq_windows (s : State) : (s.followIrq).windows = s.windows := (rfl)
@[simp] theorem State.followIrq_intake (s : State) : (s.followIrq).intake = s.intake := (rfl)
@[simp] theorem State.followIrq_arb (s : State) : (s.followIrq).arb = s.arb := (rfl)
@[simp] theorem State.followIrq_port (s : State) : (s.followIrq).port = s.port := (rfl)
@[simp] theorem State.followIrq_cranes (s : State) : (s.followIrq).cranes = s.cranes := (rfl)
@[simp] theorem State.followIrq_grid (s : State) : (s.followIrq).grid = s.grid := (rfl)
@[simp] theorem State.followIrq_reefer (s : State) : (s.followIrq).reefer = s.reefer := (rfl)
@[simp] theorem State.followIrq_cmd (s : State) : (s.followIrq).cmd = s.cmd := (rfl)
@[simp] theorem State.followIrq_mirror (s : State) : (s.followIrq).mirror = s.mirror := (rfl)
@[simp] theorem State.followIrq_scratch (s : State) : (s.followIrq).scratch = s.scratch := (rfl)
@[simp] theorem State.followIrq_restarts (s : State) : (s.followIrq).restarts = s.restarts := (rfl)
@[simp] theorem State.followIrq_pending (s : State) : (s.followIrq).pending = s.pending := (rfl)

@[simp] theorem State.followIrq_notice (s : State) : s.followIrq.notice = { s.notice with irq := s.notice.irqCondition } := (rfl)

@[simp] theorem State.raise_inReset (s : State) (k : NoticeKind) (n : Nat) (a b c : Word) : (s.raise k n a b c).inReset = s.inReset := (rfl)
@[simp] theorem State.raise_cpb (s : State) (k : NoticeKind) (n : Nat) (a b c : Word) : (s.raise k n a b c).cpb = s.cpb := (rfl)
@[simp] theorem State.raise_cpid (s : State) (k : NoticeKind) (n : Nat) (a b c : Word) : (s.raise k n a b c).cpid = s.cpid := (rfl)
@[simp] theorem State.raise_time (s : State) (k : NoticeKind) (n : Nat) (a b c : Word) : (s.raise k n a b c).time = s.time := (rfl)
@[simp] theorem State.raise_windows (s : State) (k : NoticeKind) (n : Nat) (a b c : Word) : (s.raise k n a b c).windows = s.windows := (rfl)
@[simp] theorem State.raise_intake (s : State) (k : NoticeKind) (n : Nat) (a b c : Word) : (s.raise k n a b c).intake = s.intake := (rfl)
@[simp] theorem State.raise_arb (s : State) (k : NoticeKind) (n : Nat) (a b c : Word) : (s.raise k n a b c).arb = s.arb := (rfl)
@[simp] theorem State.raise_port (s : State) (k : NoticeKind) (n : Nat) (a b c : Word) : (s.raise k n a b c).port = s.port := (rfl)
@[simp] theorem State.raise_cranes (s : State) (k : NoticeKind) (n : Nat) (a b c : Word) : (s.raise k n a b c).cranes = s.cranes := (rfl)
@[simp] theorem State.raise_grid (s : State) (k : NoticeKind) (n : Nat) (a b c : Word) : (s.raise k n a b c).grid = s.grid := (rfl)
@[simp] theorem State.raise_reefer (s : State) (k : NoticeKind) (n : Nat) (a b c : Word) : (s.raise k n a b c).reefer = s.reefer := (rfl)
@[simp] theorem State.raise_cmd (s : State) (k : NoticeKind) (n : Nat) (a b c : Word) : (s.raise k n a b c).cmd = s.cmd := (rfl)
@[simp] theorem State.raise_mirror (s : State) (k : NoticeKind) (n : Nat) (a b c : Word) : (s.raise k n a b c).mirror = s.mirror := (rfl)
@[simp] theorem State.raise_restarts (s : State) (k : NoticeKind) (n : Nat) (a b c : Word) : (s.raise k n a b c).restarts = s.restarts := (rfl)
@[simp] theorem State.raise_pending (s : State) (k : NoticeKind) (n : Nat) (a b c : Word) : (s.raise k n a b c).pending = s.pending := (rfl)

@[simp] theorem State.raise_notice (s : State) (k : NoticeKind) (n : Nat) (a b c : Word) :
    (s.raise k n a b c).notice = s.notice.take { kind := k, subject := n, stamp := s.stamp, value1 := a, value2 := b, value3 := c } := (rfl)

@[simp] theorem State.raise_stamp (s : State) (k : NoticeKind) (n : Nat) (a b c : Word) :
    (s.raise k n a b c).stamp = s.stamp := (rfl)

@[simp] theorem State.setFlag_stamp (s : State) (f : Flag) : (s.setFlag f).stamp = s.stamp := (rfl)

theorem State.setFlag_scratch (s : State) (f : Flag) : (s.setFlag f).scratch =
    { s.scratch with statusDue := s.scratch.statusDue || !s.notice.flags.getLsbD f.number } := (rfl)

theorem State.raise_scratch (s : State) (k : NoticeKind) (n : Nat) (a b c : Word) : (s.raise k n a b c).scratch =
    { s.scratch with statusDue := s.scratch.statusDue || (s.raise k n a b c).notice.overflow != s.notice.overflow ||
        (s.raise k n a b c).notice.flags != s.notice.flags } := (rfl)

/-- Everything the pending queue can do with a notice: discard it, queue it, queue it and lose the last one, or lose it. -/
theorem NoticeUnit.take_cases (u : NoticeUnit) (n : Notice) :
    u.take n = u ∨ (u.take n = { u with queue := enqueueNotice u.queue n } ∧ u.queue.length < 32) ∨
      (∃ last, u.queue.getLast? = some last ∧ n.kind.cls.code < last.kind.cls.code ∧ 32 ≤ u.queue.length ∧
        u.take n = { u.lose last.kind.cls with queue := enqueueNotice u.queue.dropLast n }) ∨
      (u.take n = u.lose n.kind.cls ∧ 32 ≤ u.queue.length) := by
  unfold NoticeUnit.take NoticeUnit.accept
  split
  · split
    · next h => exact .inr (.inl ⟨rfl, h⟩)
    · next h =>
      split
      · next last hl =>
        split
        · next hc => exact .inr (.inr (.inl ⟨last, hl, hc, by omega, rfl⟩))
        · exact .inr (.inr (.inr ⟨rfl, by omega⟩))
      · exact .inr (.inr (.inr ⟨rfl, by omega⟩))
  · exact .inl rfl

@[simp] theorem NoticeUnit.take_enables (u : NoticeUnit) (n : Notice) : (u.take n).enables = u.enables := by
  obtain h | ⟨h, -⟩ | ⟨_, -, -, -, h⟩ | ⟨h, -⟩ := u.take_cases n <;> rw [h] <;> rfl

@[simp] theorem NoticeUnit.take_baseCopy (u : NoticeUnit) (n : Notice) : (u.take n).baseCopy = u.baseCopy := by
  obtain h | ⟨h, -⟩ | ⟨_, -, -, -, h⟩ | ⟨h, -⟩ := u.take_cases n <;> rw [h] <;> rfl

@[simp] theorem NoticeUnit.take_lengthCopy (u : NoticeUnit) (n : Notice) : (u.take n).lengthCopy = u.lengthCopy := by
  obtain h | ⟨h, -⟩ | ⟨_, -, -, -, h⟩ | ⟨h, -⟩ := u.take_cases n <;> rw [h] <;> rfl

@[simp] theorem NoticeUnit.take_consumerCopy (u : NoticeUnit) (n : Notice) : (u.take n).consumerCopy = u.consumerCopy := by
  obtain h | ⟨h, -⟩ | ⟨_, -, -, -, h⟩ | ⟨h, -⟩ := u.take_cases n <;> rw [h] <;> rfl

@[simp] theorem NoticeUnit.take_baseMark (u : NoticeUnit) (n : Notice) : (u.take n).baseMark = u.baseMark := by
  obtain h | ⟨h, -⟩ | ⟨_, -, -, -, h⟩ | ⟨h, -⟩ := u.take_cases n <;> rw [h] <;> rfl

@[simp] theorem NoticeUnit.take_lengthMark (u : NoticeUnit) (n : Notice) : (u.take n).lengthMark = u.lengthMark := by
  obtain h | ⟨h, -⟩ | ⟨_, -, -, -, h⟩ | ⟨h, -⟩ := u.take_cases n <;> rw [h] <;> rfl

@[simp] theorem NoticeUnit.take_ring (u : NoticeUnit) (n : Notice) : (u.take n).ring = u.ring := by
  obtain h | ⟨h, -⟩ | ⟨_, -, -, -, h⟩ | ⟨h, -⟩ := u.take_cases n <;> rw [h] <;> rfl

@[simp] theorem NoticeUnit.take_defBase (u : NoticeUnit) (n : Notice) : (u.take n).defBase = u.defBase := by
  obtain h | ⟨h, -⟩ | ⟨_, -, -, -, h⟩ | ⟨h, -⟩ := u.take_cases n <;> rw [h] <;> rfl

@[simp] theorem NoticeUnit.take_defLength (u : NoticeUnit) (n : Notice) : (u.take n).defLength = u.defLength := by
  obtain h | ⟨h, -⟩ | ⟨_, -, -, -, h⟩ | ⟨h, -⟩ := u.take_cases n <;> rw [h] <;> rfl

@[simp] theorem NoticeUnit.take_lengthInForce (u : NoticeUnit) (n : Notice) : (u.take n).lengthInForce = u.lengthInForce := by
  obtain h | ⟨h, -⟩ | ⟨_, -, -, -, h⟩ | ⟨h, -⟩ := u.take_cases n <;> rw [h] <;> rfl

@[simp] theorem NoticeUnit.take_producer (u : NoticeUnit) (n : Notice) : (u.take n).producer = u.producer := by
  obtain h | ⟨h, -⟩ | ⟨_, -, -, -, h⟩ | ⟨h, -⟩ := u.take_cases n <;> rw [h] <;> rfl

@[simp] theorem NoticeUnit.take_consumer (u : NoticeUnit) (n : Notice) : (u.take n).consumer = u.consumer := by
  obtain h | ⟨h, -⟩ | ⟨_, -, -, -, h⟩ | ⟨h, -⟩ := u.take_cases n <;> rw [h] <;> rfl

@[simp] theorem NoticeUnit.take_irqEnables (u : NoticeUnit) (n : Notice) : (u.take n).irqEnables = u.irqEnables := by
  obtain h | ⟨h, -⟩ | ⟨_, -, -, -, h⟩ | ⟨h, -⟩ := u.take_cases n <;> rw [h] <;> rfl

@[simp] theorem NoticeUnit.take_irq (u : NoticeUnit) (n : Notice) : (u.take n).irq = u.irq := by
  obtain h | ⟨h, -⟩ | ⟨_, -, -, -, h⟩ | ⟨h, -⟩ := u.take_cases n <;> rw [h] <;> rfl

/-! ## The ring -/

@[simp] theorem State.setRing_inReset (s : State) (r : RingState) : (s.setRing r).inReset = s.inReset := (rfl)
@[simp] theorem State.setRing_cpb (s : State) (r : RingState) : (s.setRing r).cpb = s.cpb := (rfl)
@[simp] theorem State.setRing_cpid (s : State) (r : RingState) : (s.setRing r).cpid = s.cpid := (rfl)
@[simp] theorem State.setRing_time (s : State) (r : RingState) : (s.setRing r).time = s.time := (rfl)
@[simp] theorem State.setRing_windows (s : State) (r : RingState) : (s.setRing r).windows = s.windows := (rfl)
@[simp] theorem State.setRing_intake (s : State) (r : RingState) : (s.setRing r).intake = s.intake := (rfl)
@[simp] theorem State.setRing_arb (s : State) (r : RingState) : (s.setRing r).arb = s.arb := (rfl)
@[simp] theorem State.setRing_port (s : State) (r : RingState) : (s.setRing r).port = s.port := (rfl)
@[simp] theorem State.setRing_cranes (s : State) (r : RingState) : (s.setRing r).cranes = s.cranes := (rfl)
@[simp] theorem State.setRing_grid (s : State) (r : RingState) : (s.setRing r).grid = s.grid := (rfl)
@[simp] theorem State.setRing_reefer (s : State) (r : RingState) : (s.setRing r).reefer = s.reefer := (rfl)
@[simp] theorem State.setRing_cmd (s : State) (r : RingState) : (s.setRing r).cmd = s.cmd := (rfl)
@[simp] theorem State.setRing_mirror (s : State) (r : RingState) : (s.setRing r).mirror = s.mirror := (rfl)
@[simp] theorem State.setRing_restarts (s : State) (r : RingState) : (s.setRing r).restarts = s.restarts := (rfl)
@[simp] theorem State.setRing_pending (s : State) (r : RingState) : (s.setRing r).pending = s.pending := (rfl)

@[simp] theorem State.setRing_notice (s : State) (r : RingState) : (s.setRing r).notice = { s.notice with ring := r } := rfl

@[simp] theorem State.judgeRing_inReset (s : State) : (s.judgeRing).inReset = s.inReset := by unfold State.judgeRing; split <;> simp
@[simp] theorem State.judgeRing_cpb (s : State) : (s.judgeRing).cpb = s.cpb := by unfold State.judgeRing; split <;> simp
@[simp] theorem State.judgeRing_cpid (s : State) : (s.judgeRing).cpid = s.cpid := by unfold State.judgeRing; split <;> simp
@[simp] theorem State.judgeRing_time (s : State) : (s.judgeRing).time = s.time := by unfold State.judgeRing; split <;> simp
@[simp] theorem State.judgeRing_windows (s : State) : (s.judgeRing).windows = s.windows := by unfold State.judgeRing; split <;> simp
@[simp] theorem State.judgeRing_intake (s : State) : (s.judgeRing).intake = s.intake := by unfold State.judgeRing; split <;> simp
@[simp] theorem State.judgeRing_arb (s : State) : (s.judgeRing).arb = s.arb := by unfold State.judgeRing; split <;> simp
@[simp] theorem State.judgeRing_port (s : State) : (s.judgeRing).port = s.port := by unfold State.judgeRing; split <;> simp
@[simp] theorem State.judgeRing_cranes (s : State) : (s.judgeRing).cranes = s.cranes := by unfold State.judgeRing; split <;> simp
@[simp] theorem State.judgeRing_grid (s : State) : (s.judgeRing).grid = s.grid := by unfold State.judgeRing; split <;> simp
@[simp] theorem State.judgeRing_reefer (s : State) : (s.judgeRing).reefer = s.reefer := by unfold State.judgeRing; split <;> simp
@[simp] theorem State.judgeRing_cmd (s : State) : (s.judgeRing).cmd = s.cmd := by unfold State.judgeRing; split <;> simp
@[simp] theorem State.judgeRing_mirror (s : State) : (s.judgeRing).mirror = s.mirror := by unfold State.judgeRing; split <;> simp
@[simp] theorem State.judgeRing_restarts (s : State) : (s.judgeRing).restarts = s.restarts := by unfold State.judgeRing; split <;> simp
@[simp] theorem State.judgeRing_pending (s : State) : (s.judgeRing).pending = s.pending := by unfold State.judgeRing; split <;> simp

@[simp] theorem State.rejudgeRing_inReset (s : State) : (s.rejudgeRing).inReset = s.inReset := by unfold State.rejudgeRing; split <;> simp
@[simp] theorem State.rejudgeRing_cpb (s : State) : (s.rejudgeRing).cpb = s.cpb := by unfold State.rejudgeRing; split <;> simp
@[simp] theorem State.rejudgeRing_cpid (s : State) : (s.rejudgeRing).cpid = s.cpid := by unfold State.rejudgeRing; split <;> simp
@[simp] theorem State.rejudgeRing_time (s : State) : (s.rejudgeRing).time = s.time := by unfold State.rejudgeRing; split <;> simp
@[simp] theorem State.rejudgeRing_windows (s : State) : (s.rejudgeRing).windows = s.windows := by unfold State.rejudgeRing; split <;> simp
@[simp] theorem State.rejudgeRing_intake (s : State) : (s.rejudgeRing).intake = s.intake := by unfold State.rejudgeRing; split <;> simp
@[simp] theorem State.rejudgeRing_arb (s : State) : (s.rejudgeRing).arb = s.arb := by unfold State.rejudgeRing; split <;> simp
@[simp] theorem State.rejudgeRing_port (s : State) : (s.rejudgeRing).port = s.port := by unfold State.rejudgeRing; split <;> simp
@[simp] theorem State.rejudgeRing_cranes (s : State) : (s.rejudgeRing).cranes = s.cranes := by unfold State.rejudgeRing; split <;> simp
@[simp] theorem State.rejudgeRing_grid (s : State) : (s.rejudgeRing).grid = s.grid := by unfold State.rejudgeRing; split <;> simp
@[simp] theorem State.rejudgeRing_reefer (s : State) : (s.rejudgeRing).reefer = s.reefer := by unfold State.rejudgeRing; split <;> simp
@[simp] theorem State.rejudgeRing_cmd (s : State) : (s.rejudgeRing).cmd = s.cmd := by unfold State.rejudgeRing; split <;> simp
@[simp] theorem State.rejudgeRing_mirror (s : State) : (s.rejudgeRing).mirror = s.mirror := by unfold State.rejudgeRing; split <;> simp
@[simp] theorem State.rejudgeRing_restarts (s : State) : (s.rejudgeRing).restarts = s.restarts := by unfold State.rejudgeRing; split <;> simp
@[simp] theorem State.rejudgeRing_pending (s : State) : (s.rejudgeRing).pending = s.pending := by unfold State.rejudgeRing; split <;> simp

/-- Judging the ring: READY, or INVALID with RING_DEFINE set (R151). -/
theorem State.judgeRing_notice (s : State) :
    s.judgeRing.notice = if s.ringValid then { s.notice with ring := .ready }
      else { s.notice with ring := .invalid, flags := s.notice.flags ||| Flag.ringDefine.bit } := by
  unfold State.judgeRing; split <;> simp

/-- Judging again: nothing in UNDEFINED and PARTIAL (R151). -/
theorem State.rejudgeRing_notice (s : State) :
    s.rejudgeRing.notice = if s.notice.ring = .ready ∨ s.notice.ring = .invalid then s.judgeRing.notice else s.notice := by
  unfold State.rejudgeRing; split <;> simp

/-! ## The end of an event -/

@[simp] theorem State.flushStatus_inReset (s : State) : (s.flushStatus).inReset = s.inReset := (rfl)
@[simp] theorem State.flushStatus_cpb (s : State) : (s.flushStatus).cpb = s.cpb := (rfl)
@[simp] theorem State.flushStatus_cpid (s : State) : (s.flushStatus).cpid = s.cpid := (rfl)
@[simp] theorem State.flushStatus_time (s : State) : (s.flushStatus).time = s.time := (rfl)
@[simp] theorem State.flushStatus_windows (s : State) : (s.flushStatus).windows = s.windows := (rfl)
@[simp] theorem State.flushStatus_intake (s : State) : (s.flushStatus).intake = s.intake := (rfl)
@[simp] theorem State.flushStatus_port (s : State) : (s.flushStatus).port = s.port := (rfl)
@[simp] theorem State.flushStatus_cranes (s : State) : (s.flushStatus).cranes = s.cranes := (rfl)
@[simp] theorem State.flushStatus_grid (s : State) : (s.flushStatus).grid = s.grid := (rfl)
@[simp] theorem State.flushStatus_reefer (s : State) : (s.flushStatus).reefer = s.reefer := (rfl)
@[simp] theorem State.flushStatus_notice (s : State) : (s.flushStatus).notice = s.notice := (rfl)
@[simp] theorem State.flushStatus_cmd (s : State) : (s.flushStatus).cmd = s.cmd := (rfl)
@[simp] theorem State.flushStatus_mirror (s : State) : (s.flushStatus).mirror = s.mirror := (rfl)
@[simp] theorem State.flushStatus_restarts (s : State) : (s.flushStatus).restarts = s.restarts := (rfl)
@[simp] theorem State.flushStatus_pending (s : State) : (s.flushStatus).pending = s.pending := (rfl)

@[simp] theorem State.flushStatus_scratch (s : State) : s.flushStatus.scratch = { s.scratch with statusDue := false } := (rfl)

theorem State.flushStatus_arb (s : State) :
    s.flushStatus.arb = if s.scratch.statusDue then s.arb.hand s.scratch.work ⟨s.pageAddr 0x200, s.statusBlock⟩ else s.arb := (rfl)

@[simp] theorem State.finish_inReset (s : State) : (s.finish).inReset = s.inReset := (rfl)
@[simp] theorem State.finish_cpb (s : State) : (s.finish).cpb = s.cpb := (rfl)
@[simp] theorem State.finish_cpid (s : State) : (s.finish).cpid = s.cpid := (rfl)
@[simp] theorem State.finish_time (s : State) : (s.finish).time = s.time := (rfl)
@[simp] theorem State.finish_windows (s : State) : (s.finish).windows = s.windows := (rfl)
@[simp] theorem State.finish_intake (s : State) : (s.finish).intake = s.intake := (rfl)
@[simp] theorem State.finish_port (s : State) : (s.finish).port = s.port := (rfl)
@[simp] theorem State.finish_cranes (s : State) : (s.finish).cranes = s.cranes := (rfl)
@[simp] theorem State.finish_grid (s : State) : (s.finish).grid = s.grid := (rfl)
@[simp] theorem State.finish_reefer (s : State) : (s.finish).reefer = s.reefer := (rfl)
@[simp] theorem State.finish_cmd (s : State) : (s.finish).cmd = s.cmd := (rfl)
@[simp] theorem State.finish_mirror (s : State) : (s.finish).mirror = s.mirror := (rfl)
@[simp] theorem State.finish_restarts (s : State) : (s.finish).restarts = s.restarts := (rfl)
@[simp] theorem State.finish_pending (s : State) : (s.finish).pending = s.pending := (rfl)

@[simp] theorem State.finish_notice (s : State) : s.finish.notice = { s.notice with irq := s.notice.irqCondition } := (rfl)

@[simp] theorem State.finish_scratch (s : State) : s.finish.scratch = .idle := (rfl)

@[simp] theorem State.finish_arb (s : State) : s.finish.arb = s.flushStatus.arb := (rfl)

@[simp] theorem State.setScratch_statusBlock (s : State) (e : EventScratch) : (s.setScratch e).statusBlock = s.statusBlock := (rfl)

@[simp] theorem State.setArb_statusBlock (s : State) (a : Arbiter) : (s.setArb a).statusBlock = s.statusBlock := (rfl)

@[simp] theorem State.flushStatus_statusBlock (s : State) : s.flushStatus.statusBlock = s.statusBlock := (rfl)

@[simp] theorem State.finish_statusBlock (s : State) : s.finish.statusBlock = s.statusBlock := (rfl)

/-- The end of an event that has called for no status block. -/
theorem State.finish_quiet (s : State) (h : s.scratch.statusDue = false) :
    s.finish = (s.setNotice { s.notice with irq := s.notice.irqCondition }).setScratch .idle := by
  simp [State.finish, State.flushStatus, h, State.followIrq, State.setNotice, State.setScratch, State.setArb]

/-- The end of an event that has called for a status block. -/
theorem State.finish_due (s : State) (h : s.scratch.statusDue = true) :
    s.finish = ((s.setArb (s.arb.hand s.scratch.work ⟨s.pageAddr 0x200, s.statusBlock⟩)).setNotice
      { s.notice with irq := s.notice.irqCondition }).setScratch .idle := by
  simp [State.finish, State.flushStatus, h, State.followIrq, State.setNotice, State.setScratch, State.setArb]

@[simp] theorem State.beginEvent_inReset (s : State) (k : Work) : (s.beginEvent k).inReset = s.inReset := (rfl)
@[simp] theorem State.beginEvent_cpb (s : State) (k : Work) : (s.beginEvent k).cpb = s.cpb := (rfl)
@[simp] theorem State.beginEvent_cpid (s : State) (k : Work) : (s.beginEvent k).cpid = s.cpid := (rfl)
@[simp] theorem State.beginEvent_time (s : State) (k : Work) : (s.beginEvent k).time = s.time := (rfl)
@[simp] theorem State.beginEvent_windows (s : State) (k : Work) : (s.beginEvent k).windows = s.windows := (rfl)
@[simp] theorem State.beginEvent_intake (s : State) (k : Work) : (s.beginEvent k).intake = s.intake := (rfl)
@[simp] theorem State.beginEvent_arb (s : State) (k : Work) : (s.beginEvent k).arb = s.arb := (rfl)
@[simp] theorem State.beginEvent_port (s : State) (k : Work) : (s.beginEvent k).port = s.port := (rfl)
@[simp] theorem State.beginEvent_cranes (s : State) (k : Work) : (s.beginEvent k).cranes = s.cranes := (rfl)
@[simp] theorem State.beginEvent_grid (s : State) (k : Work) : (s.beginEvent k).grid = s.grid := (rfl)
@[simp] theorem State.beginEvent_reefer (s : State) (k : Work) : (s.beginEvent k).reefer = s.reefer := (rfl)
@[simp] theorem State.beginEvent_notice (s : State) (k : Work) : (s.beginEvent k).notice = s.notice := (rfl)
@[simp] theorem State.beginEvent_cmd (s : State) (k : Work) : (s.beginEvent k).cmd = s.cmd := (rfl)
@[simp] theorem State.beginEvent_mirror (s : State) (k : Work) : (s.beginEvent k).mirror = s.mirror := (rfl)
@[simp] theorem State.beginEvent_restarts (s : State) (k : Work) : (s.beginEvent k).restarts = s.restarts := (rfl)
@[simp] theorem State.beginEvent_pending (s : State) (k : Work) : (s.beginEvent k).pending = s.pending := (rfl)

@[simp] theorem State.beginEvent_scratch (s : State) (k : Work) : (s.beginEvent k).scratch = { EventScratch.idle with work := k } := (rfl)

/-- Everything an event can do: nothing, or its effect and the end of the event. -/
theorem event_cases {work : Work} {s t : State} {enabled : Bool} {f : State → State} (h : event work s enabled f = .next t) :
    t = s ∨ (s.inReset = false ∧ enabled = true ∧ s.arb.holds work = false ∧
      t = (f (s.beginEvent work)).finish) := by
  unfold event at h
  injection h with h
  split at h
  · exact .inl h.symm
  · next hc => right; simp at hc; exact ⟨hc.1.1, hc.1.2, hc.2, h.symm⟩

/-- Where an event comes about. -/
theorem event_next {work : Work} {s : State} {enabled : Bool} {f : State → State} (hr : s.inReset = false)
    (he : enabled = true) (hh : s.arb.holds work = false) :
    event work s enabled f = .next (f (s.beginEvent work)).finish := by
  simp [event, hr, he, hh]

/-- Everything a quiet event can do: nothing, or its effect. -/
theorem quietEvent_cases {s t : State} {enabled : Bool} {f : State → State} (h : quietEvent s enabled f = .next t) :
    t = s ∨ (s.inReset = false ∧ enabled = true ∧ t = f s) := by
  unfold quietEvent at h
  injection h with h
  split at h
  · exact .inl h.symm
  · next hc => right; simp at hc; exact ⟨hc.1, hc.2, h.symm⟩

/-- Where a quiet event comes about. -/
theorem quietEvent_next {s : State} {enabled : Bool} {f : State → State} (hr : s.inReset = false) (he : enabled = true) :
    quietEvent s enabled f = .next (f s) := by
  simp [quietEvent, hr, he]

/-! ## Cranes: mirror record, expiry, link transitions -/

@[simp] theorem State.writeCraneMirror_inReset (s : State) (i : Fin 16) : (s.writeCraneMirror i).inReset = s.inReset := by unfold State.writeCraneMirror; split <;> simp
@[simp] theorem State.writeCraneMirror_cpb (s : State) (i : Fin 16) : (s.writeCraneMirror i).cpb = s.cpb := by unfold State.writeCraneMirror; split <;> simp
@[simp] theorem State.writeCraneMirror_cpid (s : State) (i : Fin 16) : (s.writeCraneMirror i).cpid = s.cpid := by unfold State.writeCraneMirror; split <;> simp
@[simp] theorem State.writeCraneMirror_time (s : State) (i : Fin 16) : (s.writeCraneMirror i).time = s.time := by unfold State.writeCraneMirror; split <;> simp
@[simp] theorem State.writeCraneMirror_windows (s : State) (i : Fin 16) : (s.writeCraneMirror i).windows = s.windows := by unfold State.writeCraneMirror; split <;> simp
@[simp] theorem State.writeCraneMirror_intake (s : State) (i : Fin 16) : (s.writeCraneMirror i).intake = s.intake := by unfold State.writeCraneMirror; split <;> simp
@[simp] theorem State.writeCraneMirror_port (s : State) (i : Fin 16) : (s.writeCraneMirror i).port = s.port := by unfold State.writeCraneMirror; split <;> simp
@[simp] theorem State.writeCraneMirror_cranes (s : State) (i : Fin 16) : (s.writeCraneMirror i).cranes = s.cranes := by unfold State.writeCraneMirror; split <;> simp
@[simp] theorem State.writeCraneMirror_grid (s : State) (i : Fin 16) : (s.writeCraneMirror i).grid = s.grid := by unfold State.writeCraneMirror; split <;> simp
@[simp] theorem State.writeCraneMirror_reefer (s : State) (i : Fin 16) : (s.writeCraneMirror i).reefer = s.reefer := by unfold State.writeCraneMirror; split <;> simp
@[simp] theorem State.writeCraneMirror_notice (s : State) (i : Fin 16) : (s.writeCraneMirror i).notice = s.notice := by unfold State.writeCraneMirror; split <;> simp
@[simp] theorem State.writeCraneMirror_cmd (s : State) (i : Fin 16) : (s.writeCraneMirror i).cmd = s.cmd := by unfold State.writeCraneMirror; split <;> simp
@[simp] theorem State.writeCraneMirror_mirror (s : State) (i : Fin 16) : (s.writeCraneMirror i).mirror = s.mirror := by unfold State.writeCraneMirror; split <;> simp
@[simp] theorem State.writeCraneMirror_restarts (s : State) (i : Fin 16) : (s.writeCraneMirror i).restarts = s.restarts := by unfold State.writeCraneMirror; split <;> simp
@[simp] theorem State.writeCraneMirror_pending (s : State) (i : Fin 16) : (s.writeCraneMirror i).pending = s.pending := by unfold State.writeCraneMirror; split <;> simp

@[simp] theorem State.expireSlot_inReset (s : State) (i : Fin 16) (n : Nat) : (s.expireSlot i n).inReset = s.inReset := (rfl)
@[simp] theorem State.expireSlot_cpb (s : State) (i : Fin 16) (n : Nat) : (s.expireSlot i n).cpb = s.cpb := (rfl)
@[simp] theorem State.expireSlot_cpid (s : State) (i : Fin 16) (n : Nat) : (s.expireSlot i n).cpid = s.cpid := (rfl)
@[simp] theorem State.expireSlot_time (s : State) (i : Fin 16) (n : Nat) : (s.expireSlot i n).time = s.time := (rfl)
@[simp] theorem State.expireSlot_windows (s : State) (i : Fin 16) (n : Nat) : (s.expireSlot i n).windows = s.windows := (rfl)
@[simp] theorem State.expireSlot_intake (s : State) (i : Fin 16) (n : Nat) : (s.expireSlot i n).intake = s.intake := (rfl)
@[simp] theorem State.expireSlot_arb (s : State) (i : Fin 16) (n : Nat) : (s.expireSlot i n).arb = s.arb := (rfl)
@[simp] theorem State.expireSlot_port (s : State) (i : Fin 16) (n : Nat) : (s.expireSlot i n).port = s.port := (rfl)
@[simp] theorem State.expireSlot_grid (s : State) (i : Fin 16) (n : Nat) : (s.expireSlot i n).grid = s.grid := (rfl)
@[simp] theorem State.expireSlot_reefer (s : State) (i : Fin 16) (n : Nat) : (s.expireSlot i n).reefer = s.reefer := (rfl)
@[simp] theorem State.expireSlot_cmd (s : State) (i : Fin 16) (n : Nat) : (s.expireSlot i n).cmd = s.cmd := (rfl)
@[simp] theorem State.expireSlot_mirror (s : State) (i : Fin 16) (n : Nat) : (s.expireSlot i n).mirror = s.mirror := (rfl)
@[simp] theorem State.expireSlot_restarts (s : State) (i : Fin 16) (n : Nat) : (s.expireSlot i n).restarts = s.restarts := (rfl)
@[simp] theorem State.expireSlot_pending (s : State) (i : Fin 16) (n : Nat) : (s.expireSlot i n).pending = s.pending := (rfl)

@[simp] theorem State.expirePassed_inReset (s : State) (i : Fin 16) (k : Nat) : (s.expirePassed i k).inReset = s.inReset := by
  induction k generalizing s with
  | zero => rfl
  | succ k ih => unfold State.expirePassed; split <;> simp [ih]
@[simp] theorem State.expirePassed_cpb (s : State) (i : Fin 16) (k : Nat) : (s.expirePassed i k).cpb = s.cpb := by
  induction k generalizing s with
  | zero => rfl
  | succ k ih => unfold State.expirePassed; split <;> simp [ih]
@[simp] theorem State.expirePassed_cpid (s : State) (i : Fin 16) (k : Nat) : (s.expirePassed i k).cpid = s.cpid := by
  induction k generalizing s with
  | zero => rfl
  | succ k ih => unfold State.expirePassed; split <;> simp [ih]
@[simp] theorem State.expirePassed_time (s : State) (i : Fin 16) (k : Nat) : (s.expirePassed i k).time = s.time := by
  induction k generalizing s with
  | zero => rfl
  | succ k ih => unfold State.expirePassed; split <;> simp [ih]
@[simp] theorem State.expirePassed_windows (s : State) (i : Fin 16) (k : Nat) : (s.expirePassed i k).windows = s.windows := by
  induction k generalizing s with
  | zero => rfl
  | succ k ih => unfold State.expirePassed; split <;> simp [ih]
@[simp] theorem State.expirePassed_intake (s : State) (i : Fin 16) (k : Nat) : (s.expirePassed i k).intake = s.intake := by
  induction k generalizing s with
  | zero => rfl
  | succ k ih => unfold State.expirePassed; split <;> simp [ih]
@[simp] theorem State.expirePassed_arb (s : State) (i : Fin 16) (k : Nat) : (s.expirePassed i k).arb = s.arb := by
  induction k generalizing s with
  | zero => rfl
  | succ k ih => unfold State.expirePassed; split <;> simp [ih]
@[simp] theorem State.expirePassed_port (s : State) (i : Fin 16) (k : Nat) : (s.expirePassed i k).port = s.port := by
  induction k generalizing s with
  | zero => rfl
  | succ k ih => unfold State.expirePassed; split <;> simp [ih]
@[simp] theorem State.expirePassed_grid (s : State) (i : Fin 16) (k : Nat) : (s.expirePassed i k).grid = s.grid := by
  induction k generalizing s with
  | zero => rfl
  | succ k ih => unfold State.expirePassed; split <;> simp [ih]
@[simp] theorem State.expirePassed_reefer (s : State) (i : Fin 16) (k : Nat) : (s.expirePassed i k).reefer = s.reefer := by
  induction k generalizing s with
  | zero => rfl
  | succ k ih => unfold State.expirePassed; split <;> simp [ih]
@[simp] theorem State.expirePassed_cmd (s : State) (i : Fin 16) (k : Nat) : (s.expirePassed i k).cmd = s.cmd := by
  induction k generalizing s with
  | zero => rfl
  | succ k ih => unfold State.expirePassed; split <;> simp [ih]
@[simp] theorem State.expirePassed_mirror (s : State) (i : Fin 16) (k : Nat) : (s.expirePassed i k).mirror = s.mirror := by
  induction k generalizing s with
  | zero => rfl
  | succ k ih => unfold State.expirePassed; split <;> simp [ih]
@[simp] theorem State.expirePassed_restarts (s : State) (i : Fin 16) (k : Nat) : (s.expirePassed i k).restarts = s.restarts := by
  induction k generalizing s with
  | zero => rfl
  | succ k ih => unfold State.expirePassed; split <;> simp [ih]
@[simp] theorem State.expirePassed_pending (s : State) (i : Fin 16) (k : Nat) : (s.expirePassed i k).pending = s.pending := by
  induction k generalizing s with
  | zero => rfl
  | succ k ih => unfold State.expirePassed; split <;> simp [ih]

@[simp] theorem State.enterDegraded_inReset (s : State) (i : Fin 16) : (s.enterDegraded i).inReset = s.inReset := by simp [State.enterDegraded]
@[simp] theorem State.enterDegraded_cpb (s : State) (i : Fin 16) : (s.enterDegraded i).cpb = s.cpb := by simp [State.enterDegraded]
@[simp] theorem State.enterDegraded_cpid (s : State) (i : Fin 16) : (s.enterDegraded i).cpid = s.cpid := by simp [State.enterDegraded]
@[simp] theorem State.enterDegraded_time (s : State) (i : Fin 16) : (s.enterDegraded i).time = s.time := by simp [State.enterDegraded]
@[simp] theorem State.enterDegraded_windows (s : State) (i : Fin 16) : (s.enterDegraded i).windows = s.windows := by simp [State.enterDegraded]
@[simp] theorem State.enterDegraded_intake (s : State) (i : Fin 16) : (s.enterDegraded i).intake = s.intake := by simp [State.enterDegraded]
@[simp] theorem State.enterDegraded_port (s : State) (i : Fin 16) : (s.enterDegraded i).port = s.port := by simp [State.enterDegraded]
@[simp] theorem State.enterDegraded_grid (s : State) (i : Fin 16) : (s.enterDegraded i).grid = s.grid := by simp [State.enterDegraded]
@[simp] theorem State.enterDegraded_reefer (s : State) (i : Fin 16) : (s.enterDegraded i).reefer = s.reefer := by simp [State.enterDegraded]
@[simp] theorem State.enterDegraded_cmd (s : State) (i : Fin 16) : (s.enterDegraded i).cmd = s.cmd := by simp [State.enterDegraded]
@[simp] theorem State.enterDegraded_mirror (s : State) (i : Fin 16) : (s.enterDegraded i).mirror = s.mirror := by simp [State.enterDegraded]
@[simp] theorem State.enterDegraded_restarts (s : State) (i : Fin 16) : (s.enterDegraded i).restarts = s.restarts := by simp [State.enterDegraded]
@[simp] theorem State.enterDegraded_pending (s : State) (i : Fin 16) : (s.enterDegraded i).pending = s.pending := by simp [State.enterDegraded]

@[simp] theorem State.enterLinked_inReset (s : State) (i : Fin 16) (k : NoticeKind) : (s.enterLinked i k).inReset = s.inReset := by simp [State.enterLinked]
@[simp] theorem State.enterLinked_cpb (s : State) (i : Fin 16) (k : NoticeKind) : (s.enterLinked i k).cpb = s.cpb := by simp [State.enterLinked]
@[simp] theorem State.enterLinked_cpid (s : State) (i : Fin 16) (k : NoticeKind) : (s.enterLinked i k).cpid = s.cpid := by simp [State.enterLinked]
@[simp] theorem State.enterLinked_time (s : State) (i : Fin 16) (k : NoticeKind) : (s.enterLinked i k).time = s.time := by simp [State.enterLinked]
@[simp] theorem State.enterLinked_windows (s : State) (i : Fin 16) (k : NoticeKind) : (s.enterLinked i k).windows = s.windows := by simp [State.enterLinked]
@[simp] theorem State.enterLinked_intake (s : State) (i : Fin 16) (k : NoticeKind) : (s.enterLinked i k).intake = s.intake := by simp [State.enterLinked]
@[simp] theorem State.enterLinked_port (s : State) (i : Fin 16) (k : NoticeKind) : (s.enterLinked i k).port = s.port := by simp [State.enterLinked]
@[simp] theorem State.enterLinked_grid (s : State) (i : Fin 16) (k : NoticeKind) : (s.enterLinked i k).grid = s.grid := by simp [State.enterLinked]
@[simp] theorem State.enterLinked_reefer (s : State) (i : Fin 16) (k : NoticeKind) : (s.enterLinked i k).reefer = s.reefer := by simp [State.enterLinked]
@[simp] theorem State.enterLinked_cmd (s : State) (i : Fin 16) (k : NoticeKind) : (s.enterLinked i k).cmd = s.cmd := by simp [State.enterLinked]
@[simp] theorem State.enterLinked_mirror (s : State) (i : Fin 16) (k : NoticeKind) : (s.enterLinked i k).mirror = s.mirror := by simp [State.enterLinked]
@[simp] theorem State.enterLinked_restarts (s : State) (i : Fin 16) (k : NoticeKind) : (s.enterLinked i k).restarts = s.restarts := by simp [State.enterLinked]
@[simp] theorem State.enterLinked_pending (s : State) (i : Fin 16) (k : NoticeKind) : (s.enterLinked i k).pending = s.pending := by simp [State.enterLinked]

@[simp] theorem State.expireHeartbeat_inReset (s : State) (i : Fin 16) : (s.expireHeartbeat i).inReset = s.inReset := by unfold State.expireHeartbeat; dsimp only; split <;> simp
@[simp] theorem State.expireHeartbeat_cpb (s : State) (i : Fin 16) : (s.expireHeartbeat i).cpb = s.cpb := by unfold State.expireHeartbeat; dsimp only; split <;> simp
@[simp] theorem State.expireHeartbeat_cpid (s : State) (i : Fin 16) : (s.expireHeartbeat i).cpid = s.cpid := by unfold State.expireHeartbeat; dsimp only; split <;> simp
@[simp] theorem State.expireHeartbeat_time (s : State) (i : Fin 16) : (s.expireHeartbeat i).time = s.time := by unfold State.expireHeartbeat; dsimp only; split <;> simp
@[simp] theorem State.expireHeartbeat_windows (s : State) (i : Fin 16) : (s.expireHeartbeat i).windows = s.windows := by unfold State.expireHeartbeat; dsimp only; split <;> simp
@[simp] theorem State.expireHeartbeat_intake (s : State) (i : Fin 16) : (s.expireHeartbeat i).intake = s.intake := by unfold State.expireHeartbeat; dsimp only; split <;> simp
@[simp] theorem State.expireHeartbeat_port (s : State) (i : Fin 16) : (s.expireHeartbeat i).port = s.port := by unfold State.expireHeartbeat; dsimp only; split <;> simp
@[simp] theorem State.expireHeartbeat_grid (s : State) (i : Fin 16) : (s.expireHeartbeat i).grid = s.grid := by unfold State.expireHeartbeat; dsimp only; split <;> simp
@[simp] theorem State.expireHeartbeat_reefer (s : State) (i : Fin 16) : (s.expireHeartbeat i).reefer = s.reefer := by unfold State.expireHeartbeat; dsimp only; split <;> simp
@[simp] theorem State.expireHeartbeat_cmd (s : State) (i : Fin 16) : (s.expireHeartbeat i).cmd = s.cmd := by unfold State.expireHeartbeat; dsimp only; split <;> simp
@[simp] theorem State.expireHeartbeat_mirror (s : State) (i : Fin 16) : (s.expireHeartbeat i).mirror = s.mirror := by unfold State.expireHeartbeat; dsimp only; split <;> simp
@[simp] theorem State.expireHeartbeat_restarts (s : State) (i : Fin 16) : (s.expireHeartbeat i).restarts = s.restarts := by unfold State.expireHeartbeat; dsimp only; split <;> simp
@[simp] theorem State.expireHeartbeat_pending (s : State) (i : Fin 16) : (s.expireHeartbeat i).pending = s.pending := by unfold State.expireHeartbeat; dsimp only; split <;> simp

@[simp] theorem State.judgeOnSquare_inReset (s : State) (i : Fin 16) (a b : SquareState) : (s.judgeOnSquare i a b).inReset = s.inReset := by
  unfold State.judgeOnSquare; dsimp only; split <;> (try split) <;> simp
@[simp] theorem State.judgeOnSquare_cpb (s : State) (i : Fin 16) (a b : SquareState) : (s.judgeOnSquare i a b).cpb = s.cpb := by
  unfold State.judgeOnSquare; dsimp only; split <;> (try split) <;> simp
@[simp] theorem State.judgeOnSquare_cpid (s : State) (i : Fin 16) (a b : SquareState) : (s.judgeOnSquare i a b).cpid = s.cpid := by
  unfold State.judgeOnSquare; dsimp only; split <;> (try split) <;> simp
@[simp] theorem State.judgeOnSquare_time (s : State) (i : Fin 16) (a b : SquareState) : (s.judgeOnSquare i a b).time = s.time := by
  unfold State.judgeOnSquare; dsimp only; split <;> (try split) <;> simp
@[simp] theorem State.judgeOnSquare_windows (s : State) (i : Fin 16) (a b : SquareState) : (s.judgeOnSquare i a b).windows = s.windows := by
  unfold State.judgeOnSquare; dsimp only; split <;> (try split) <;> simp
@[simp] theorem State.judgeOnSquare_intake (s : State) (i : Fin 16) (a b : SquareState) : (s.judgeOnSquare i a b).intake = s.intake := by
  unfold State.judgeOnSquare; dsimp only; split <;> (try split) <;> simp
@[simp] theorem State.judgeOnSquare_port (s : State) (i : Fin 16) (a b : SquareState) : (s.judgeOnSquare i a b).port = s.port := by
  unfold State.judgeOnSquare; dsimp only; split <;> (try split) <;> simp
@[simp] theorem State.judgeOnSquare_grid (s : State) (i : Fin 16) (a b : SquareState) : (s.judgeOnSquare i a b).grid = s.grid := by
  unfold State.judgeOnSquare; dsimp only; split <;> (try split) <;> simp
@[simp] theorem State.judgeOnSquare_reefer (s : State) (i : Fin 16) (a b : SquareState) : (s.judgeOnSquare i a b).reefer = s.reefer := by
  unfold State.judgeOnSquare; dsimp only; split <;> (try split) <;> simp
@[simp] theorem State.judgeOnSquare_cmd (s : State) (i : Fin 16) (a b : SquareState) : (s.judgeOnSquare i a b).cmd = s.cmd := by
  unfold State.judgeOnSquare; dsimp only; split <;> (try split) <;> simp
@[simp] theorem State.judgeOnSquare_mirror (s : State) (i : Fin 16) (a b : SquareState) : (s.judgeOnSquare i a b).mirror = s.mirror := by
  unfold State.judgeOnSquare; dsimp only; split <;> (try split) <;> simp
@[simp] theorem State.judgeOnSquare_restarts (s : State) (i : Fin 16) (a b : SquareState) : (s.judgeOnSquare i a b).restarts = s.restarts := by
  unfold State.judgeOnSquare; dsimp only; split <;> (try split) <;> simp
@[simp] theorem State.judgeOnSquare_pending (s : State) (i : Fin 16) (a b : SquareState) : (s.judgeOnSquare i a b).pending = s.pending := by
  unfold State.judgeOnSquare; dsimp only; split <;> (try split) <;> simp

@[simp] theorem State.reportSquare_inReset (s : State) (q : Fin 512) (a b : SquareState) : (s.reportSquare q a b).inReset = s.inReset := by
  unfold State.reportSquare
  generalize List.finRange 16 = l
  induction l generalizing s with
  | nil => rfl
  | cons i l ih => rw [List.foldl_cons, ih]; split <;> simp
@[simp] theorem State.reportSquare_cpb (s : State) (q : Fin 512) (a b : SquareState) : (s.reportSquare q a b).cpb = s.cpb := by
  unfold State.reportSquare
  generalize List.finRange 16 = l
  induction l generalizing s with
  | nil => rfl
  | cons i l ih => rw [List.foldl_cons, ih]; split <;> simp
@[simp] theorem State.reportSquare_cpid (s : State) (q : Fin 512) (a b : SquareState) : (s.reportSquare q a b).cpid = s.cpid := by
  unfold State.reportSquare
  generalize List.finRange 16 = l
  induction l generalizing s with
  | nil => rfl
  | cons i l ih => rw [List.foldl_cons, ih]; split <;> simp
@[simp] theorem State.reportSquare_time (s : State) (q : Fin 512) (a b : SquareState) : (s.reportSquare q a b).time = s.time := by
  unfold State.reportSquare
  generalize List.finRange 16 = l
  induction l generalizing s with
  | nil => rfl
  | cons i l ih => rw [List.foldl_cons, ih]; split <;> simp
@[simp] theorem State.reportSquare_windows (s : State) (q : Fin 512) (a b : SquareState) : (s.reportSquare q a b).windows = s.windows := by
  unfold State.reportSquare
  generalize List.finRange 16 = l
  induction l generalizing s with
  | nil => rfl
  | cons i l ih => rw [List.foldl_cons, ih]; split <;> simp
@[simp] theorem State.reportSquare_intake (s : State) (q : Fin 512) (a b : SquareState) : (s.reportSquare q a b).intake = s.intake := by
  unfold State.reportSquare
  generalize List.finRange 16 = l
  induction l generalizing s with
  | nil => rfl
  | cons i l ih => rw [List.foldl_cons, ih]; split <;> simp
@[simp] theorem State.reportSquare_port (s : State) (q : Fin 512) (a b : SquareState) : (s.reportSquare q a b).port = s.port := by
  unfold State.reportSquare
  generalize List.finRange 16 = l
  induction l generalizing s with
  | nil => rfl
  | cons i l ih => rw [List.foldl_cons, ih]; split <;> simp
@[simp] theorem State.reportSquare_grid (s : State) (q : Fin 512) (a b : SquareState) : (s.reportSquare q a b).grid = s.grid := by
  unfold State.reportSquare
  generalize List.finRange 16 = l
  induction l generalizing s with
  | nil => rfl
  | cons i l ih => rw [List.foldl_cons, ih]; split <;> simp
@[simp] theorem State.reportSquare_reefer (s : State) (q : Fin 512) (a b : SquareState) : (s.reportSquare q a b).reefer = s.reefer := by
  unfold State.reportSquare
  generalize List.finRange 16 = l
  induction l generalizing s with
  | nil => rfl
  | cons i l ih => rw [List.foldl_cons, ih]; split <;> simp
@[simp] theorem State.reportSquare_cmd (s : State) (q : Fin 512) (a b : SquareState) : (s.reportSquare q a b).cmd = s.cmd := by
  unfold State.reportSquare
  generalize List.finRange 16 = l
  induction l generalizing s with
  | nil => rfl
  | cons i l ih => rw [List.foldl_cons, ih]; split <;> simp
@[simp] theorem State.reportSquare_mirror (s : State) (q : Fin 512) (a b : SquareState) : (s.reportSquare q a b).mirror = s.mirror := by
  unfold State.reportSquare
  generalize List.finRange 16 = l
  induction l generalizing s with
  | nil => rfl
  | cons i l ih => rw [List.foldl_cons, ih]; split <;> simp
@[simp] theorem State.reportSquare_restarts (s : State) (q : Fin 512) (a b : SquareState) : (s.reportSquare q a b).restarts = s.restarts := by
  unfold State.reportSquare
  generalize List.finRange 16 = l
  induction l generalizing s with
  | nil => rfl
  | cons i l ih => rw [List.foldl_cons, ih]; split <;> simp
@[simp] theorem State.reportSquare_pending (s : State) (q : Fin 512) (a b : SquareState) : (s.reportSquare q a b).pending = s.pending := by
  unfold State.reportSquare
  generalize List.finRange 16 = l
  induction l generalizing s with
  | nil => rfl
  | cons i l ih => rw [List.foldl_cons, ih]; split <;> simp

@[simp] theorem State.judgeOnRecord_inReset (s : State) (i : Fin 16) (own : UplinkOutcome) : (s.judgeOnRecord i own).inReset = s.inReset := by
  unfold State.judgeOnRecord; dsimp only; split <;> (try split) <;> (try split) <;> simp
@[simp] theorem State.judgeOnRecord_cpb (s : State) (i : Fin 16) (own : UplinkOutcome) : (s.judgeOnRecord i own).cpb = s.cpb := by
  unfold State.judgeOnRecord; dsimp only; split <;> (try split) <;> (try split) <;> simp
@[simp] theorem State.judgeOnRecord_cpid (s : State) (i : Fin 16) (own : UplinkOutcome) : (s.judgeOnRecord i own).cpid = s.cpid := by
  unfold State.judgeOnRecord; dsimp only; split <;> (try split) <;> (try split) <;> simp
@[simp] theorem State.judgeOnRecord_time (s : State) (i : Fin 16) (own : UplinkOutcome) : (s.judgeOnRecord i own).time = s.time := by
  unfold State.judgeOnRecord; dsimp only; split <;> (try split) <;> (try split) <;> simp
@[simp] theorem State.judgeOnRecord_windows (s : State) (i : Fin 16) (own : UplinkOutcome) : (s.judgeOnRecord i own).windows = s.windows := by
  unfold State.judgeOnRecord; dsimp only; split <;> (try split) <;> (try split) <;> simp
@[simp] theorem State.judgeOnRecord_intake (s : State) (i : Fin 16) (own : UplinkOutcome) : (s.judgeOnRecord i own).intake = s.intake := by
  unfold State.judgeOnRecord; dsimp only; split <;> (try split) <;> (try split) <;> simp
@[simp] theorem State.judgeOnRecord_port (s : State) (i : Fin 16) (own : UplinkOutcome) : (s.judgeOnRecord i own).port = s.port := by
  unfold State.judgeOnRecord; dsimp only; split <;> (try split) <;> (try split) <;> simp
@[simp] theorem State.judgeOnRecord_grid (s : State) (i : Fin 16) (own : UplinkOutcome) : (s.judgeOnRecord i own).grid = s.grid := by
  unfold State.judgeOnRecord; dsimp only; split <;> (try split) <;> (try split) <;> simp
@[simp] theorem State.judgeOnRecord_reefer (s : State) (i : Fin 16) (own : UplinkOutcome) : (s.judgeOnRecord i own).reefer = s.reefer := by
  unfold State.judgeOnRecord; dsimp only; split <;> (try split) <;> (try split) <;> simp
@[simp] theorem State.judgeOnRecord_cmd (s : State) (i : Fin 16) (own : UplinkOutcome) : (s.judgeOnRecord i own).cmd = s.cmd := by
  unfold State.judgeOnRecord; dsimp only; split <;> (try split) <;> (try split) <;> simp
@[simp] theorem State.judgeOnRecord_mirror (s : State) (i : Fin 16) (own : UplinkOutcome) : (s.judgeOnRecord i own).mirror = s.mirror := by
  unfold State.judgeOnRecord; dsimp only; split <;> (try split) <;> (try split) <;> simp
@[simp] theorem State.judgeOnRecord_restarts (s : State) (i : Fin 16) (own : UplinkOutcome) : (s.judgeOnRecord i own).restarts = s.restarts := by
  unfold State.judgeOnRecord; dsimp only; split <;> (try split) <;> (try split) <;> simp
@[simp] theorem State.judgeOnRecord_pending (s : State) (i : Fin 16) (own : UplinkOutcome) : (s.judgeOnRecord i own).pending = s.pending := by
  unfold State.judgeOnRecord; dsimp only; split <;> (try split) <;> (try split) <;> simp

end Sys2Proof.Machine
end

