-- ==== Sys2Proof/Laws/Blocks.lean ====
section
/-! SUPPORT. Which blocks each operation of the chapters leaves unchanged. -/

namespace Sys2Proof.Machine

/-! ## Coverage Grid -/

@[simp] theorem State.writeGridMirror_inReset (s : State) (q : Fin 512) : (s.writeGridMirror q).inReset = s.inReset := (rfl)
@[simp] theorem State.writeGridMirror_cpb (s : State) (q : Fin 512) : (s.writeGridMirror q).cpb = s.cpb := (rfl)
@[simp] theorem State.writeGridMirror_cpid (s : State) (q : Fin 512) : (s.writeGridMirror q).cpid = s.cpid := (rfl)
@[simp] theorem State.writeGridMirror_time (s : State) (q : Fin 512) : (s.writeGridMirror q).time = s.time := (rfl)
@[simp] theorem State.writeGridMirror_windows (s : State) (q : Fin 512) : (s.writeGridMirror q).windows = s.windows := (rfl)
@[simp] theorem State.writeGridMirror_intake (s : State) (q : Fin 512) : (s.writeGridMirror q).intake = s.intake := (rfl)
@[simp] theorem State.writeGridMirror_port (s : State) (q : Fin 512) : (s.writeGridMirror q).port = s.port := (rfl)
@[simp] theorem State.writeGridMirror_cranes (s : State) (q : Fin 512) : (s.writeGridMirror q).cranes = s.cranes := (rfl)
@[simp] theorem State.writeGridMirror_grid (s : State) (q : Fin 512) : (s.writeGridMirror q).grid = s.grid := (rfl)
@[simp] theorem State.writeGridMirror_reefer (s : State) (q : Fin 512) : (s.writeGridMirror q).reefer = s.reefer := (rfl)
@[simp] theorem State.writeGridMirror_notice (s : State) (q : Fin 512) : (s.writeGridMirror q).notice = s.notice := (rfl)
@[simp] theorem State.writeGridMirror_cmd (s : State) (q : Fin 512) : (s.writeGridMirror q).cmd = s.cmd := (rfl)
@[simp] theorem State.writeGridMirror_mirror (s : State) (q : Fin 512) : (s.writeGridMirror q).mirror = s.mirror := (rfl)
@[simp] theorem State.writeGridMirror_scratch (s : State) (q : Fin 512) : (s.writeGridMirror q).scratch = s.scratch := (rfl)
@[simp] theorem State.writeGridMirror_restarts (s : State) (q : Fin 512) : (s.writeGridMirror q).restarts = s.restarts := (rfl)
@[simp] theorem State.writeGridMirror_pending (s : State) (q : Fin 512) : (s.writeGridMirror q).pending = s.pending := (rfl)

@[simp] theorem State.afterRecompute_inReset (s : State) (q : Fin 512) (old : Square) : (s.afterRecompute q old).inReset = s.inReset := by
  unfold State.afterRecompute; dsimp only; split <;> split <;> simp
@[simp] theorem State.afterRecompute_cpb (s : State) (q : Fin 512) (old : Square) : (s.afterRecompute q old).cpb = s.cpb := by
  unfold State.afterRecompute; dsimp only; split <;> split <;> simp
@[simp] theorem State.afterRecompute_cpid (s : State) (q : Fin 512) (old : Square) : (s.afterRecompute q old).cpid = s.cpid := by
  unfold State.afterRecompute; dsimp only; split <;> split <;> simp
@[simp] theorem State.afterRecompute_time (s : State) (q : Fin 512) (old : Square) : (s.afterRecompute q old).time = s.time := by
  unfold State.afterRecompute; dsimp only; split <;> split <;> simp
@[simp] theorem State.afterRecompute_windows (s : State) (q : Fin 512) (old : Square) : (s.afterRecompute q old).windows = s.windows := by
  unfold State.afterRecompute; dsimp only; split <;> split <;> simp
@[simp] theorem State.afterRecompute_intake (s : State) (q : Fin 512) (old : Square) : (s.afterRecompute q old).intake = s.intake := by
  unfold State.afterRecompute; dsimp only; split <;> split <;> simp
@[simp] theorem State.afterRecompute_port (s : State) (q : Fin 512) (old : Square) : (s.afterRecompute q old).port = s.port := by
  unfold State.afterRecompute; dsimp only; split <;> split <;> simp
@[simp] theorem State.afterRecompute_grid (s : State) (q : Fin 512) (old : Square) : (s.afterRecompute q old).grid = s.grid := by
  unfold State.afterRecompute; dsimp only; split <;> split <;> simp
@[simp] theorem State.afterRecompute_reefer (s : State) (q : Fin 512) (old : Square) : (s.afterRecompute q old).reefer = s.reefer := by
  unfold State.afterRecompute; dsimp only; split <;> split <;> simp
@[simp] theorem State.afterRecompute_cmd (s : State) (q : Fin 512) (old : Square) : (s.afterRecompute q old).cmd = s.cmd := by
  unfold State.afterRecompute; dsimp only; split <;> split <;> simp
@[simp] theorem State.afterRecompute_mirror (s : State) (q : Fin 512) (old : Square) : (s.afterRecompute q old).mirror = s.mirror := by
  unfold State.afterRecompute; dsimp only; split <;> split <;> simp
@[simp] theorem State.afterRecompute_restarts (s : State) (q : Fin 512) (old : Square) : (s.afterRecompute q old).restarts = s.restarts := by
  unfold State.afterRecompute; dsimp only; split <;> split <;> simp
@[simp] theorem State.afterRecompute_pending (s : State) (q : Fin 512) (old : Square) : (s.afterRecompute q old).pending = s.pending := by
  unfold State.afterRecompute; dsimp only; split <;> split <;> simp

@[simp] theorem State.changeSquare_inReset (s : State) (q : Fin 512) (e : Vector CellEntry 24) : (s.changeSquare q e).inReset = s.inReset := by simp [State.changeSquare]
@[simp] theorem State.changeSquare_cpb (s : State) (q : Fin 512) (e : Vector CellEntry 24) : (s.changeSquare q e).cpb = s.cpb := by simp [State.changeSquare]
@[simp] theorem State.changeSquare_cpid (s : State) (q : Fin 512) (e : Vector CellEntry 24) : (s.changeSquare q e).cpid = s.cpid := by simp [State.changeSquare]
@[simp] theorem State.changeSquare_time (s : State) (q : Fin 512) (e : Vector CellEntry 24) : (s.changeSquare q e).time = s.time := by simp [State.changeSquare]
@[simp] theorem State.changeSquare_windows (s : State) (q : Fin 512) (e : Vector CellEntry 24) : (s.changeSquare q e).windows = s.windows := by simp [State.changeSquare]
@[simp] theorem State.changeSquare_intake (s : State) (q : Fin 512) (e : Vector CellEntry 24) : (s.changeSquare q e).intake = s.intake := by simp [State.changeSquare]
@[simp] theorem State.changeSquare_port (s : State) (q : Fin 512) (e : Vector CellEntry 24) : (s.changeSquare q e).port = s.port := by simp [State.changeSquare]
@[simp] theorem State.changeSquare_reefer (s : State) (q : Fin 512) (e : Vector CellEntry 24) : (s.changeSquare q e).reefer = s.reefer := by simp [State.changeSquare]
@[simp] theorem State.changeSquare_cmd (s : State) (q : Fin 512) (e : Vector CellEntry 24) : (s.changeSquare q e).cmd = s.cmd := by simp [State.changeSquare]
@[simp] theorem State.changeSquare_mirror (s : State) (q : Fin 512) (e : Vector CellEntry 24) : (s.changeSquare q e).mirror = s.mirror := by simp [State.changeSquare]
@[simp] theorem State.changeSquare_restarts (s : State) (q : Fin 512) (e : Vector CellEntry 24) : (s.changeSquare q e).restarts = s.restarts := by simp [State.changeSquare]
@[simp] theorem State.changeSquare_pending (s : State) (q : Fin 512) (e : Vector CellEntry 24) : (s.changeSquare q e).pending = s.pending := by simp [State.changeSquare]

@[simp] theorem State.changeSquare_grid (s : State) (q : Fin 512) (e : Vector CellEntry 24) :
    (s.changeSquare q e).grid = { s.grid with
      squares := upd s.grid.squares q (({ s.square q with entries := e } : Square).summarised s.grid.params s.stamp) } := by
  simp [State.changeSquare]

/-- A recomputation replaces one square. -/
theorem State.changeSquare_square (s : State) (q p : Fin 512) (e : Vector CellEntry 24) :
    (s.changeSquare q e).square p =
      if p = q then ({ s.square q with entries := e } : Square).summarised s.grid.params s.stamp else s.square p := by
  simp only [State.square, State.changeSquare_grid]; exact upd_get _ _ _ _

@[simp] theorem State.unknownSample_inReset (s : State) (q : Fin 512) (n : Nat) (src : SampleSource) : (s.unknownSample q n src).inReset = s.inReset := by unfold State.unknownSample; dsimp only; split <;> simp
@[simp] theorem State.unknownSample_cpb (s : State) (q : Fin 512) (n : Nat) (src : SampleSource) : (s.unknownSample q n src).cpb = s.cpb := by unfold State.unknownSample; dsimp only; split <;> simp
@[simp] theorem State.unknownSample_cpid (s : State) (q : Fin 512) (n : Nat) (src : SampleSource) : (s.unknownSample q n src).cpid = s.cpid := by unfold State.unknownSample; dsimp only; split <;> simp
@[simp] theorem State.unknownSample_time (s : State) (q : Fin 512) (n : Nat) (src : SampleSource) : (s.unknownSample q n src).time = s.time := by unfold State.unknownSample; dsimp only; split <;> simp
@[simp] theorem State.unknownSample_windows (s : State) (q : Fin 512) (n : Nat) (src : SampleSource) : (s.unknownSample q n src).windows = s.windows := by unfold State.unknownSample; dsimp only; split <;> simp
@[simp] theorem State.unknownSample_intake (s : State) (q : Fin 512) (n : Nat) (src : SampleSource) : (s.unknownSample q n src).intake = s.intake := by unfold State.unknownSample; dsimp only; split <;> simp
@[simp] theorem State.unknownSample_arb (s : State) (q : Fin 512) (n : Nat) (src : SampleSource) : (s.unknownSample q n src).arb = s.arb := by unfold State.unknownSample; dsimp only; split <;> simp
@[simp] theorem State.unknownSample_port (s : State) (q : Fin 512) (n : Nat) (src : SampleSource) : (s.unknownSample q n src).port = s.port := by unfold State.unknownSample; dsimp only; split <;> simp
@[simp] theorem State.unknownSample_cranes (s : State) (q : Fin 512) (n : Nat) (src : SampleSource) : (s.unknownSample q n src).cranes = s.cranes := by unfold State.unknownSample; dsimp only; split <;> simp
@[simp] theorem State.unknownSample_reefer (s : State) (q : Fin 512) (n : Nat) (src : SampleSource) : (s.unknownSample q n src).reefer = s.reefer := by unfold State.unknownSample; dsimp only; split <;> simp
@[simp] theorem State.unknownSample_cmd (s : State) (q : Fin 512) (n : Nat) (src : SampleSource) : (s.unknownSample q n src).cmd = s.cmd := by unfold State.unknownSample; dsimp only; split <;> simp
@[simp] theorem State.unknownSample_mirror (s : State) (q : Fin 512) (n : Nat) (src : SampleSource) : (s.unknownSample q n src).mirror = s.mirror := by unfold State.unknownSample; dsimp only; split <;> simp
@[simp] theorem State.unknownSample_restarts (s : State) (q : Fin 512) (n : Nat) (src : SampleSource) : (s.unknownSample q n src).restarts = s.restarts := by unfold State.unknownSample; dsimp only; split <;> simp
@[simp] theorem State.unknownSample_pending (s : State) (q : Fin 512) (n : Nat) (src : SampleSource) : (s.unknownSample q n src).pending = s.pending := by unfold State.unknownSample; dsimp only; split <;> simp

@[simp] theorem State.sample_inReset (s : State) (g b n : Nat) (v : Int) (t : Nat) (src : SampleSource) : (s.sample g b n v t src).inReset = s.inReset := by unfold State.sample; dsimp only; split <;> simp
@[simp] theorem State.sample_cpb (s : State) (g b n : Nat) (v : Int) (t : Nat) (src : SampleSource) : (s.sample g b n v t src).cpb = s.cpb := by unfold State.sample; dsimp only; split <;> simp
@[simp] theorem State.sample_cpid (s : State) (g b n : Nat) (v : Int) (t : Nat) (src : SampleSource) : (s.sample g b n v t src).cpid = s.cpid := by unfold State.sample; dsimp only; split <;> simp
@[simp] theorem State.sample_time (s : State) (g b n : Nat) (v : Int) (t : Nat) (src : SampleSource) : (s.sample g b n v t src).time = s.time := by unfold State.sample; dsimp only; split <;> simp
@[simp] theorem State.sample_windows (s : State) (g b n : Nat) (v : Int) (t : Nat) (src : SampleSource) : (s.sample g b n v t src).windows = s.windows := by unfold State.sample; dsimp only; split <;> simp
@[simp] theorem State.sample_intake (s : State) (g b n : Nat) (v : Int) (t : Nat) (src : SampleSource) : (s.sample g b n v t src).intake = s.intake := by unfold State.sample; dsimp only; split <;> simp
@[simp] theorem State.sample_port (s : State) (g b n : Nat) (v : Int) (t : Nat) (src : SampleSource) : (s.sample g b n v t src).port = s.port := by unfold State.sample; dsimp only; split <;> simp
@[simp] theorem State.sample_reefer (s : State) (g b n : Nat) (v : Int) (t : Nat) (src : SampleSource) : (s.sample g b n v t src).reefer = s.reefer := by unfold State.sample; dsimp only; split <;> simp
@[simp] theorem State.sample_cmd (s : State) (g b n : Nat) (v : Int) (t : Nat) (src : SampleSource) : (s.sample g b n v t src).cmd = s.cmd := by unfold State.sample; dsimp only; split <;> simp
@[simp] theorem State.sample_mirror (s : State) (g b n : Nat) (v : Int) (t : Nat) (src : SampleSource) : (s.sample g b n v t src).mirror = s.mirror := by unfold State.sample; dsimp only; split <;> simp
@[simp] theorem State.sample_restarts (s : State) (g b n : Nat) (v : Int) (t : Nat) (src : SampleSource) : (s.sample g b n v t src).restarts = s.restarts := by unfold State.sample; dsimp only; split <;> simp
@[simp] theorem State.sample_pending (s : State) (g b n : Nat) (v : Int) (t : Nat) (src : SampleSource) : (s.sample g b n v t src).pending = s.pending := by unfold State.sample; dsimp only; split <;> simp

@[simp] theorem State.measurePair_inReset (s : State) (g b src t : Nat) (p : Nat × Int) : (s.measurePair g b src t p).inReset = s.inReset := by unfold State.measurePair; split <;> simp
@[simp] theorem State.measurePair_cpb (s : State) (g b src t : Nat) (p : Nat × Int) : (s.measurePair g b src t p).cpb = s.cpb := by unfold State.measurePair; split <;> simp
@[simp] theorem State.measurePair_cpid (s : State) (g b src t : Nat) (p : Nat × Int) : (s.measurePair g b src t p).cpid = s.cpid := by unfold State.measurePair; split <;> simp
@[simp] theorem State.measurePair_time (s : State) (g b src t : Nat) (p : Nat × Int) : (s.measurePair g b src t p).time = s.time := by unfold State.measurePair; split <;> simp
@[simp] theorem State.measurePair_windows (s : State) (g b src t : Nat) (p : Nat × Int) : (s.measurePair g b src t p).windows = s.windows := by unfold State.measurePair; split <;> simp
@[simp] theorem State.measurePair_intake (s : State) (g b src t : Nat) (p : Nat × Int) : (s.measurePair g b src t p).intake = s.intake := by unfold State.measurePair; split <;> simp
@[simp] theorem State.measurePair_port (s : State) (g b src t : Nat) (p : Nat × Int) : (s.measurePair g b src t p).port = s.port := by unfold State.measurePair; split <;> simp
@[simp] theorem State.measurePair_reefer (s : State) (g b src t : Nat) (p : Nat × Int) : (s.measurePair g b src t p).reefer = s.reefer := by unfold State.measurePair; split <;> simp
@[simp] theorem State.measurePair_cmd (s : State) (g b src t : Nat) (p : Nat × Int) : (s.measurePair g b src t p).cmd = s.cmd := by unfold State.measurePair; split <;> simp
@[simp] theorem State.measurePair_mirror (s : State) (g b src t : Nat) (p : Nat × Int) : (s.measurePair g b src t p).mirror = s.mirror := by unfold State.measurePair; split <;> simp
@[simp] theorem State.measurePair_restarts (s : State) (g b src t : Nat) (p : Nat × Int) : (s.measurePair g b src t p).restarts = s.restarts := by unfold State.measurePair; split <;> simp
@[simp] theorem State.measurePair_pending (s : State) (g b src t : Nat) (p : Nat × Int) : (s.measurePair g b src t p).pending = s.pending := by unfold State.measurePair; split <;> simp

@[simp] theorem State.measureRecord_inReset (s : State) (l : List Byte) (t : Nat) : (s.measureRecord l t).inReset = s.inReset := by
  unfold State.measureRecord; dsimp only
  split
  · rfl
  · generalize ((MeasureRecord.read l).pairs.take (min (MeasureRecord.read l).pairCount 8)) = l'
    generalize hs : s.setGrid _ = s'
    have : ∀ (u : State), (l'.foldl (fun t' pair => t'.measurePair (s.grid.params.clampSegment (MeasureRecord.read l).segment)
        (MeasureRecord.read l).band (MeasureRecord.read l).source t pair) u).inReset = u.inReset := by
      induction l' with
      | nil => intro u; rfl
      | cons p l' ih => intro u; rw [List.foldl_cons, ih]; simp
    rw [this, ← hs]; rfl
@[simp] theorem State.measureRecord_cpb (s : State) (l : List Byte) (t : Nat) : (s.measureRecord l t).cpb = s.cpb := by
  unfold State.measureRecord; dsimp only
  split
  · rfl
  · generalize ((MeasureRecord.read l).pairs.take (min (MeasureRecord.read l).pairCount 8)) = l'
    generalize hs : s.setGrid _ = s'
    have : ∀ (u : State), (l'.foldl (fun t' pair => t'.measurePair (s.grid.params.clampSegment (MeasureRecord.read l).segment)
        (MeasureRecord.read l).band (MeasureRecord.read l).source t pair) u).cpb = u.cpb := by
      induction l' with
      | nil => intro u; rfl
      | cons p l' ih => intro u; rw [List.foldl_cons, ih]; simp
    rw [this, ← hs]; rfl
@[simp] theorem State.measureRecord_cpid (s : State) (l : List Byte) (t : Nat) : (s.measureRecord l t).cpid = s.cpid := by
  unfold State.measureRecord; dsimp only
  split
  · rfl
  · generalize ((MeasureRecord.read l).pairs.take (min (MeasureRecord.read l).pairCount 8)) = l'
    generalize hs : s.setGrid _ = s'
    have : ∀ (u : State), (l'.foldl (fun t' pair => t'.measurePair (s.grid.params.clampSegment (MeasureRecord.read l).segment)
        (MeasureRecord.read l).band (MeasureRecord.read l).source t pair) u).cpid = u.cpid := by
      induction l' with
      | nil => intro u; rfl
      | cons p l' ih => intro u; rw [List.foldl_cons, ih]; simp
    rw [this, ← hs]; rfl
@[simp] theorem State.measureRecord_time (s : State) (l : List Byte) (t : Nat) : (s.measureRecord l t).time = s.time := by
  unfold State.measureRecord; dsimp only
  split
  · rfl
  · generalize ((MeasureRecord.read l).pairs.take (min (MeasureRecord.read l).pairCount 8)) = l'
    generalize hs : s.setGrid _ = s'
    have : ∀ (u : State), (l'.foldl (fun t' pair => t'.measurePair (s.grid.params.clampSegment (MeasureRecord.read l).segment)
        (MeasureRecord.read l).band (MeasureRecord.read l).source t pair) u).time = u.time := by
      induction l' with
      | nil => intro u; rfl
      | cons p l' ih => intro u; rw [List.foldl_cons, ih]; simp
    rw [this, ← hs]; rfl
@[simp] theorem State.measureRecord_windows (s : State) (l : List Byte) (t : Nat) : (s.measureRecord l t).windows = s.windows := by
  unfold State.measureRecord; dsimp only
  split
  · rfl
  · generalize ((MeasureRecord.read l).pairs.take (min (MeasureRecord.read l).pairCount 8)) = l'
    generalize hs : s.setGrid _ = s'
    have : ∀ (u : State), (l'.foldl (fun t' pair => t'.measurePair (s.grid.params.clampSegment (MeasureRecord.read l).segment)
        (MeasureRecord.read l).band (MeasureRecord.read l).source t pair) u).windows = u.windows := by
      induction l' with
      | nil => intro u; rfl
      | cons p l' ih => intro u; rw [List.foldl_cons, ih]; simp
    rw [this, ← hs]; rfl
@[simp] theorem State.measureRecord_intake (s : State) (l : List Byte) (t : Nat) : (s.measureRecord l t).intake = s.intake := by
  unfold State.measureRecord; dsimp only
  split
  · rfl
  · generalize ((MeasureRecord.read l).pairs.take (min (MeasureRecord.read l).pairCount 8)) = l'
    generalize hs : s.setGrid _ = s'
    have : ∀ (u : State), (l'.foldl (fun t' pair => t'.measurePair (s.grid.params.clampSegment (MeasureRecord.read l).segment)
        (MeasureRecord.read l).band (MeasureRecord.read l).source t pair) u).intake = u.intake := by
      induction l' with
      | nil => intro u; rfl
      | cons p l' ih => intro u; rw [List.foldl_cons, ih]; simp
    rw [this, ← hs]; rfl
@[simp] theorem State.measureRecord_port (s : State) (l : List Byte) (t : Nat) : (s.measureRecord l t).port = s.port := by
  unfold State.measureRecord; dsimp only
  split
  · rfl
  · generalize ((MeasureRecord.read l).pairs.take (min (MeasureRecord.read l).pairCount 8)) = l'
    generalize hs : s.setGrid _ = s'
    have : ∀ (u : State), (l'.foldl (fun t' pair => t'.measurePair (s.grid.params.clampSegment (MeasureRecord.read l).segment)
        (MeasureRecord.read l).band (MeasureRecord.read l).source t pair) u).port = u.port := by
      induction l' with
      | nil => intro u; rfl
      | cons p l' ih => intro u; rw [List.foldl_cons, ih]; simp
    rw [this, ← hs]; rfl
@[simp] theorem State.measureRecord_reefer (s : State) (l : List Byte) (t : Nat) : (s.measureRecord l t).reefer = s.reefer := by
  unfold State.measureRecord; dsimp only
  split
  · rfl
  · generalize ((MeasureRecord.read l).pairs.take (min (MeasureRecord.read l).pairCount 8)) = l'
    generalize hs : s.setGrid _ = s'
    have : ∀ (u : State), (l'.foldl (fun t' pair => t'.measurePair (s.grid.params.clampSegment (MeasureRecord.read l).segment)
        (MeasureRecord.read l).band (MeasureRecord.read l).source t pair) u).reefer = u.reefer := by
      induction l' with
      | nil => intro u; rfl
      | cons p l' ih => intro u; rw [List.foldl_cons, ih]; simp
    rw [this, ← hs]; rfl
@[simp] theorem State.measureRecord_cmd (s : State) (l : List Byte) (t : Nat) : (s.measureRecord l t).cmd = s.cmd := by
  unfold State.measureRecord; dsimp only
  split
  · rfl
  · generalize ((MeasureRecord.read l).pairs.take (min (MeasureRecord.read l).pairCount 8)) = l'
    generalize hs : s.setGrid _ = s'
    have : ∀ (u : State), (l'.foldl (fun t' pair => t'.measurePair (s.grid.params.clampSegment (MeasureRecord.read l).segment)
        (MeasureRecord.read l).band (MeasureRecord.read l).source t pair) u).cmd = u.cmd := by
      induction l' with
      | nil => intro u; rfl
      | cons p l' ih => intro u; rw [List.foldl_cons, ih]; simp
    rw [this, ← hs]; rfl
@[simp] theorem State.measureRecord_mirror (s : State) (l : List Byte) (t : Nat) : (s.measureRecord l t).mirror = s.mirror := by
  unfold State.measureRecord; dsimp only
  split
  · rfl
  · generalize ((MeasureRecord.read l).pairs.take (min (MeasureRecord.read l).pairCount 8)) = l'
    generalize hs : s.setGrid _ = s'
    have : ∀ (u : State), (l'.foldl (fun t' pair => t'.measurePair (s.grid.params.clampSegment (MeasureRecord.read l).segment)
        (MeasureRecord.read l).band (MeasureRecord.read l).source t pair) u).mirror = u.mirror := by
      induction l' with
      | nil => intro u; rfl
      | cons p l' ih => intro u; rw [List.foldl_cons, ih]; simp
    rw [this, ← hs]; rfl
@[simp] theorem State.measureRecord_restarts (s : State) (l : List Byte) (t : Nat) : (s.measureRecord l t).restarts = s.restarts := by
  unfold State.measureRecord; dsimp only
  split
  · rfl
  · generalize ((MeasureRecord.read l).pairs.take (min (MeasureRecord.read l).pairCount 8)) = l'
    generalize hs : s.setGrid _ = s'
    have : ∀ (u : State), (l'.foldl (fun t' pair => t'.measurePair (s.grid.params.clampSegment (MeasureRecord.read l).segment)
        (MeasureRecord.read l).band (MeasureRecord.read l).source t pair) u).restarts = u.restarts := by
      induction l' with
      | nil => intro u; rfl
      | cons p l' ih => intro u; rw [List.foldl_cons, ih]; simp
    rw [this, ← hs]; rfl
@[simp] theorem State.measureRecord_pending (s : State) (l : List Byte) (t : Nat) : (s.measureRecord l t).pending = s.pending := by
  unfold State.measureRecord; dsimp only
  split
  · rfl
  · generalize ((MeasureRecord.read l).pairs.take (min (MeasureRecord.read l).pairCount 8)) = l'
    generalize hs : s.setGrid _ = s'
    have : ∀ (u : State), (l'.foldl (fun t' pair => t'.measurePair (s.grid.params.clampSegment (MeasureRecord.read l).segment)
        (MeasureRecord.read l).band (MeasureRecord.read l).source t pair) u).pending = u.pending := by
      induction l' with
      | nil => intro u; rfl
      | cons p l' ih => intro u; rw [List.foldl_cons, ih]; simp
    rw [this, ← hs]; rfl

@[simp] theorem State.ageSquare_inReset (s : State) (q : Fin 512) : (s.ageSquare q).inReset = s.inReset := by simp [State.ageSquare]
@[simp] theorem State.ageSquare_cpb (s : State) (q : Fin 512) : (s.ageSquare q).cpb = s.cpb := by simp [State.ageSquare]
@[simp] theorem State.ageSquare_cpid (s : State) (q : Fin 512) : (s.ageSquare q).cpid = s.cpid := by simp [State.ageSquare]
@[simp] theorem State.ageSquare_time (s : State) (q : Fin 512) : (s.ageSquare q).time = s.time := by simp [State.ageSquare]
@[simp] theorem State.ageSquare_windows (s : State) (q : Fin 512) : (s.ageSquare q).windows = s.windows := by simp [State.ageSquare]
@[simp] theorem State.ageSquare_intake (s : State) (q : Fin 512) : (s.ageSquare q).intake = s.intake := by simp [State.ageSquare]
@[simp] theorem State.ageSquare_port (s : State) (q : Fin 512) : (s.ageSquare q).port = s.port := by simp [State.ageSquare]
@[simp] theorem State.ageSquare_reefer (s : State) (q : Fin 512) : (s.ageSquare q).reefer = s.reefer := by simp [State.ageSquare]
@[simp] theorem State.ageSquare_cmd (s : State) (q : Fin 512) : (s.ageSquare q).cmd = s.cmd := by simp [State.ageSquare]
@[simp] theorem State.ageSquare_mirror (s : State) (q : Fin 512) : (s.ageSquare q).mirror = s.mirror := by simp [State.ageSquare]
@[simp] theorem State.ageSquare_restarts (s : State) (q : Fin 512) : (s.ageSquare q).restarts = s.restarts := by simp [State.ageSquare]
@[simp] theorem State.ageSquare_pending (s : State) (q : Fin 512) : (s.ageSquare q).pending = s.pending := by simp [State.ageSquare]

@[simp] theorem State.dropEntry_inReset (s : State) (c : Fin 24) (q : Fin 512) : (s.dropEntry c q).inReset = s.inReset := by simp [State.dropEntry]
@[simp] theorem State.dropEntry_cpb (s : State) (c : Fin 24) (q : Fin 512) : (s.dropEntry c q).cpb = s.cpb := by simp [State.dropEntry]
@[simp] theorem State.dropEntry_cpid (s : State) (c : Fin 24) (q : Fin 512) : (s.dropEntry c q).cpid = s.cpid := by simp [State.dropEntry]
@[simp] theorem State.dropEntry_time (s : State) (c : Fin 24) (q : Fin 512) : (s.dropEntry c q).time = s.time := by simp [State.dropEntry]
@[simp] theorem State.dropEntry_windows (s : State) (c : Fin 24) (q : Fin 512) : (s.dropEntry c q).windows = s.windows := by simp [State.dropEntry]
@[simp] theorem State.dropEntry_intake (s : State) (c : Fin 24) (q : Fin 512) : (s.dropEntry c q).intake = s.intake := by simp [State.dropEntry]
@[simp] theorem State.dropEntry_port (s : State) (c : Fin 24) (q : Fin 512) : (s.dropEntry c q).port = s.port := by simp [State.dropEntry]
@[simp] theorem State.dropEntry_reefer (s : State) (c : Fin 24) (q : Fin 512) : (s.dropEntry c q).reefer = s.reefer := by simp [State.dropEntry]
@[simp] theorem State.dropEntry_cmd (s : State) (c : Fin 24) (q : Fin 512) : (s.dropEntry c q).cmd = s.cmd := by simp [State.dropEntry]
@[simp] theorem State.dropEntry_mirror (s : State) (c : Fin 24) (q : Fin 512) : (s.dropEntry c q).mirror = s.mirror := by simp [State.dropEntry]
@[simp] theorem State.dropEntry_restarts (s : State) (c : Fin 24) (q : Fin 512) : (s.dropEntry c q).restarts = s.restarts := by simp [State.dropEntry]
@[simp] theorem State.dropEntry_pending (s : State) (c : Fin 24) (q : Fin 512) : (s.dropEntry c q).pending = s.pending := by simp [State.dropEntry]

@[simp] theorem State.clearPlace_inReset (s : State) (c : Fin 24) : (s.clearPlace c).inReset = s.inReset := by
  unfold State.clearPlace
  have : ∀ (l : List (Fin 512)) (u : State), (l.foldl (fun t q => t.dropEntry c q) u).inReset = u.inReset := by
    intro l
    induction l with
    | nil => intro u; rfl
    | cons q l ih => intro u; rw [List.foldl_cons, ih]; simp
  rw [this]; rfl
@[simp] theorem State.clearPlace_cpb (s : State) (c : Fin 24) : (s.clearPlace c).cpb = s.cpb := by
  unfold State.clearPlace
  have : ∀ (l : List (Fin 512)) (u : State), (l.foldl (fun t q => t.dropEntry c q) u).cpb = u.cpb := by
    intro l
    induction l with
    | nil => intro u; rfl
    | cons q l ih => intro u; rw [List.foldl_cons, ih]; simp
  rw [this]; rfl
@[simp] theorem State.clearPlace_cpid (s : State) (c : Fin 24) : (s.clearPlace c).cpid = s.cpid := by
  unfold State.clearPlace
  have : ∀ (l : List (Fin 512)) (u : State), (l.foldl (fun t q => t.dropEntry c q) u).cpid = u.cpid := by
    intro l
    induction l with
    | nil => intro u; rfl
    | cons q l ih => intro u; rw [List.foldl_cons, ih]; simp
  rw [this]; rfl
@[simp] theorem State.clearPlace_time (s : State) (c : Fin 24) : (s.clearPlace c).time = s.time := by
  unfold State.clearPlace
  have : ∀ (l : List (Fin 512)) (u : State), (l.foldl (fun t q => t.dropEntry c q) u).time = u.time := by
    intro l
    induction l with
    | nil => intro u; rfl
    | cons q l ih => intro u; rw [List.foldl_cons, ih]; simp
  rw [this]; rfl
@[simp] theorem State.clearPlace_windows (s : State) (c : Fin 24) : (s.clearPlace c).windows = s.windows := by
  unfold State.clearPlace
  have : ∀ (l : List (Fin 512)) (u : State), (l.foldl (fun t q => t.dropEntry c q) u).windows = u.windows := by
    intro l
    induction l with
    | nil => intro u; rfl
    | cons q l ih => intro u; rw [List.foldl_cons, ih]; simp
  rw [this]; rfl
@[simp] theorem State.clearPlace_intake (s : State) (c : Fin 24) : (s.clearPlace c).intake = s.intake := by
  unfold State.clearPlace
  have : ∀ (l : List (Fin 512)) (u : State), (l.foldl (fun t q => t.dropEntry c q) u).intake = u.intake := by
    intro l
    induction l with
    | nil => intro u; rfl
    | cons q l ih => intro u; rw [List.foldl_cons, ih]; simp
  rw [this]; rfl
@[simp] theorem State.clearPlace_port (s : State) (c : Fin 24) : (s.clearPlace c).port = s.port := by
  unfold State.clearPlace
  have : ∀ (l : List (Fin 512)) (u : State), (l.foldl (fun t q => t.dropEntry c q) u).port = u.port := by
    intro l
    induction l with
    | nil => intro u; rfl
    | cons q l ih => intro u; rw [List.foldl_cons, ih]; simp
  rw [this]; rfl
@[simp] theorem State.clearPlace_reefer (s : State) (c : Fin 24) : (s.clearPlace c).reefer = s.reefer := by
  unfold State.clearPlace
  have : ∀ (l : List (Fin 512)) (u : State), (l.foldl (fun t q => t.dropEntry c q) u).reefer = u.reefer := by
    intro l
    induction l with
    | nil => intro u; rfl
    | cons q l ih => intro u; rw [List.foldl_cons, ih]; simp
  rw [this]; rfl
@[simp] theorem State.clearPlace_cmd (s : State) (c : Fin 24) : (s.clearPlace c).cmd = s.cmd := by
  unfold State.clearPlace
  have : ∀ (l : List (Fin 512)) (u : State), (l.foldl (fun t q => t.dropEntry c q) u).cmd = u.cmd := by
    intro l
    induction l with
    | nil => intro u; rfl
    | cons q l ih => intro u; rw [List.foldl_cons, ih]; simp
  rw [this]; rfl
@[simp] theorem State.clearPlace_mirror (s : State) (c : Fin 24) : (s.clearPlace c).mirror = s.mirror := by
  unfold State.clearPlace
  have : ∀ (l : List (Fin 512)) (u : State), (l.foldl (fun t q => t.dropEntry c q) u).mirror = u.mirror := by
    intro l
    induction l with
    | nil => intro u; rfl
    | cons q l ih => intro u; rw [List.foldl_cons, ih]; simp
  rw [this]; rfl
@[simp] theorem State.clearPlace_restarts (s : State) (c : Fin 24) : (s.clearPlace c).restarts = s.restarts := by
  unfold State.clearPlace
  have : ∀ (l : List (Fin 512)) (u : State), (l.foldl (fun t q => t.dropEntry c q) u).restarts = u.restarts := by
    intro l
    induction l with
    | nil => intro u; rfl
    | cons q l ih => intro u; rw [List.foldl_cons, ih]; simp
  rw [this]; rfl
@[simp] theorem State.clearPlace_pending (s : State) (c : Fin 24) : (s.clearPlace c).pending = s.pending := by
  unfold State.clearPlace
  have : ∀ (l : List (Fin 512)) (u : State), (l.foldl (fun t q => t.dropEntry c q) u).pending = u.pending := by
    intro l
    induction l with
    | nil => intro u; rfl
    | cons q l ih => intro u; rw [List.foldl_cons, ih]; simp
  rw [this]; rfl

@[simp] theorem State.clearSquare_inReset (s : State) (q : Fin 512) : (s.clearSquare q).inReset = s.inReset := by unfold State.clearSquare; dsimp only; split <;> simp
@[simp] theorem State.clearSquare_cpb (s : State) (q : Fin 512) : (s.clearSquare q).cpb = s.cpb := by unfold State.clearSquare; dsimp only; split <;> simp
@[simp] theorem State.clearSquare_cpid (s : State) (q : Fin 512) : (s.clearSquare q).cpid = s.cpid := by unfold State.clearSquare; dsimp only; split <;> simp
@[simp] theorem State.clearSquare_time (s : State) (q : Fin 512) : (s.clearSquare q).time = s.time := by unfold State.clearSquare; dsimp only; split <;> simp
@[simp] theorem State.clearSquare_windows (s : State) (q : Fin 512) : (s.clearSquare q).windows = s.windows := by unfold State.clearSquare; dsimp only; split <;> simp
@[simp] theorem State.clearSquare_intake (s : State) (q : Fin 512) : (s.clearSquare q).intake = s.intake := by unfold State.clearSquare; dsimp only; split <;> simp
@[simp] theorem State.clearSquare_port (s : State) (q : Fin 512) : (s.clearSquare q).port = s.port := by unfold State.clearSquare; dsimp only; split <;> simp
@[simp] theorem State.clearSquare_reefer (s : State) (q : Fin 512) : (s.clearSquare q).reefer = s.reefer := by unfold State.clearSquare; dsimp only; split <;> simp
@[simp] theorem State.clearSquare_cmd (s : State) (q : Fin 512) : (s.clearSquare q).cmd = s.cmd := by unfold State.clearSquare; dsimp only; split <;> simp
@[simp] theorem State.clearSquare_mirror (s : State) (q : Fin 512) : (s.clearSquare q).mirror = s.mirror := by unfold State.clearSquare; dsimp only; split <;> simp
@[simp] theorem State.clearSquare_restarts (s : State) (q : Fin 512) : (s.clearSquare q).restarts = s.restarts := by unfold State.clearSquare; dsimp only; split <;> simp
@[simp] theorem State.clearSquare_pending (s : State) (q : Fin 512) : (s.clearSquare q).pending = s.pending := by unfold State.clearSquare; dsimp only; split <;> simp

/-! ## Uplink Monitor -/

@[simp] theorem State.giveOutcome_inReset (s : State) (i : Fin 16) (o : UplinkOutcome) : (s.giveOutcome i o).inReset = s.inReset := by unfold State.giveOutcome; dsimp only; split <;> simp
@[simp] theorem State.giveOutcome_cpb (s : State) (i : Fin 16) (o : UplinkOutcome) : (s.giveOutcome i o).cpb = s.cpb := by unfold State.giveOutcome; dsimp only; split <;> simp
@[simp] theorem State.giveOutcome_cpid (s : State) (i : Fin 16) (o : UplinkOutcome) : (s.giveOutcome i o).cpid = s.cpid := by unfold State.giveOutcome; dsimp only; split <;> simp
@[simp] theorem State.giveOutcome_time (s : State) (i : Fin 16) (o : UplinkOutcome) : (s.giveOutcome i o).time = s.time := by unfold State.giveOutcome; dsimp only; split <;> simp
@[simp] theorem State.giveOutcome_windows (s : State) (i : Fin 16) (o : UplinkOutcome) : (s.giveOutcome i o).windows = s.windows := by unfold State.giveOutcome; dsimp only; split <;> simp
@[simp] theorem State.giveOutcome_intake (s : State) (i : Fin 16) (o : UplinkOutcome) : (s.giveOutcome i o).intake = s.intake := by unfold State.giveOutcome; dsimp only; split <;> simp
@[simp] theorem State.giveOutcome_arb (s : State) (i : Fin 16) (o : UplinkOutcome) : (s.giveOutcome i o).arb = s.arb := by unfold State.giveOutcome; dsimp only; split <;> simp
@[simp] theorem State.giveOutcome_port (s : State) (i : Fin 16) (o : UplinkOutcome) : (s.giveOutcome i o).port = s.port := by unfold State.giveOutcome; dsimp only; split <;> simp
@[simp] theorem State.giveOutcome_grid (s : State) (i : Fin 16) (o : UplinkOutcome) : (s.giveOutcome i o).grid = s.grid := by unfold State.giveOutcome; dsimp only; split <;> simp
@[simp] theorem State.giveOutcome_reefer (s : State) (i : Fin 16) (o : UplinkOutcome) : (s.giveOutcome i o).reefer = s.reefer := by unfold State.giveOutcome; dsimp only; split <;> simp
@[simp] theorem State.giveOutcome_cmd (s : State) (i : Fin 16) (o : UplinkOutcome) : (s.giveOutcome i o).cmd = s.cmd := by unfold State.giveOutcome; dsimp only; split <;> simp
@[simp] theorem State.giveOutcome_mirror (s : State) (i : Fin 16) (o : UplinkOutcome) : (s.giveOutcome i o).mirror = s.mirror := by unfold State.giveOutcome; dsimp only; split <;> simp
@[simp] theorem State.giveOutcome_restarts (s : State) (i : Fin 16) (o : UplinkOutcome) : (s.giveOutcome i o).restarts = s.restarts := by unfold State.giveOutcome; dsimp only; split <;> simp
@[simp] theorem State.giveOutcome_pending (s : State) (i : Fin 16) (o : UplinkOutcome) : (s.giveOutcome i o).pending = s.pending := by unfold State.giveOutcome; dsimp only; split <;> simp

@[simp] theorem State.giveMissing_inReset (s : State) (i : Fin 16) (k : Nat) : (s.giveMissing i k).inReset = s.inReset := by
  induction k generalizing s with
  | zero => rfl
  | succ k ih => unfold State.giveMissing; rw [ih]; simp
@[simp] theorem State.giveMissing_cpb (s : State) (i : Fin 16) (k : Nat) : (s.giveMissing i k).cpb = s.cpb := by
  induction k generalizing s with
  | zero => rfl
  | succ k ih => unfold State.giveMissing; rw [ih]; simp
@[simp] theorem State.giveMissing_cpid (s : State) (i : Fin 16) (k : Nat) : (s.giveMissing i k).cpid = s.cpid := by
  induction k generalizing s with
  | zero => rfl
  | succ k ih => unfold State.giveMissing; rw [ih]; simp
@[simp] theorem State.giveMissing_time (s : State) (i : Fin 16) (k : Nat) : (s.giveMissing i k).time = s.time := by
  induction k generalizing s with
  | zero => rfl
  | succ k ih => unfold State.giveMissing; rw [ih]; simp
@[simp] theorem State.giveMissing_windows (s : State) (i : Fin 16) (k : Nat) : (s.giveMissing i k).windows = s.windows := by
  induction k generalizing s with
  | zero => rfl
  | succ k ih => unfold State.giveMissing; rw [ih]; simp
@[simp] theorem State.giveMissing_intake (s : State) (i : Fin 16) (k : Nat) : (s.giveMissing i k).intake = s.intake := by
  induction k generalizing s with
  | zero => rfl
  | succ k ih => unfold State.giveMissing; rw [ih]; simp
@[simp] theorem State.giveMissing_arb (s : State) (i : Fin 16) (k : Nat) : (s.giveMissing i k).arb = s.arb := by
  induction k generalizing s with
  | zero => rfl
  | succ k ih => unfold State.giveMissing; rw [ih]; simp
@[simp] theorem State.giveMissing_port (s : State) (i : Fin 16) (k : Nat) : (s.giveMissing i k).port = s.port := by
  induction k generalizing s with
  | zero => rfl
  | succ k ih => unfold State.giveMissing; rw [ih]; simp
@[simp] theorem State.giveMissing_grid (s : State) (i : Fin 16) (k : Nat) : (s.giveMissing i k).grid = s.grid := by
  induction k generalizing s with
  | zero => rfl
  | succ k ih => unfold State.giveMissing; rw [ih]; simp
@[simp] theorem State.giveMissing_reefer (s : State) (i : Fin 16) (k : Nat) : (s.giveMissing i k).reefer = s.reefer := by
  induction k generalizing s with
  | zero => rfl
  | succ k ih => unfold State.giveMissing; rw [ih]; simp
@[simp] theorem State.giveMissing_cmd (s : State) (i : Fin 16) (k : Nat) : (s.giveMissing i k).cmd = s.cmd := by
  induction k generalizing s with
  | zero => rfl
  | succ k ih => unfold State.giveMissing; rw [ih]; simp
@[simp] theorem State.giveMissing_mirror (s : State) (i : Fin 16) (k : Nat) : (s.giveMissing i k).mirror = s.mirror := by
  induction k generalizing s with
  | zero => rfl
  | succ k ih => unfold State.giveMissing; rw [ih]; simp
@[simp] theorem State.giveMissing_restarts (s : State) (i : Fin 16) (k : Nat) : (s.giveMissing i k).restarts = s.restarts := by
  induction k generalizing s with
  | zero => rfl
  | succ k ih => unfold State.giveMissing; rw [ih]; simp
@[simp] theorem State.giveMissing_pending (s : State) (i : Fin 16) (k : Nat) : (s.giveMissing i k).pending = s.pending := by
  induction k generalizing s with
  | zero => rfl
  | succ k ih => unfold State.giveMissing; rw [ih]; simp

@[simp] theorem State.steerCheck_inReset (s : State) (i : Fin 16) (t : Nat) : (s.steerCheck i t).inReset = s.inReset := by
  unfold State.steerCheck; dsimp only; split <;> (try split) <;> (try split) <;> rfl
@[simp] theorem State.steerCheck_cpb (s : State) (i : Fin 16) (t : Nat) : (s.steerCheck i t).cpb = s.cpb := by
  unfold State.steerCheck; dsimp only; split <;> (try split) <;> (try split) <;> rfl
@[simp] theorem State.steerCheck_cpid (s : State) (i : Fin 16) (t : Nat) : (s.steerCheck i t).cpid = s.cpid := by
  unfold State.steerCheck; dsimp only; split <;> (try split) <;> (try split) <;> rfl
@[simp] theorem State.steerCheck_time (s : State) (i : Fin 16) (t : Nat) : (s.steerCheck i t).time = s.time := by
  unfold State.steerCheck; dsimp only; split <;> (try split) <;> (try split) <;> rfl
@[simp] theorem State.steerCheck_windows (s : State) (i : Fin 16) (t : Nat) : (s.steerCheck i t).windows = s.windows := by
  unfold State.steerCheck; dsimp only; split <;> (try split) <;> (try split) <;> rfl
@[simp] theorem State.steerCheck_intake (s : State) (i : Fin 16) (t : Nat) : (s.steerCheck i t).intake = s.intake := by
  unfold State.steerCheck; dsimp only; split <;> (try split) <;> (try split) <;> rfl
@[simp] theorem State.steerCheck_arb (s : State) (i : Fin 16) (t : Nat) : (s.steerCheck i t).arb = s.arb := by
  unfold State.steerCheck; dsimp only; split <;> (try split) <;> (try split) <;> rfl
@[simp] theorem State.steerCheck_port (s : State) (i : Fin 16) (t : Nat) : (s.steerCheck i t).port = s.port := by
  unfold State.steerCheck; dsimp only; split <;> (try split) <;> (try split) <;> rfl
@[simp] theorem State.steerCheck_grid (s : State) (i : Fin 16) (t : Nat) : (s.steerCheck i t).grid = s.grid := by
  unfold State.steerCheck; dsimp only; split <;> (try split) <;> (try split) <;> rfl
@[simp] theorem State.steerCheck_reefer (s : State) (i : Fin 16) (t : Nat) : (s.steerCheck i t).reefer = s.reefer := by
  unfold State.steerCheck; dsimp only; split <;> (try split) <;> (try split) <;> rfl
@[simp] theorem State.steerCheck_cmd (s : State) (i : Fin 16) (t : Nat) : (s.steerCheck i t).cmd = s.cmd := by
  unfold State.steerCheck; dsimp only; split <;> (try split) <;> (try split) <;> rfl
@[simp] theorem State.steerCheck_mirror (s : State) (i : Fin 16) (t : Nat) : (s.steerCheck i t).mirror = s.mirror := by
  unfold State.steerCheck; dsimp only; split <;> (try split) <;> (try split) <;> rfl
@[simp] theorem State.steerCheck_restarts (s : State) (i : Fin 16) (t : Nat) : (s.steerCheck i t).restarts = s.restarts := by
  unfold State.steerCheck; dsimp only; split <;> (try split) <;> (try split) <;> rfl
@[simp] theorem State.steerCheck_pending (s : State) (i : Fin 16) (t : Nat) : (s.steerCheck i t).pending = s.pending := by
  unfold State.steerCheck; dsimp only; split <;> (try split) <;> (try split) <;> rfl

@[simp] theorem State.useRecord_inReset (s : State) (i : Fin 16) (h : UplinkHeader) (t : Nat) (own : UplinkOutcome) : (s.useRecord i h t own).inReset = s.inReset := by unfold State.useRecord; dsimp only; split <;> simp
@[simp] theorem State.useRecord_cpb (s : State) (i : Fin 16) (h : UplinkHeader) (t : Nat) (own : UplinkOutcome) : (s.useRecord i h t own).cpb = s.cpb := by unfold State.useRecord; dsimp only; split <;> simp
@[simp] theorem State.useRecord_cpid (s : State) (i : Fin 16) (h : UplinkHeader) (t : Nat) (own : UplinkOutcome) : (s.useRecord i h t own).cpid = s.cpid := by unfold State.useRecord; dsimp only; split <;> simp
@[simp] theorem State.useRecord_time (s : State) (i : Fin 16) (h : UplinkHeader) (t : Nat) (own : UplinkOutcome) : (s.useRecord i h t own).time = s.time := by unfold State.useRecord; dsimp only; split <;> simp
@[simp] theorem State.useRecord_windows (s : State) (i : Fin 16) (h : UplinkHeader) (t : Nat) (own : UplinkOutcome) : (s.useRecord i h t own).windows = s.windows := by unfold State.useRecord; dsimp only; split <;> simp
@[simp] theorem State.useRecord_intake (s : State) (i : Fin 16) (h : UplinkHeader) (t : Nat) (own : UplinkOutcome) : (s.useRecord i h t own).intake = s.intake := by unfold State.useRecord; dsimp only; split <;> simp
@[simp] theorem State.useRecord_port (s : State) (i : Fin 16) (h : UplinkHeader) (t : Nat) (own : UplinkOutcome) : (s.useRecord i h t own).port = s.port := by unfold State.useRecord; dsimp only; split <;> simp
@[simp] theorem State.useRecord_reefer (s : State) (i : Fin 16) (h : UplinkHeader) (t : Nat) (own : UplinkOutcome) : (s.useRecord i h t own).reefer = s.reefer := by unfold State.useRecord; dsimp only; split <;> simp
@[simp] theorem State.useRecord_cmd (s : State) (i : Fin 16) (h : UplinkHeader) (t : Nat) (own : UplinkOutcome) : (s.useRecord i h t own).cmd = s.cmd := by unfold State.useRecord; dsimp only; split <;> simp
@[simp] theorem State.useRecord_mirror (s : State) (i : Fin 16) (h : UplinkHeader) (t : Nat) (own : UplinkOutcome) : (s.useRecord i h t own).mirror = s.mirror := by unfold State.useRecord; dsimp only; split <;> simp
@[simp] theorem State.useRecord_restarts (s : State) (i : Fin 16) (h : UplinkHeader) (t : Nat) (own : UplinkOutcome) : (s.useRecord i h t own).restarts = s.restarts := by unfold State.useRecord; dsimp only; split <;> simp
@[simp] theorem State.useRecord_pending (s : State) (i : Fin 16) (h : UplinkHeader) (t : Nat) (own : UplinkOutcome) : (s.useRecord i h t own).pending = s.pending := by unfold State.useRecord; dsimp only; split <;> simp

@[simp] theorem State.judgeUplink_inReset (s : State) (i : Fin 16) (l : List Byte) (t : Nat) : (s.judgeUplink i l t).inReset = s.inReset := by unfold State.judgeUplink; split <;> simp
@[simp] theorem State.judgeUplink_cpb (s : State) (i : Fin 16) (l : List Byte) (t : Nat) : (s.judgeUplink i l t).cpb = s.cpb := by unfold State.judgeUplink; split <;> simp
@[simp] theorem State.judgeUplink_cpid (s : State) (i : Fin 16) (l : List Byte) (t : Nat) : (s.judgeUplink i l t).cpid = s.cpid := by unfold State.judgeUplink; split <;> simp
@[simp] theorem State.judgeUplink_time (s : State) (i : Fin 16) (l : List Byte) (t : Nat) : (s.judgeUplink i l t).time = s.time := by unfold State.judgeUplink; split <;> simp
@[simp] theorem State.judgeUplink_windows (s : State) (i : Fin 16) (l : List Byte) (t : Nat) : (s.judgeUplink i l t).windows = s.windows := by unfold State.judgeUplink; split <;> simp
@[simp] theorem State.judgeUplink_intake (s : State) (i : Fin 16) (l : List Byte) (t : Nat) : (s.judgeUplink i l t).intake = s.intake := by unfold State.judgeUplink; split <;> simp
@[simp] theorem State.judgeUplink_port (s : State) (i : Fin 16) (l : List Byte) (t : Nat) : (s.judgeUplink i l t).port = s.port := by unfold State.judgeUplink; split <;> simp
@[simp] theorem State.judgeUplink_reefer (s : State) (i : Fin 16) (l : List Byte) (t : Nat) : (s.judgeUplink i l t).reefer = s.reefer := by unfold State.judgeUplink; split <;> simp
@[simp] theorem State.judgeUplink_cmd (s : State) (i : Fin 16) (l : List Byte) (t : Nat) : (s.judgeUplink i l t).cmd = s.cmd := by unfold State.judgeUplink; split <;> simp
@[simp] theorem State.judgeUplink_mirror (s : State) (i : Fin 16) (l : List Byte) (t : Nat) : (s.judgeUplink i l t).mirror = s.mirror := by unfold State.judgeUplink; split <;> simp
@[simp] theorem State.judgeUplink_restarts (s : State) (i : Fin 16) (l : List Byte) (t : Nat) : (s.judgeUplink i l t).restarts = s.restarts := by unfold State.judgeUplink; split <;> simp
@[simp] theorem State.judgeUplink_pending (s : State) (i : Fin 16) (l : List Byte) (t : Nat) : (s.judgeUplink i l t).pending = s.pending := by unfold State.judgeUplink; split <;> simp

@[simp] theorem State.uplinkRecord_inReset (s : State) (i : Fin 16) (l : List Byte) (t : Nat) : (s.uplinkRecord i l t).inReset = s.inReset := by
  unfold State.uplinkRecord; dsimp only; split <;> (try split) <;> simp
@[simp] theorem State.uplinkRecord_cpb (s : State) (i : Fin 16) (l : List Byte) (t : Nat) : (s.uplinkRecord i l t).cpb = s.cpb := by
  unfold State.uplinkRecord; dsimp only; split <;> (try split) <;> simp
@[simp] theorem State.uplinkRecord_cpid (s : State) (i : Fin 16) (l : List Byte) (t : Nat) : (s.uplinkRecord i l t).cpid = s.cpid := by
  unfold State.uplinkRecord; dsimp only; split <;> (try split) <;> simp
@[simp] theorem State.uplinkRecord_time (s : State) (i : Fin 16) (l : List Byte) (t : Nat) : (s.uplinkRecord i l t).time = s.time := by
  unfold State.uplinkRecord; dsimp only; split <;> (try split) <;> simp
@[simp] theorem State.uplinkRecord_windows (s : State) (i : Fin 16) (l : List Byte) (t : Nat) : (s.uplinkRecord i l t).windows = s.windows := by
  unfold State.uplinkRecord; dsimp only; split <;> (try split) <;> simp
@[simp] theorem State.uplinkRecord_intake (s : State) (i : Fin 16) (l : List Byte) (t : Nat) : (s.uplinkRecord i l t).intake = s.intake := by
  unfold State.uplinkRecord; dsimp only; split <;> (try split) <;> simp
@[simp] theorem State.uplinkRecord_port (s : State) (i : Fin 16) (l : List Byte) (t : Nat) : (s.uplinkRecord i l t).port = s.port := by
  unfold State.uplinkRecord; dsimp only; split <;> (try split) <;> simp
@[simp] theorem State.uplinkRecord_reefer (s : State) (i : Fin 16) (l : List Byte) (t : Nat) : (s.uplinkRecord i l t).reefer = s.reefer := by
  unfold State.uplinkRecord; dsimp only; split <;> (try split) <;> simp
@[simp] theorem State.uplinkRecord_cmd (s : State) (i : Fin 16) (l : List Byte) (t : Nat) : (s.uplinkRecord i l t).cmd = s.cmd := by
  unfold State.uplinkRecord; dsimp only; split <;> (try split) <;> simp
@[simp] theorem State.uplinkRecord_mirror (s : State) (i : Fin 16) (l : List Byte) (t : Nat) : (s.uplinkRecord i l t).mirror = s.mirror := by
  unfold State.uplinkRecord; dsimp only; split <;> (try split) <;> simp
@[simp] theorem State.uplinkRecord_restarts (s : State) (i : Fin 16) (l : List Byte) (t : Nat) : (s.uplinkRecord i l t).restarts = s.restarts := by
  unfold State.uplinkRecord; dsimp only; split <;> (try split) <;> simp
@[simp] theorem State.uplinkRecord_pending (s : State) (i : Fin 16) (l : List Byte) (t : Nat) : (s.uplinkRecord i l t).pending = s.pending := by
  unfold State.uplinkRecord; dsimp only; split <;> (try split) <;> simp

/-! ## Windows and intake -/

@[simp] theorem State.dropSlotTable_inReset (s : State) (w : Window) : (s.dropSlotTable w).inReset = s.inReset := by unfold State.dropSlotTable; split <;> simp
@[simp] theorem State.dropSlotTable_cpb (s : State) (w : Window) : (s.dropSlotTable w).cpb = s.cpb := by unfold State.dropSlotTable; split <;> simp
@[simp] theorem State.dropSlotTable_cpid (s : State) (w : Window) : (s.dropSlotTable w).cpid = s.cpid := by unfold State.dropSlotTable; split <;> simp
@[simp] theorem State.dropSlotTable_time (s : State) (w : Window) : (s.dropSlotTable w).time = s.time := by unfold State.dropSlotTable; split <;> simp
@[simp] theorem State.dropSlotTable_windows (s : State) (w : Window) : (s.dropSlotTable w).windows = s.windows := by unfold State.dropSlotTable; split <;> simp
@[simp] theorem State.dropSlotTable_intake (s : State) (w : Window) : (s.dropSlotTable w).intake = s.intake := by unfold State.dropSlotTable; split <;> simp
@[simp] theorem State.dropSlotTable_arb (s : State) (w : Window) : (s.dropSlotTable w).arb = s.arb := by unfold State.dropSlotTable; split <;> simp
@[simp] theorem State.dropSlotTable_port (s : State) (w : Window) : (s.dropSlotTable w).port = s.port := by unfold State.dropSlotTable; split <;> simp
@[simp] theorem State.dropSlotTable_grid (s : State) (w : Window) : (s.dropSlotTable w).grid = s.grid := by unfold State.dropSlotTable; split <;> simp
@[simp] theorem State.dropSlotTable_reefer (s : State) (w : Window) : (s.dropSlotTable w).reefer = s.reefer := by unfold State.dropSlotTable; split <;> simp
@[simp] theorem State.dropSlotTable_notice (s : State) (w : Window) : (s.dropSlotTable w).notice = s.notice := by unfold State.dropSlotTable; split <;> simp
@[simp] theorem State.dropSlotTable_cmd (s : State) (w : Window) : (s.dropSlotTable w).cmd = s.cmd := by unfold State.dropSlotTable; split <;> simp
@[simp] theorem State.dropSlotTable_mirror (s : State) (w : Window) : (s.dropSlotTable w).mirror = s.mirror := by unfold State.dropSlotTable; split <;> simp
@[simp] theorem State.dropSlotTable_scratch (s : State) (w : Window) : (s.dropSlotTable w).scratch = s.scratch := by unfold State.dropSlotTable; split <;> simp
@[simp] theorem State.dropSlotTable_restarts (s : State) (w : Window) : (s.dropSlotTable w).restarts = s.restarts := by unfold State.dropSlotTable; split <;> simp
@[simp] theorem State.dropSlotTable_pending (s : State) (w : Window) : (s.dropSlotTable w).pending = s.pending := by unfold State.dropSlotTable; split <;> simp

@[simp] theorem State.removeWindow_inReset (s : State) (i : Fin 32) : (s.removeWindow i).inReset = s.inReset := by unfold State.removeWindow; dsimp only; split <;> simp
@[simp] theorem State.removeWindow_cpb (s : State) (i : Fin 32) : (s.removeWindow i).cpb = s.cpb := by unfold State.removeWindow; dsimp only; split <;> simp
@[simp] theorem State.removeWindow_cpid (s : State) (i : Fin 32) : (s.removeWindow i).cpid = s.cpid := by unfold State.removeWindow; dsimp only; split <;> simp
@[simp] theorem State.removeWindow_time (s : State) (i : Fin 32) : (s.removeWindow i).time = s.time := by unfold State.removeWindow; dsimp only; split <;> simp
@[simp] theorem State.removeWindow_arb (s : State) (i : Fin 32) : (s.removeWindow i).arb = s.arb := by unfold State.removeWindow; dsimp only; split <;> simp
@[simp] theorem State.removeWindow_port (s : State) (i : Fin 32) : (s.removeWindow i).port = s.port := by unfold State.removeWindow; dsimp only; split <;> simp
@[simp] theorem State.removeWindow_grid (s : State) (i : Fin 32) : (s.removeWindow i).grid = s.grid := by unfold State.removeWindow; dsimp only; split <;> simp
@[simp] theorem State.removeWindow_reefer (s : State) (i : Fin 32) : (s.removeWindow i).reefer = s.reefer := by unfold State.removeWindow; dsimp only; split <;> simp
@[simp] theorem State.removeWindow_cmd (s : State) (i : Fin 32) : (s.removeWindow i).cmd = s.cmd := by unfold State.removeWindow; dsimp only; split <;> simp
@[simp] theorem State.removeWindow_mirror (s : State) (i : Fin 32) : (s.removeWindow i).mirror = s.mirror := by unfold State.removeWindow; dsimp only; split <;> simp
@[simp] theorem State.removeWindow_restarts (s : State) (i : Fin 32) : (s.removeWindow i).restarts = s.restarts := by unfold State.removeWindow; dsimp only; split <;> simp
@[simp] theorem State.removeWindow_pending (s : State) (i : Fin 32) : (s.removeWindow i).pending = s.pending := by unfold State.removeWindow; dsimp only; split <;> simp

@[simp] theorem State.windowEffects_inReset (s : State) (w : Window) : (s.windowEffects w).inReset = s.inReset := by unfold State.windowEffects; split <;> (try split) <;> simp
@[simp] theorem State.windowEffects_cpb (s : State) (w : Window) : (s.windowEffects w).cpb = s.cpb := by unfold State.windowEffects; split <;> (try split) <;> simp
@[simp] theorem State.windowEffects_cpid (s : State) (w : Window) : (s.windowEffects w).cpid = s.cpid := by unfold State.windowEffects; split <;> (try split) <;> simp
@[simp] theorem State.windowEffects_time (s : State) (w : Window) : (s.windowEffects w).time = s.time := by unfold State.windowEffects; split <;> (try split) <;> simp
@[simp] theorem State.windowEffects_windows (s : State) (w : Window) : (s.windowEffects w).windows = s.windows := by unfold State.windowEffects; split <;> (try split) <;> simp
@[simp] theorem State.windowEffects_intake (s : State) (w : Window) : (s.windowEffects w).intake = s.intake := by unfold State.windowEffects; split <;> (try split) <;> simp
@[simp] theorem State.windowEffects_arb (s : State) (w : Window) : (s.windowEffects w).arb = s.arb := by unfold State.windowEffects; split <;> (try split) <;> simp
@[simp] theorem State.windowEffects_port (s : State) (w : Window) : (s.windowEffects w).port = s.port := by unfold State.windowEffects; split <;> (try split) <;> simp
@[simp] theorem State.windowEffects_grid (s : State) (w : Window) : (s.windowEffects w).grid = s.grid := by unfold State.windowEffects; split <;> (try split) <;> simp
@[simp] theorem State.windowEffects_reefer (s : State) (w : Window) : (s.windowEffects w).reefer = s.reefer := by unfold State.windowEffects; split <;> (try split) <;> simp
@[simp] theorem State.windowEffects_cmd (s : State) (w : Window) : (s.windowEffects w).cmd = s.cmd := by unfold State.windowEffects; split <;> (try split) <;> simp
@[simp] theorem State.windowEffects_restarts (s : State) (w : Window) : (s.windowEffects w).restarts = s.restarts := by unfold State.windowEffects; split <;> (try split) <;> simp
@[simp] theorem State.windowEffects_pending (s : State) (w : Window) : (s.windowEffects w).pending = s.pending := by unfold State.windowEffects; split <;> (try split) <;> simp

@[simp] theorem State.countTaken_inReset (s : State) (e : QueueEntry) : (s.countTaken e).inReset = s.inReset := by unfold State.countTaken; dsimp only; split <;> simp
@[simp] theorem State.countTaken_cpb (s : State) (e : QueueEntry) : (s.countTaken e).cpb = s.cpb := by unfold State.countTaken; dsimp only; split <;> simp
@[simp] theorem State.countTaken_cpid (s : State) (e : QueueEntry) : (s.countTaken e).cpid = s.cpid := by unfold State.countTaken; dsimp only; split <;> simp
@[simp] theorem State.countTaken_time (s : State) (e : QueueEntry) : (s.countTaken e).time = s.time := by unfold State.countTaken; dsimp only; split <;> simp
@[simp] theorem State.countTaken_intake (s : State) (e : QueueEntry) : (s.countTaken e).intake = s.intake := by unfold State.countTaken; dsimp only; split <;> simp
@[simp] theorem State.countTaken_arb (s : State) (e : QueueEntry) : (s.countTaken e).arb = s.arb := by unfold State.countTaken; dsimp only; split <;> simp
@[simp] theorem State.countTaken_port (s : State) (e : QueueEntry) : (s.countTaken e).port = s.port := by unfold State.countTaken; dsimp only; split <;> simp
@[simp] theorem State.countTaken_cranes (s : State) (e : QueueEntry) : (s.countTaken e).cranes = s.cranes := by unfold State.countTaken; dsimp only; split <;> simp
@[simp] theorem State.countTaken_grid (s : State) (e : QueueEntry) : (s.countTaken e).grid = s.grid := by unfold State.countTaken; dsimp only; split <;> simp
@[simp] theorem State.countTaken_reefer (s : State) (e : QueueEntry) : (s.countTaken e).reefer = s.reefer := by unfold State.countTaken; dsimp only; split <;> simp
@[simp] theorem State.countTaken_notice (s : State) (e : QueueEntry) : (s.countTaken e).notice = s.notice := by unfold State.countTaken; dsimp only; split <;> simp
@[simp] theorem State.countTaken_cmd (s : State) (e : QueueEntry) : (s.countTaken e).cmd = s.cmd := by unfold State.countTaken; dsimp only; split <;> simp
@[simp] theorem State.countTaken_mirror (s : State) (e : QueueEntry) : (s.countTaken e).mirror = s.mirror := by unfold State.countTaken; dsimp only; split <;> simp
@[simp] theorem State.countTaken_scratch (s : State) (e : QueueEntry) : (s.countTaken e).scratch = s.scratch := by unfold State.countTaken; dsimp only; split <;> simp
@[simp] theorem State.countTaken_restarts (s : State) (e : QueueEntry) : (s.countTaken e).restarts = s.restarts := by unfold State.countTaken; dsimp only; split <;> simp
@[simp] theorem State.countTaken_pending (s : State) (e : QueueEntry) : (s.countTaken e).pending = s.pending := by unfold State.countTaken; dsimp only; split <;> simp

@[simp] theorem State.discardEntry_inReset (s : State) (e : QueueEntry) : (s.discardEntry e).inReset = s.inReset := by unfold State.discardEntry; dsimp only; split <;> simp
@[simp] theorem State.discardEntry_cpb (s : State) (e : QueueEntry) : (s.discardEntry e).cpb = s.cpb := by unfold State.discardEntry; dsimp only; split <;> simp
@[simp] theorem State.discardEntry_cpid (s : State) (e : QueueEntry) : (s.discardEntry e).cpid = s.cpid := by unfold State.discardEntry; dsimp only; split <;> simp
@[simp] theorem State.discardEntry_time (s : State) (e : QueueEntry) : (s.discardEntry e).time = s.time := by unfold State.discardEntry; dsimp only; split <;> simp
@[simp] theorem State.discardEntry_intake (s : State) (e : QueueEntry) : (s.discardEntry e).intake = s.intake := by unfold State.discardEntry; dsimp only; split <;> simp
@[simp] theorem State.discardEntry_arb (s : State) (e : QueueEntry) : (s.discardEntry e).arb = s.arb := by unfold State.discardEntry; dsimp only; split <;> simp
@[simp] theorem State.discardEntry_port (s : State) (e : QueueEntry) : (s.discardEntry e).port = s.port := by unfold State.discardEntry; dsimp only; split <;> simp
@[simp] theorem State.discardEntry_cranes (s : State) (e : QueueEntry) : (s.discardEntry e).cranes = s.cranes := by unfold State.discardEntry; dsimp only; split <;> simp
@[simp] theorem State.discardEntry_grid (s : State) (e : QueueEntry) : (s.discardEntry e).grid = s.grid := by unfold State.discardEntry; dsimp only; split <;> simp
@[simp] theorem State.discardEntry_reefer (s : State) (e : QueueEntry) : (s.discardEntry e).reefer = s.reefer := by unfold State.discardEntry; dsimp only; split <;> simp
@[simp] theorem State.discardEntry_notice (s : State) (e : QueueEntry) : (s.discardEntry e).notice = s.notice := by unfold State.discardEntry; dsimp only; split <;> simp
@[simp] theorem State.discardEntry_cmd (s : State) (e : QueueEntry) : (s.discardEntry e).cmd = s.cmd := by unfold State.discardEntry; dsimp only; split <;> simp
@[simp] theorem State.discardEntry_mirror (s : State) (e : QueueEntry) : (s.discardEntry e).mirror = s.mirror := by unfold State.discardEntry; dsimp only; split <;> simp
@[simp] theorem State.discardEntry_scratch (s : State) (e : QueueEntry) : (s.discardEntry e).scratch = s.scratch := by unfold State.discardEntry; dsimp only; split <;> simp
@[simp] theorem State.discardEntry_restarts (s : State) (e : QueueEntry) : (s.discardEntry e).restarts = s.restarts := by unfold State.discardEntry; dsimp only; split <;> simp
@[simp] theorem State.discardEntry_pending (s : State) (e : QueueEntry) : (s.discardEntry e).pending = s.pending := by unfold State.discardEntry; dsimp only; split <;> simp

@[simp] theorem State.discardIntake_inReset (s : State) : (s.discardIntake).inReset = s.inReset := by
  unfold State.discardIntake
  have : ∀ (l : List QueueEntry) (u : State), (l.foldl State.discardEntry u).inReset = u.inReset := by
    intro l
    induction l with
    | nil => intro u; rfl
    | cons q l ih => intro u; rw [List.foldl_cons, ih]; simp
  exact this _ s
@[simp] theorem State.discardIntake_cpb (s : State) : (s.discardIntake).cpb = s.cpb := by
  unfold State.discardIntake
  have : ∀ (l : List QueueEntry) (u : State), (l.foldl State.discardEntry u).cpb = u.cpb := by
    intro l
    induction l with
    | nil => intro u; rfl
    | cons q l ih => intro u; rw [List.foldl_cons, ih]; simp
  exact this _ s
@[simp] theorem State.discardIntake_cpid (s : State) : (s.discardIntake).cpid = s.cpid := by
  unfold State.discardIntake
  have : ∀ (l : List QueueEntry) (u : State), (l.foldl State.discardEntry u).cpid = u.cpid := by
    intro l
    induction l with
    | nil => intro u; rfl
    | cons q l ih => intro u; rw [List.foldl_cons, ih]; simp
  exact this _ s
@[simp] theorem State.discardIntake_time (s : State) : (s.discardIntake).time = s.time := by
  unfold State.discardIntake
  have : ∀ (l : List QueueEntry) (u : State), (l.foldl State.discardEntry u).time = u.time := by
    intro l
    induction l with
    | nil => intro u; rfl
    | cons q l ih => intro u; rw [List.foldl_cons, ih]; simp
  exact this _ s
@[simp] theorem State.discardIntake_arb (s : State) : (s.discardIntake).arb = s.arb := by
  unfold State.discardIntake
  have : ∀ (l : List QueueEntry) (u : State), (l.foldl State.discardEntry u).arb = u.arb := by
    intro l
    induction l with
    | nil => intro u; rfl
    | cons q l ih => intro u; rw [List.foldl_cons, ih]; simp
  exact this _ s
@[simp] theorem State.discardIntake_port (s : State) : (s.discardIntake).port = s.port := by
  unfold State.discardIntake
  have : ∀ (l : List QueueEntry) (u : State), (l.foldl State.discardEntry u).port = u.port := by
    intro l
    induction l with
    | nil => intro u; rfl
    | cons q l ih => intro u; rw [List.foldl_cons, ih]; simp
  exact this _ s
@[simp] theorem State.discardIntake_cranes (s : State) : (s.discardIntake).cranes = s.cranes := by
  unfold State.discardIntake
  have : ∀ (l : List QueueEntry) (u : State), (l.foldl State.discardEntry u).cranes = u.cranes := by
    intro l
    induction l with
    | nil => intro u; rfl
    | cons q l ih => intro u; rw [List.foldl_cons, ih]; simp
  exact this _ s
@[simp] theorem State.discardIntake_grid (s : State) : (s.discardIntake).grid = s.grid := by
  unfold State.discardIntake
  have : ∀ (l : List QueueEntry) (u : State), (l.foldl State.discardEntry u).grid = u.grid := by
    intro l
    induction l with
    | nil => intro u; rfl
    | cons q l ih => intro u; rw [List.foldl_cons, ih]; simp
  exact this _ s
@[simp] theorem State.discardIntake_reefer (s : State) : (s.discardIntake).reefer = s.reefer := by
  unfold State.discardIntake
  have : ∀ (l : List QueueEntry) (u : State), (l.foldl State.discardEntry u).reefer = u.reefer := by
    intro l
    induction l with
    | nil => intro u; rfl
    | cons q l ih => intro u; rw [List.foldl_cons, ih]; simp
  exact this _ s
@[simp] theorem State.discardIntake_notice (s : State) : (s.discardIntake).notice = s.notice := by
  unfold State.discardIntake
  have : ∀ (l : List QueueEntry) (u : State), (l.foldl State.discardEntry u).notice = u.notice := by
    intro l
    induction l with
    | nil => intro u; rfl
    | cons q l ih => intro u; rw [List.foldl_cons, ih]; simp
  exact this _ s
@[simp] theorem State.discardIntake_cmd (s : State) : (s.discardIntake).cmd = s.cmd := by
  unfold State.discardIntake
  have : ∀ (l : List QueueEntry) (u : State), (l.foldl State.discardEntry u).cmd = u.cmd := by
    intro l
    induction l with
    | nil => intro u; rfl
    | cons q l ih => intro u; rw [List.foldl_cons, ih]; simp
  exact this _ s
@[simp] theorem State.discardIntake_mirror (s : State) : (s.discardIntake).mirror = s.mirror := by
  unfold State.discardIntake
  have : ∀ (l : List QueueEntry) (u : State), (l.foldl State.discardEntry u).mirror = u.mirror := by
    intro l
    induction l with
    | nil => intro u; rfl
    | cons q l ih => intro u; rw [List.foldl_cons, ih]; simp
  exact this _ s
@[simp] theorem State.discardIntake_scratch (s : State) : (s.discardIntake).scratch = s.scratch := by
  unfold State.discardIntake
  have : ∀ (l : List QueueEntry) (u : State), (l.foldl State.discardEntry u).scratch = u.scratch := by
    intro l
    induction l with
    | nil => intro u; rfl
    | cons q l ih => intro u; rw [List.foldl_cons, ih]; simp
  exact this _ s
@[simp] theorem State.discardIntake_restarts (s : State) : (s.discardIntake).restarts = s.restarts := by
  unfold State.discardIntake
  have : ∀ (l : List QueueEntry) (u : State), (l.foldl State.discardEntry u).restarts = u.restarts := by
    intro l
    induction l with
    | nil => intro u; rfl
    | cons q l ih => intro u; rw [List.foldl_cons, ih]; simp
  exact this _ s
@[simp] theorem State.discardIntake_pending (s : State) : (s.discardIntake).pending = s.pending := by
  unfold State.discardIntake
  have : ∀ (l : List QueueEntry) (u : State), (l.foldl State.discardEntry u).pending = u.pending := by
    intro l
    induction l with
    | nil => intro u; rfl
    | cons q l ih => intro u; rw [List.foldl_cons, ih]; simp
  exact this _ s

@[simp] theorem State.reportPositions_inReset (s : State) (f : Flag) (k : NoticeKind) (i : Fin 32) (m : MasterId) (l : List Nat) : (s.reportPositions f k i m l).inReset = s.inReset := by unfold State.reportPositions; split <;> simp
@[simp] theorem State.reportPositions_cpb (s : State) (f : Flag) (k : NoticeKind) (i : Fin 32) (m : MasterId) (l : List Nat) : (s.reportPositions f k i m l).cpb = s.cpb := by unfold State.reportPositions; split <;> simp
@[simp] theorem State.reportPositions_cpid (s : State) (f : Flag) (k : NoticeKind) (i : Fin 32) (m : MasterId) (l : List Nat) : (s.reportPositions f k i m l).cpid = s.cpid := by unfold State.reportPositions; split <;> simp
@[simp] theorem State.reportPositions_time (s : State) (f : Flag) (k : NoticeKind) (i : Fin 32) (m : MasterId) (l : List Nat) : (s.reportPositions f k i m l).time = s.time := by unfold State.reportPositions; split <;> simp
@[simp] theorem State.reportPositions_windows (s : State) (f : Flag) (k : NoticeKind) (i : Fin 32) (m : MasterId) (l : List Nat) : (s.reportPositions f k i m l).windows = s.windows := by unfold State.reportPositions; split <;> simp
@[simp] theorem State.reportPositions_intake (s : State) (f : Flag) (k : NoticeKind) (i : Fin 32) (m : MasterId) (l : List Nat) : (s.reportPositions f k i m l).intake = s.intake := by unfold State.reportPositions; split <;> simp
@[simp] theorem State.reportPositions_arb (s : State) (f : Flag) (k : NoticeKind) (i : Fin 32) (m : MasterId) (l : List Nat) : (s.reportPositions f k i m l).arb = s.arb := by unfold State.reportPositions; split <;> simp
@[simp] theorem State.reportPositions_port (s : State) (f : Flag) (k : NoticeKind) (i : Fin 32) (m : MasterId) (l : List Nat) : (s.reportPositions f k i m l).port = s.port := by unfold State.reportPositions; split <;> simp
@[simp] theorem State.reportPositions_cranes (s : State) (f : Flag) (k : NoticeKind) (i : Fin 32) (m : MasterId) (l : List Nat) : (s.reportPositions f k i m l).cranes = s.cranes := by unfold State.reportPositions; split <;> simp
@[simp] theorem State.reportPositions_grid (s : State) (f : Flag) (k : NoticeKind) (i : Fin 32) (m : MasterId) (l : List Nat) : (s.reportPositions f k i m l).grid = s.grid := by unfold State.reportPositions; split <;> simp
@[simp] theorem State.reportPositions_reefer (s : State) (f : Flag) (k : NoticeKind) (i : Fin 32) (m : MasterId) (l : List Nat) : (s.reportPositions f k i m l).reefer = s.reefer := by unfold State.reportPositions; split <;> simp
@[simp] theorem State.reportPositions_cmd (s : State) (f : Flag) (k : NoticeKind) (i : Fin 32) (m : MasterId) (l : List Nat) : (s.reportPositions f k i m l).cmd = s.cmd := by unfold State.reportPositions; split <;> simp
@[simp] theorem State.reportPositions_mirror (s : State) (f : Flag) (k : NoticeKind) (i : Fin 32) (m : MasterId) (l : List Nat) : (s.reportPositions f k i m l).mirror = s.mirror := by unfold State.reportPositions; split <;> simp
@[simp] theorem State.reportPositions_restarts (s : State) (f : Flag) (k : NoticeKind) (i : Fin 32) (m : MasterId) (l : List Nat) : (s.reportPositions f k i m l).restarts = s.restarts := by unfold State.reportPositions; split <;> simp
@[simp] theorem State.reportPositions_pending (s : State) (f : Flag) (k : NoticeKind) (i : Fin 32) (m : MasterId) (l : List Nat) : (s.reportPositions f k i m l).pending = s.pending := by unfold State.reportPositions; split <;> simp

@[simp] theorem State.intakeWrite_inReset (s : State) (i : Fin 32) (k : WindowKind) (m : MasterId) (a : Nat) (l : List Lane) : (s.intakeWrite i k m a l).inReset = s.inReset := by unfold State.intakeWrite; dsimp only; split <;> simp
@[simp] theorem State.intakeWrite_cpb (s : State) (i : Fin 32) (k : WindowKind) (m : MasterId) (a : Nat) (l : List Lane) : (s.intakeWrite i k m a l).cpb = s.cpb := by unfold State.intakeWrite; dsimp only; split <;> simp
@[simp] theorem State.intakeWrite_cpid (s : State) (i : Fin 32) (k : WindowKind) (m : MasterId) (a : Nat) (l : List Lane) : (s.intakeWrite i k m a l).cpid = s.cpid := by unfold State.intakeWrite; dsimp only; split <;> simp
@[simp] theorem State.intakeWrite_time (s : State) (i : Fin 32) (k : WindowKind) (m : MasterId) (a : Nat) (l : List Lane) : (s.intakeWrite i k m a l).time = s.time := by unfold State.intakeWrite; dsimp only; split <;> simp
@[simp] theorem State.intakeWrite_arb (s : State) (i : Fin 32) (k : WindowKind) (m : MasterId) (a : Nat) (l : List Lane) : (s.intakeWrite i k m a l).arb = s.arb := by unfold State.intakeWrite; dsimp only; split <;> simp
@[simp] theorem State.intakeWrite_port (s : State) (i : Fin 32) (k : WindowKind) (m : MasterId) (a : Nat) (l : List Lane) : (s.intakeWrite i k m a l).port = s.port := by unfold State.intakeWrite; dsimp only; split <;> simp
@[simp] theorem State.intakeWrite_cranes (s : State) (i : Fin 32) (k : WindowKind) (m : MasterId) (a : Nat) (l : List Lane) : (s.intakeWrite i k m a l).cranes = s.cranes := by unfold State.intakeWrite; dsimp only; split <;> simp
@[simp] theorem State.intakeWrite_grid (s : State) (i : Fin 32) (k : WindowKind) (m : MasterId) (a : Nat) (l : List Lane) : (s.intakeWrite i k m a l).grid = s.grid := by unfold State.intakeWrite; dsimp only; split <;> simp
@[simp] theorem State.intakeWrite_reefer (s : State) (i : Fin 32) (k : WindowKind) (m : MasterId) (a : Nat) (l : List Lane) : (s.intakeWrite i k m a l).reefer = s.reefer := by unfold State.intakeWrite; dsimp only; split <;> simp
@[simp] theorem State.intakeWrite_cmd (s : State) (i : Fin 32) (k : WindowKind) (m : MasterId) (a : Nat) (l : List Lane) : (s.intakeWrite i k m a l).cmd = s.cmd := by unfold State.intakeWrite; dsimp only; split <;> simp
@[simp] theorem State.intakeWrite_mirror (s : State) (i : Fin 32) (k : WindowKind) (m : MasterId) (a : Nat) (l : List Lane) : (s.intakeWrite i k m a l).mirror = s.mirror := by unfold State.intakeWrite; dsimp only; split <;> simp
@[simp] theorem State.intakeWrite_restarts (s : State) (i : Fin 32) (k : WindowKind) (m : MasterId) (a : Nat) (l : List Lane) : (s.intakeWrite i k m a l).restarts = s.restarts := by unfold State.intakeWrite; dsimp only; split <;> simp
@[simp] theorem State.intakeWrite_pending (s : State) (i : Fin 32) (k : WindowKind) (m : MasterId) (a : Nat) (l : List Lane) : (s.intakeWrite i k m a l).pending = s.pending := by unfold State.intakeWrite; dsimp only; split <;> simp

/-! ## Transfers -/

@[simp] theorem State.respond_inReset (s : State) (r : UpResponse) : (s.respond r).inReset = s.inReset := by simp [State.respond]
@[simp] theorem State.respond_cpb (s : State) (r : UpResponse) : (s.respond r).cpb = s.cpb := by simp [State.respond]
@[simp] theorem State.respond_cpid (s : State) (r : UpResponse) : (s.respond r).cpid = s.cpid := by simp [State.respond]
@[simp] theorem State.respond_time (s : State) (r : UpResponse) : (s.respond r).time = s.time := by simp [State.respond]
@[simp] theorem State.respond_windows (s : State) (r : UpResponse) : (s.respond r).windows = s.windows := by simp [State.respond]
@[simp] theorem State.respond_intake (s : State) (r : UpResponse) : (s.respond r).intake = s.intake := by simp [State.respond]
@[simp] theorem State.respond_arb (s : State) (r : UpResponse) : (s.respond r).arb = s.arb := by simp [State.respond]
@[simp] theorem State.respond_cranes (s : State) (r : UpResponse) : (s.respond r).cranes = s.cranes := by simp [State.respond]
@[simp] theorem State.respond_grid (s : State) (r : UpResponse) : (s.respond r).grid = s.grid := by simp [State.respond]
@[simp] theorem State.respond_reefer (s : State) (r : UpResponse) : (s.respond r).reefer = s.reefer := by simp [State.respond]
@[simp] theorem State.respond_notice (s : State) (r : UpResponse) : (s.respond r).notice = s.notice := by simp [State.respond]
@[simp] theorem State.respond_cmd (s : State) (r : UpResponse) : (s.respond r).cmd = s.cmd := by simp [State.respond]
@[simp] theorem State.respond_mirror (s : State) (r : UpResponse) : (s.respond r).mirror = s.mirror := by simp [State.respond]
@[simp] theorem State.respond_scratch (s : State) (r : UpResponse) : (s.respond r).scratch = s.scratch := by simp [State.respond]
@[simp] theorem State.respond_restarts (s : State) (r : UpResponse) : (s.respond r).restarts = s.restarts := by simp [State.respond]
@[simp] theorem State.respond_pending (s : State) (r : UpResponse) : (s.respond r).pending = s.pending := by simp [State.respond]

@[simp] theorem State.blockWrite_inReset (s : State) (n : Nat) (m : MasterId) (a : Address) : (s.blockWrite n m a).inReset = s.inReset := by simp [State.blockWrite]
@[simp] theorem State.blockWrite_cpb (s : State) (n : Nat) (m : MasterId) (a : Address) : (s.blockWrite n m a).cpb = s.cpb := by simp [State.blockWrite]
@[simp] theorem State.blockWrite_cpid (s : State) (n : Nat) (m : MasterId) (a : Address) : (s.blockWrite n m a).cpid = s.cpid := by simp [State.blockWrite]
@[simp] theorem State.blockWrite_time (s : State) (n : Nat) (m : MasterId) (a : Address) : (s.blockWrite n m a).time = s.time := by simp [State.blockWrite]
@[simp] theorem State.blockWrite_windows (s : State) (n : Nat) (m : MasterId) (a : Address) : (s.blockWrite n m a).windows = s.windows := by simp [State.blockWrite]
@[simp] theorem State.blockWrite_intake (s : State) (n : Nat) (m : MasterId) (a : Address) : (s.blockWrite n m a).intake = s.intake := by simp [State.blockWrite]
@[simp] theorem State.blockWrite_arb (s : State) (n : Nat) (m : MasterId) (a : Address) : (s.blockWrite n m a).arb = s.arb := by simp [State.blockWrite]
@[simp] theorem State.blockWrite_cranes (s : State) (n : Nat) (m : MasterId) (a : Address) : (s.blockWrite n m a).cranes = s.cranes := by simp [State.blockWrite]
@[simp] theorem State.blockWrite_grid (s : State) (n : Nat) (m : MasterId) (a : Address) : (s.blockWrite n m a).grid = s.grid := by simp [State.blockWrite]
@[simp] theorem State.blockWrite_reefer (s : State) (n : Nat) (m : MasterId) (a : Address) : (s.blockWrite n m a).reefer = s.reefer := by simp [State.blockWrite]
@[simp] theorem State.blockWrite_cmd (s : State) (n : Nat) (m : MasterId) (a : Address) : (s.blockWrite n m a).cmd = s.cmd := by simp [State.blockWrite]
@[simp] theorem State.blockWrite_mirror (s : State) (n : Nat) (m : MasterId) (a : Address) : (s.blockWrite n m a).mirror = s.mirror := by simp [State.blockWrite]
@[simp] theorem State.blockWrite_restarts (s : State) (n : Nat) (m : MasterId) (a : Address) : (s.blockWrite n m a).restarts = s.restarts := by simp [State.blockWrite]
@[simp] theorem State.blockWrite_pending (s : State) (n : Nat) (m : MasterId) (a : Address) : (s.blockWrite n m a).pending = s.pending := by simp [State.blockWrite]

@[simp] theorem State.forward_inReset (s : State) (p : Passing) : (s.forward p).inReset = s.inReset := by simp [State.forward]
@[simp] theorem State.forward_cpb (s : State) (p : Passing) : (s.forward p).cpb = s.cpb := by simp [State.forward]
@[simp] theorem State.forward_cpid (s : State) (p : Passing) : (s.forward p).cpid = s.cpid := by simp [State.forward]
@[simp] theorem State.forward_time (s : State) (p : Passing) : (s.forward p).time = s.time := by simp [State.forward]
@[simp] theorem State.forward_windows (s : State) (p : Passing) : (s.forward p).windows = s.windows := by simp [State.forward]
@[simp] theorem State.forward_intake (s : State) (p : Passing) : (s.forward p).intake = s.intake := by simp [State.forward]
@[simp] theorem State.forward_port (s : State) (p : Passing) : (s.forward p).port = s.port := by simp [State.forward]
@[simp] theorem State.forward_cranes (s : State) (p : Passing) : (s.forward p).cranes = s.cranes := by simp [State.forward]
@[simp] theorem State.forward_grid (s : State) (p : Passing) : (s.forward p).grid = s.grid := by simp [State.forward]
@[simp] theorem State.forward_reefer (s : State) (p : Passing) : (s.forward p).reefer = s.reefer := by simp [State.forward]
@[simp] theorem State.forward_notice (s : State) (p : Passing) : (s.forward p).notice = s.notice := by simp [State.forward]
@[simp] theorem State.forward_cmd (s : State) (p : Passing) : (s.forward p).cmd = s.cmd := by simp [State.forward]
@[simp] theorem State.forward_mirror (s : State) (p : Passing) : (s.forward p).mirror = s.mirror := by simp [State.forward]
@[simp] theorem State.forward_scratch (s : State) (p : Passing) : (s.forward p).scratch = s.scratch := by simp [State.forward]
@[simp] theorem State.forward_restarts (s : State) (p : Passing) : (s.forward p).restarts = s.restarts := by simp [State.forward]
@[simp] theorem State.forward_pending (s : State) (p : Passing) : (s.forward p).pending = s.pending := by simp [State.forward]

@[simp] theorem State.completeRing_inReset (s : State) : (s.completeRing).inReset = s.inReset := by simp [State.completeRing]
@[simp] theorem State.completeRing_cpb (s : State) : (s.completeRing).cpb = s.cpb := by simp [State.completeRing]
@[simp] theorem State.completeRing_cpid (s : State) : (s.completeRing).cpid = s.cpid := by simp [State.completeRing]
@[simp] theorem State.completeRing_time (s : State) : (s.completeRing).time = s.time := by simp [State.completeRing]
@[simp] theorem State.completeRing_windows (s : State) : (s.completeRing).windows = s.windows := by simp [State.completeRing]
@[simp] theorem State.completeRing_intake (s : State) : (s.completeRing).intake = s.intake := by simp [State.completeRing]
@[simp] theorem State.completeRing_arb (s : State) : (s.completeRing).arb = s.arb := by simp [State.completeRing]
@[simp] theorem State.completeRing_port (s : State) : (s.completeRing).port = s.port := by simp [State.completeRing]
@[simp] theorem State.completeRing_cranes (s : State) : (s.completeRing).cranes = s.cranes := by simp [State.completeRing]
@[simp] theorem State.completeRing_grid (s : State) : (s.completeRing).grid = s.grid := by simp [State.completeRing]
@[simp] theorem State.completeRing_reefer (s : State) : (s.completeRing).reefer = s.reefer := by simp [State.completeRing]
@[simp] theorem State.completeRing_cmd (s : State) : (s.completeRing).cmd = s.cmd := by simp [State.completeRing]
@[simp] theorem State.completeRing_mirror (s : State) : (s.completeRing).mirror = s.mirror := by simp [State.completeRing]
@[simp] theorem State.completeRing_restarts (s : State) : (s.completeRing).restarts = s.restarts := by simp [State.completeRing]
@[simp] theorem State.completeRing_pending (s : State) : (s.completeRing).pending = s.pending := by simp [State.completeRing]

@[simp] theorem State.ringIncomplete_inReset (s : State) : (s.ringIncomplete).inReset = s.inReset := by unfold State.ringIncomplete; split <;> simp
@[simp] theorem State.ringIncomplete_cpb (s : State) : (s.ringIncomplete).cpb = s.cpb := by unfold State.ringIncomplete; split <;> simp
@[simp] theorem State.ringIncomplete_cpid (s : State) : (s.ringIncomplete).cpid = s.cpid := by unfold State.ringIncomplete; split <;> simp
@[simp] theorem State.ringIncomplete_time (s : State) : (s.ringIncomplete).time = s.time := by unfold State.ringIncomplete; split <;> simp
@[simp] theorem State.ringIncomplete_windows (s : State) : (s.ringIncomplete).windows = s.windows := by unfold State.ringIncomplete; split <;> simp
@[simp] theorem State.ringIncomplete_intake (s : State) : (s.ringIncomplete).intake = s.intake := by unfold State.ringIncomplete; split <;> simp
@[simp] theorem State.ringIncomplete_arb (s : State) : (s.ringIncomplete).arb = s.arb := by unfold State.ringIncomplete; split <;> simp
@[simp] theorem State.ringIncomplete_port (s : State) : (s.ringIncomplete).port = s.port := by unfold State.ringIncomplete; split <;> simp
@[simp] theorem State.ringIncomplete_cranes (s : State) : (s.ringIncomplete).cranes = s.cranes := by unfold State.ringIncomplete; split <;> simp
@[simp] theorem State.ringIncomplete_grid (s : State) : (s.ringIncomplete).grid = s.grid := by unfold State.ringIncomplete; split <;> simp
@[simp] theorem State.ringIncomplete_reefer (s : State) : (s.ringIncomplete).reefer = s.reefer := by unfold State.ringIncomplete; split <;> simp
@[simp] theorem State.ringIncomplete_cmd (s : State) : (s.ringIncomplete).cmd = s.cmd := by unfold State.ringIncomplete; split <;> simp
@[simp] theorem State.ringIncomplete_mirror (s : State) : (s.ringIncomplete).mirror = s.mirror := by unfold State.ringIncomplete; split <;> simp
@[simp] theorem State.ringIncomplete_restarts (s : State) : (s.ringIncomplete).restarts = s.restarts := by unfold State.ringIncomplete; split <;> simp
@[simp] theorem State.ringIncomplete_pending (s : State) : (s.ringIncomplete).pending = s.pending := by unfold State.ringIncomplete; split <;> simp

@[simp] theorem State.consumerWrite_inReset (s : State) : (s.consumerWrite).inReset = s.inReset := by unfold State.consumerWrite; dsimp only; split <;> simp
@[simp] theorem State.consumerWrite_cpb (s : State) : (s.consumerWrite).cpb = s.cpb := by unfold State.consumerWrite; dsimp only; split <;> simp
@[simp] theorem State.consumerWrite_cpid (s : State) : (s.consumerWrite).cpid = s.cpid := by unfold State.consumerWrite; dsimp only; split <;> simp
@[simp] theorem State.consumerWrite_time (s : State) : (s.consumerWrite).time = s.time := by unfold State.consumerWrite; dsimp only; split <;> simp
@[simp] theorem State.consumerWrite_windows (s : State) : (s.consumerWrite).windows = s.windows := by unfold State.consumerWrite; dsimp only; split <;> simp
@[simp] theorem State.consumerWrite_intake (s : State) : (s.consumerWrite).intake = s.intake := by unfold State.consumerWrite; dsimp only; split <;> simp
@[simp] theorem State.consumerWrite_arb (s : State) : (s.consumerWrite).arb = s.arb := by unfold State.consumerWrite; dsimp only; split <;> simp
@[simp] theorem State.consumerWrite_port (s : State) : (s.consumerWrite).port = s.port := by unfold State.consumerWrite; dsimp only; split <;> simp
@[simp] theorem State.consumerWrite_cranes (s : State) : (s.consumerWrite).cranes = s.cranes := by unfold State.consumerWrite; dsimp only; split <;> simp
@[simp] theorem State.consumerWrite_grid (s : State) : (s.consumerWrite).grid = s.grid := by unfold State.consumerWrite; dsimp only; split <;> simp
@[simp] theorem State.consumerWrite_reefer (s : State) : (s.consumerWrite).reefer = s.reefer := by unfold State.consumerWrite; dsimp only; split <;> simp
@[simp] theorem State.consumerWrite_cmd (s : State) : (s.consumerWrite).cmd = s.cmd := by unfold State.consumerWrite; dsimp only; split <;> simp
@[simp] theorem State.consumerWrite_mirror (s : State) : (s.consumerWrite).mirror = s.mirror := by unfold State.consumerWrite; dsimp only; split <;> simp
@[simp] theorem State.consumerWrite_restarts (s : State) : (s.consumerWrite).restarts = s.restarts := by unfold State.consumerWrite; dsimp only; split <;> simp
@[simp] theorem State.consumerWrite_pending (s : State) : (s.consumerWrite).pending = s.pending := by unfold State.consumerWrite; dsimp only; split <;> simp

@[simp] theorem State.ringWrite_inReset (s : State) (a : Nat) (l : List Lane) : (s.ringWrite a l).inReset = s.inReset := by
  unfold State.ringWrite; dsimp only; split
  · simp
  · split <;> split <;> simp
@[simp] theorem State.ringWrite_cpb (s : State) (a : Nat) (l : List Lane) : (s.ringWrite a l).cpb = s.cpb := by
  unfold State.ringWrite; dsimp only; split
  · simp
  · split <;> split <;> simp
@[simp] theorem State.ringWrite_cpid (s : State) (a : Nat) (l : List Lane) : (s.ringWrite a l).cpid = s.cpid := by
  unfold State.ringWrite; dsimp only; split
  · simp
  · split <;> split <;> simp
@[simp] theorem State.ringWrite_time (s : State) (a : Nat) (l : List Lane) : (s.ringWrite a l).time = s.time := by
  unfold State.ringWrite; dsimp only; split
  · simp
  · split <;> split <;> simp
@[simp] theorem State.ringWrite_windows (s : State) (a : Nat) (l : List Lane) : (s.ringWrite a l).windows = s.windows := by
  unfold State.ringWrite; dsimp only; split
  · simp
  · split <;> split <;> simp
@[simp] theorem State.ringWrite_intake (s : State) (a : Nat) (l : List Lane) : (s.ringWrite a l).intake = s.intake := by
  unfold State.ringWrite; dsimp only; split
  · simp
  · split <;> split <;> simp
@[simp] theorem State.ringWrite_arb (s : State) (a : Nat) (l : List Lane) : (s.ringWrite a l).arb = s.arb := by
  unfold State.ringWrite; dsimp only; split
  · simp
  · split <;> split <;> simp
@[simp] theorem State.ringWrite_port (s : State) (a : Nat) (l : List Lane) : (s.ringWrite a l).port = s.port := by
  unfold State.ringWrite; dsimp only; split
  · simp
  · split <;> split <;> simp
@[simp] theorem State.ringWrite_cranes (s : State) (a : Nat) (l : List Lane) : (s.ringWrite a l).cranes = s.cranes := by
  unfold State.ringWrite; dsimp only; split
  · simp
  · split <;> split <;> simp
@[simp] theorem State.ringWrite_grid (s : State) (a : Nat) (l : List Lane) : (s.ringWrite a l).grid = s.grid := by
  unfold State.ringWrite; dsimp only; split
  · simp
  · split <;> split <;> simp
@[simp] theorem State.ringWrite_reefer (s : State) (a : Nat) (l : List Lane) : (s.ringWrite a l).reefer = s.reefer := by
  unfold State.ringWrite; dsimp only; split
  · simp
  · split <;> split <;> simp
@[simp] theorem State.ringWrite_cmd (s : State) (a : Nat) (l : List Lane) : (s.ringWrite a l).cmd = s.cmd := by
  unfold State.ringWrite; dsimp only; split
  · simp
  · split <;> split <;> simp
@[simp] theorem State.ringWrite_mirror (s : State) (a : Nat) (l : List Lane) : (s.ringWrite a l).mirror = s.mirror := by
  unfold State.ringWrite; dsimp only; split
  · simp
  · split <;> split <;> simp
@[simp] theorem State.ringWrite_restarts (s : State) (a : Nat) (l : List Lane) : (s.ringWrite a l).restarts = s.restarts := by
  unfold State.ringWrite; dsimp only; split
  · simp
  · split <;> split <;> simp
@[simp] theorem State.ringWrite_pending (s : State) (a : Nat) (l : List Lane) : (s.ringWrite a l).pending = s.pending := by
  unfold State.ringWrite; dsimp only; split
  · simp
  · split <;> split <;> simp

@[simp] theorem State.commandWrite_inReset (s : State) (a : Nat) (l : List Lane) : (s.commandWrite a l).inReset = s.inReset := by simp [State.commandWrite]
@[simp] theorem State.commandWrite_cpb (s : State) (a : Nat) (l : List Lane) : (s.commandWrite a l).cpb = s.cpb := by simp [State.commandWrite]
@[simp] theorem State.commandWrite_cpid (s : State) (a : Nat) (l : List Lane) : (s.commandWrite a l).cpid = s.cpid := by simp [State.commandWrite]
@[simp] theorem State.commandWrite_time (s : State) (a : Nat) (l : List Lane) : (s.commandWrite a l).time = s.time := by simp [State.commandWrite]
@[simp] theorem State.commandWrite_windows (s : State) (a : Nat) (l : List Lane) : (s.commandWrite a l).windows = s.windows := by simp [State.commandWrite]
@[simp] theorem State.commandWrite_intake (s : State) (a : Nat) (l : List Lane) : (s.commandWrite a l).intake = s.intake := by simp [State.commandWrite]
@[simp] theorem State.commandWrite_arb (s : State) (a : Nat) (l : List Lane) : (s.commandWrite a l).arb = s.arb := by simp [State.commandWrite]
@[simp] theorem State.commandWrite_port (s : State) (a : Nat) (l : List Lane) : (s.commandWrite a l).port = s.port := by simp [State.commandWrite]
@[simp] theorem State.commandWrite_cranes (s : State) (a : Nat) (l : List Lane) : (s.commandWrite a l).cranes = s.cranes := by simp [State.commandWrite]
@[simp] theorem State.commandWrite_grid (s : State) (a : Nat) (l : List Lane) : (s.commandWrite a l).grid = s.grid := by simp [State.commandWrite]
@[simp] theorem State.commandWrite_reefer (s : State) (a : Nat) (l : List Lane) : (s.commandWrite a l).reefer = s.reefer := by simp [State.commandWrite]
@[simp] theorem State.commandWrite_notice (s : State) (a : Nat) (l : List Lane) : (s.commandWrite a l).notice = s.notice := by simp [State.commandWrite]
@[simp] theorem State.commandWrite_mirror (s : State) (a : Nat) (l : List Lane) : (s.commandWrite a l).mirror = s.mirror := by simp [State.commandWrite]
@[simp] theorem State.commandWrite_scratch (s : State) (a : Nat) (l : List Lane) : (s.commandWrite a l).scratch = s.scratch := by simp [State.commandWrite]
@[simp] theorem State.commandWrite_restarts (s : State) (a : Nat) (l : List Lane) : (s.commandWrite a l).restarts = s.restarts := by simp [State.commandWrite]
@[simp] theorem State.commandWrite_pending (s : State) (a : Nat) (l : List Lane) : (s.commandWrite a l).pending = s.pending := by simp [State.commandWrite]

@[simp] theorem State.headerRead_inReset (s : State) (i : Fin 16) (n : Nat) : ((s.headerRead i n).1).inReset = s.inReset := by unfold State.headerRead; dsimp only; split <;> (try split) <;> simp
@[simp] theorem State.headerRead_cpb (s : State) (i : Fin 16) (n : Nat) : ((s.headerRead i n).1).cpb = s.cpb := by unfold State.headerRead; dsimp only; split <;> (try split) <;> simp
@[simp] theorem State.headerRead_cpid (s : State) (i : Fin 16) (n : Nat) : ((s.headerRead i n).1).cpid = s.cpid := by unfold State.headerRead; dsimp only; split <;> (try split) <;> simp
@[simp] theorem State.headerRead_time (s : State) (i : Fin 16) (n : Nat) : ((s.headerRead i n).1).time = s.time := by unfold State.headerRead; dsimp only; split <;> (try split) <;> simp
@[simp] theorem State.headerRead_windows (s : State) (i : Fin 16) (n : Nat) : ((s.headerRead i n).1).windows = s.windows := by unfold State.headerRead; dsimp only; split <;> (try split) <;> simp
@[simp] theorem State.headerRead_intake (s : State) (i : Fin 16) (n : Nat) : ((s.headerRead i n).1).intake = s.intake := by unfold State.headerRead; dsimp only; split <;> (try split) <;> simp
@[simp] theorem State.headerRead_arb (s : State) (i : Fin 16) (n : Nat) : ((s.headerRead i n).1).arb = s.arb := by unfold State.headerRead; dsimp only; split <;> (try split) <;> simp
@[simp] theorem State.headerRead_port (s : State) (i : Fin 16) (n : Nat) : ((s.headerRead i n).1).port = s.port := by unfold State.headerRead; dsimp only; split <;> (try split) <;> simp
@[simp] theorem State.headerRead_grid (s : State) (i : Fin 16) (n : Nat) : ((s.headerRead i n).1).grid = s.grid := by unfold State.headerRead; dsimp only; split <;> (try split) <;> simp
@[simp] theorem State.headerRead_reefer (s : State) (i : Fin 16) (n : Nat) : ((s.headerRead i n).1).reefer = s.reefer := by unfold State.headerRead; dsimp only; split <;> (try split) <;> simp
@[simp] theorem State.headerRead_cmd (s : State) (i : Fin 16) (n : Nat) : ((s.headerRead i n).1).cmd = s.cmd := by unfold State.headerRead; dsimp only; split <;> (try split) <;> simp
@[simp] theorem State.headerRead_mirror (s : State) (i : Fin 16) (n : Nat) : ((s.headerRead i n).1).mirror = s.mirror := by unfold State.headerRead; dsimp only; split <;> (try split) <;> simp
@[simp] theorem State.headerRead_restarts (s : State) (i : Fin 16) (n : Nat) : ((s.headerRead i n).1).restarts = s.restarts := by unfold State.headerRead; dsimp only; split <;> (try split) <;> simp
@[simp] theorem State.headerRead_pending (s : State) (i : Fin 16) (n : Nat) : ((s.headerRead i n).1).pending = s.pending := by unfold State.headerRead; dsimp only; split <;> (try split) <;> simp

@[simp] theorem State.readBeat_inReset (s : State) (i : Fin 16) (z off : Nat) : ((s.readBeat i z off).1).inReset = s.inReset := by unfold State.readBeat; split <;> simp
@[simp] theorem State.readBeat_cpb (s : State) (i : Fin 16) (z off : Nat) : ((s.readBeat i z off).1).cpb = s.cpb := by unfold State.readBeat; split <;> simp
@[simp] theorem State.readBeat_cpid (s : State) (i : Fin 16) (z off : Nat) : ((s.readBeat i z off).1).cpid = s.cpid := by unfold State.readBeat; split <;> simp
@[simp] theorem State.readBeat_time (s : State) (i : Fin 16) (z off : Nat) : ((s.readBeat i z off).1).time = s.time := by unfold State.readBeat; split <;> simp
@[simp] theorem State.readBeat_windows (s : State) (i : Fin 16) (z off : Nat) : ((s.readBeat i z off).1).windows = s.windows := by unfold State.readBeat; split <;> simp
@[simp] theorem State.readBeat_intake (s : State) (i : Fin 16) (z off : Nat) : ((s.readBeat i z off).1).intake = s.intake := by unfold State.readBeat; split <;> simp
@[simp] theorem State.readBeat_arb (s : State) (i : Fin 16) (z off : Nat) : ((s.readBeat i z off).1).arb = s.arb := by unfold State.readBeat; split <;> simp
@[simp] theorem State.readBeat_port (s : State) (i : Fin 16) (z off : Nat) : ((s.readBeat i z off).1).port = s.port := by unfold State.readBeat; split <;> simp
@[simp] theorem State.readBeat_grid (s : State) (i : Fin 16) (z off : Nat) : ((s.readBeat i z off).1).grid = s.grid := by unfold State.readBeat; split <;> simp
@[simp] theorem State.readBeat_reefer (s : State) (i : Fin 16) (z off : Nat) : ((s.readBeat i z off).1).reefer = s.reefer := by unfold State.readBeat; split <;> simp
@[simp] theorem State.readBeat_cmd (s : State) (i : Fin 16) (z off : Nat) : ((s.readBeat i z off).1).cmd = s.cmd := by unfold State.readBeat; split <;> simp
@[simp] theorem State.readBeat_mirror (s : State) (i : Fin 16) (z off : Nat) : ((s.readBeat i z off).1).mirror = s.mirror := by unfold State.readBeat; split <;> simp
@[simp] theorem State.readBeat_restarts (s : State) (i : Fin 16) (z off : Nat) : ((s.readBeat i z off).1).restarts = s.restarts := by unfold State.readBeat; split <;> simp
@[simp] theorem State.readBeat_pending (s : State) (i : Fin 16) (z off : Nat) : ((s.readBeat i z off).1).pending = s.pending := by unfold State.readBeat; split <;> simp

@[simp] theorem State.readBeats_inReset (s : State) (i : Fin 16) (z off k : Nat) : ((s.readBeats i z off k).1).inReset = s.inReset := by
  induction k generalizing s off with
  | zero => rfl
  | succ k ih => unfold State.readBeats; dsimp only; rw [ih]; simp
@[simp] theorem State.readBeats_cpb (s : State) (i : Fin 16) (z off k : Nat) : ((s.readBeats i z off k).1).cpb = s.cpb := by
  induction k generalizing s off with
  | zero => rfl
  | succ k ih => unfold State.readBeats; dsimp only; rw [ih]; simp
@[simp] theorem State.readBeats_cpid (s : State) (i : Fin 16) (z off k : Nat) : ((s.readBeats i z off k).1).cpid = s.cpid := by
  induction k generalizing s off with
  | zero => rfl
  | succ k ih => unfold State.readBeats; dsimp only; rw [ih]; simp
@[simp] theorem State.readBeats_time (s : State) (i : Fin 16) (z off k : Nat) : ((s.readBeats i z off k).1).time = s.time := by
  induction k generalizing s off with
  | zero => rfl
  | succ k ih => unfold State.readBeats; dsimp only; rw [ih]; simp
@[simp] theorem State.readBeats_windows (s : State) (i : Fin 16) (z off k : Nat) : ((s.readBeats i z off k).1).windows = s.windows := by
  induction k generalizing s off with
  | zero => rfl
  | succ k ih => unfold State.readBeats; dsimp only; rw [ih]; simp
@[simp] theorem State.readBeats_intake (s : State) (i : Fin 16) (z off k : Nat) : ((s.readBeats i z off k).1).intake = s.intake := by
  induction k generalizing s off with
  | zero => rfl
  | succ k ih => unfold State.readBeats; dsimp only; rw [ih]; simp
@[simp] theorem State.readBeats_arb (s : State) (i : Fin 16) (z off k : Nat) : ((s.readBeats i z off k).1).arb = s.arb := by
  induction k generalizing s off with
  | zero => rfl
  | succ k ih => unfold State.readBeats; dsimp only; rw [ih]; simp
@[simp] theorem State.readBeats_port (s : State) (i : Fin 16) (z off k : Nat) : ((s.readBeats i z off k).1).port = s.port := by
  induction k generalizing s off with
  | zero => rfl
  | succ k ih => unfold State.readBeats; dsimp only; rw [ih]; simp
@[simp] theorem State.readBeats_grid (s : State) (i : Fin 16) (z off k : Nat) : ((s.readBeats i z off k).1).grid = s.grid := by
  induction k generalizing s off with
  | zero => rfl
  | succ k ih => unfold State.readBeats; dsimp only; rw [ih]; simp
@[simp] theorem State.readBeats_reefer (s : State) (i : Fin 16) (z off k : Nat) : ((s.readBeats i z off k).1).reefer = s.reefer := by
  induction k generalizing s off with
  | zero => rfl
  | succ k ih => unfold State.readBeats; dsimp only; rw [ih]; simp
@[simp] theorem State.readBeats_cmd (s : State) (i : Fin 16) (z off k : Nat) : ((s.readBeats i z off k).1).cmd = s.cmd := by
  induction k generalizing s off with
  | zero => rfl
  | succ k ih => unfold State.readBeats; dsimp only; rw [ih]; simp
@[simp] theorem State.readBeats_mirror (s : State) (i : Fin 16) (z off k : Nat) : ((s.readBeats i z off k).1).mirror = s.mirror := by
  induction k generalizing s off with
  | zero => rfl
  | succ k ih => unfold State.readBeats; dsimp only; rw [ih]; simp
@[simp] theorem State.readBeats_restarts (s : State) (i : Fin 16) (z off k : Nat) : ((s.readBeats i z off k).1).restarts = s.restarts := by
  induction k generalizing s off with
  | zero => rfl
  | succ k ih => unfold State.readBeats; dsimp only; rw [ih]; simp
@[simp] theorem State.readBeats_pending (s : State) (i : Fin 16) (z off k : Nat) : ((s.readBeats i z off k).1).pending = s.pending := by
  induction k generalizing s off with
  | zero => rfl
  | succ k ih => unfold State.readBeats; dsimp only; rw [ih]; simp

@[simp] theorem State.headerWrite_inReset (s : State) (w : Fin 32) (i : Fin 16) (z n : Nat) (m : MasterId) (l : List Lane) : ((s.headerWrite w i z n m l).1).inReset = s.inReset := by unfold State.headerWrite; dsimp only; split <;> (try split) <;> simp
@[simp] theorem State.headerWrite_cpb (s : State) (w : Fin 32) (i : Fin 16) (z n : Nat) (m : MasterId) (l : List Lane) : ((s.headerWrite w i z n m l).1).cpb = s.cpb := by unfold State.headerWrite; dsimp only; split <;> (try split) <;> simp
@[simp] theorem State.headerWrite_cpid (s : State) (w : Fin 32) (i : Fin 16) (z n : Nat) (m : MasterId) (l : List Lane) : ((s.headerWrite w i z n m l).1).cpid = s.cpid := by unfold State.headerWrite; dsimp only; split <;> (try split) <;> simp
@[simp] theorem State.headerWrite_time (s : State) (w : Fin 32) (i : Fin 16) (z n : Nat) (m : MasterId) (l : List Lane) : ((s.headerWrite w i z n m l).1).time = s.time := by unfold State.headerWrite; dsimp only; split <;> (try split) <;> simp
@[simp] theorem State.headerWrite_intake (s : State) (w : Fin 32) (i : Fin 16) (z n : Nat) (m : MasterId) (l : List Lane) : ((s.headerWrite w i z n m l).1).intake = s.intake := by unfold State.headerWrite; dsimp only; split <;> (try split) <;> simp
@[simp] theorem State.headerWrite_arb (s : State) (w : Fin 32) (i : Fin 16) (z n : Nat) (m : MasterId) (l : List Lane) : ((s.headerWrite w i z n m l).1).arb = s.arb := by unfold State.headerWrite; dsimp only; split <;> (try split) <;> simp
@[simp] theorem State.headerWrite_port (s : State) (w : Fin 32) (i : Fin 16) (z n : Nat) (m : MasterId) (l : List Lane) : ((s.headerWrite w i z n m l).1).port = s.port := by unfold State.headerWrite; dsimp only; split <;> (try split) <;> simp
@[simp] theorem State.headerWrite_grid (s : State) (w : Fin 32) (i : Fin 16) (z n : Nat) (m : MasterId) (l : List Lane) : ((s.headerWrite w i z n m l).1).grid = s.grid := by unfold State.headerWrite; dsimp only; split <;> (try split) <;> simp
@[simp] theorem State.headerWrite_reefer (s : State) (w : Fin 32) (i : Fin 16) (z n : Nat) (m : MasterId) (l : List Lane) : ((s.headerWrite w i z n m l).1).reefer = s.reefer := by unfold State.headerWrite; dsimp only; split <;> (try split) <;> simp
@[simp] theorem State.headerWrite_cmd (s : State) (w : Fin 32) (i : Fin 16) (z n : Nat) (m : MasterId) (l : List Lane) : ((s.headerWrite w i z n m l).1).cmd = s.cmd := by unfold State.headerWrite; dsimp only; split <;> (try split) <;> simp
@[simp] theorem State.headerWrite_mirror (s : State) (w : Fin 32) (i : Fin 16) (z n : Nat) (m : MasterId) (l : List Lane) : ((s.headerWrite w i z n m l).1).mirror = s.mirror := by unfold State.headerWrite; dsimp only; split <;> (try split) <;> simp
@[simp] theorem State.headerWrite_restarts (s : State) (w : Fin 32) (i : Fin 16) (z n : Nat) (m : MasterId) (l : List Lane) : ((s.headerWrite w i z n m l).1).restarts = s.restarts := by unfold State.headerWrite; dsimp only; split <;> (try split) <;> simp
@[simp] theorem State.headerWrite_pending (s : State) (w : Fin 32) (i : Fin 16) (z n : Nat) (m : MasterId) (l : List Lane) : ((s.headerWrite w i z n m l).1).pending = s.pending := by unfold State.headerWrite; dsimp only; split <;> (try split) <;> simp

@[simp] theorem State.writeBeats_inReset (s : State) (w : Fin 32) (i : Fin 16) (z : Nat) (m : MasterId) (off : Nat) (l : List (List Lane)) : ((s.writeBeats w i z m off l).1).inReset = s.inReset := by
  induction l generalizing s off with
  | nil => rfl
  | cons b l ih => unfold State.writeBeats; dsimp only; rw [ih]; split <;> simp
@[simp] theorem State.writeBeats_cpb (s : State) (w : Fin 32) (i : Fin 16) (z : Nat) (m : MasterId) (off : Nat) (l : List (List Lane)) : ((s.writeBeats w i z m off l).1).cpb = s.cpb := by
  induction l generalizing s off with
  | nil => rfl
  | cons b l ih => unfold State.writeBeats; dsimp only; rw [ih]; split <;> simp
@[simp] theorem State.writeBeats_cpid (s : State) (w : Fin 32) (i : Fin 16) (z : Nat) (m : MasterId) (off : Nat) (l : List (List Lane)) : ((s.writeBeats w i z m off l).1).cpid = s.cpid := by
  induction l generalizing s off with
  | nil => rfl
  | cons b l ih => unfold State.writeBeats; dsimp only; rw [ih]; split <;> simp
@[simp] theorem State.writeBeats_time (s : State) (w : Fin 32) (i : Fin 16) (z : Nat) (m : MasterId) (off : Nat) (l : List (List Lane)) : ((s.writeBeats w i z m off l).1).time = s.time := by
  induction l generalizing s off with
  | nil => rfl
  | cons b l ih => unfold State.writeBeats; dsimp only; rw [ih]; split <;> simp
@[simp] theorem State.writeBeats_intake (s : State) (w : Fin 32) (i : Fin 16) (z : Nat) (m : MasterId) (off : Nat) (l : List (List Lane)) : ((s.writeBeats w i z m off l).1).intake = s.intake := by
  induction l generalizing s off with
  | nil => rfl
  | cons b l ih => unfold State.writeBeats; dsimp only; rw [ih]; split <;> simp
@[simp] theorem State.writeBeats_arb (s : State) (w : Fin 32) (i : Fin 16) (z : Nat) (m : MasterId) (off : Nat) (l : List (List Lane)) : ((s.writeBeats w i z m off l).1).arb = s.arb := by
  induction l generalizing s off with
  | nil => rfl
  | cons b l ih => unfold State.writeBeats; dsimp only; rw [ih]; split <;> simp
@[simp] theorem State.writeBeats_port (s : State) (w : Fin 32) (i : Fin 16) (z : Nat) (m : MasterId) (off : Nat) (l : List (List Lane)) : ((s.writeBeats w i z m off l).1).port = s.port := by
  induction l generalizing s off with
  | nil => rfl
  | cons b l ih => unfold State.writeBeats; dsimp only; rw [ih]; split <;> simp
@[simp] theorem State.writeBeats_grid (s : State) (w : Fin 32) (i : Fin 16) (z : Nat) (m : MasterId) (off : Nat) (l : List (List Lane)) : ((s.writeBeats w i z m off l).1).grid = s.grid := by
  induction l generalizing s off with
  | nil => rfl
  | cons b l ih => unfold State.writeBeats; dsimp only; rw [ih]; split <;> simp
@[simp] theorem State.writeBeats_reefer (s : State) (w : Fin 32) (i : Fin 16) (z : Nat) (m : MasterId) (off : Nat) (l : List (List Lane)) : ((s.writeBeats w i z m off l).1).reefer = s.reefer := by
  induction l generalizing s off with
  | nil => rfl
  | cons b l ih => unfold State.writeBeats; dsimp only; rw [ih]; split <;> simp
@[simp] theorem State.writeBeats_cmd (s : State) (w : Fin 32) (i : Fin 16) (z : Nat) (m : MasterId) (off : Nat) (l : List (List Lane)) : ((s.writeBeats w i z m off l).1).cmd = s.cmd := by
  induction l generalizing s off with
  | nil => rfl
  | cons b l ih => unfold State.writeBeats; dsimp only; rw [ih]; split <;> simp
@[simp] theorem State.writeBeats_mirror (s : State) (w : Fin 32) (i : Fin 16) (z : Nat) (m : MasterId) (off : Nat) (l : List (List Lane)) : ((s.writeBeats w i z m off l).1).mirror = s.mirror := by
  induction l generalizing s off with
  | nil => rfl
  | cons b l ih => unfold State.writeBeats; dsimp only; rw [ih]; split <;> simp
@[simp] theorem State.writeBeats_restarts (s : State) (w : Fin 32) (i : Fin 16) (z : Nat) (m : MasterId) (off : Nat) (l : List (List Lane)) : ((s.writeBeats w i z m off l).1).restarts = s.restarts := by
  induction l generalizing s off with
  | nil => rfl
  | cons b l ih => unfold State.writeBeats; dsimp only; rw [ih]; split <;> simp
@[simp] theorem State.writeBeats_pending (s : State) (w : Fin 32) (i : Fin 16) (z : Nat) (m : MasterId) (off : Nat) (l : List (List Lane)) : ((s.writeBeats w i z m off l).1).pending = s.pending := by
  induction l generalizing s off with
  | nil => rfl
  | cons b l ih => unfold State.writeBeats; dsimp only; rw [ih]; split <;> simp

@[simp] theorem State.passRead_inReset (s : State) (m : MasterId) (a : Address) (k : Nat) : (s.passRead m a k).inReset = s.inReset := by
  unfold State.passRead; split <;> (try split) <;> simp
@[simp] theorem State.passRead_cpb (s : State) (m : MasterId) (a : Address) (k : Nat) : (s.passRead m a k).cpb = s.cpb := by
  unfold State.passRead; split <;> (try split) <;> simp
@[simp] theorem State.passRead_cpid (s : State) (m : MasterId) (a : Address) (k : Nat) : (s.passRead m a k).cpid = s.cpid := by
  unfold State.passRead; split <;> (try split) <;> simp
@[simp] theorem State.passRead_time (s : State) (m : MasterId) (a : Address) (k : Nat) : (s.passRead m a k).time = s.time := by
  unfold State.passRead; split <;> (try split) <;> simp
@[simp] theorem State.passRead_windows (s : State) (m : MasterId) (a : Address) (k : Nat) : (s.passRead m a k).windows = s.windows := by
  unfold State.passRead; split <;> (try split) <;> simp
@[simp] theorem State.passRead_intake (s : State) (m : MasterId) (a : Address) (k : Nat) : (s.passRead m a k).intake = s.intake := by
  unfold State.passRead; split <;> (try split) <;> simp
@[simp] theorem State.passRead_port (s : State) (m : MasterId) (a : Address) (k : Nat) : (s.passRead m a k).port = s.port := by
  unfold State.passRead; split <;> (try split) <;> simp
@[simp] theorem State.passRead_grid (s : State) (m : MasterId) (a : Address) (k : Nat) : (s.passRead m a k).grid = s.grid := by
  unfold State.passRead; split <;> (try split) <;> simp
@[simp] theorem State.passRead_reefer (s : State) (m : MasterId) (a : Address) (k : Nat) : (s.passRead m a k).reefer = s.reefer := by
  unfold State.passRead; split <;> (try split) <;> simp
@[simp] theorem State.passRead_cmd (s : State) (m : MasterId) (a : Address) (k : Nat) : (s.passRead m a k).cmd = s.cmd := by
  unfold State.passRead; split <;> (try split) <;> simp
@[simp] theorem State.passRead_mirror (s : State) (m : MasterId) (a : Address) (k : Nat) : (s.passRead m a k).mirror = s.mirror := by
  unfold State.passRead; split <;> (try split) <;> simp
@[simp] theorem State.passRead_restarts (s : State) (m : MasterId) (a : Address) (k : Nat) : (s.passRead m a k).restarts = s.restarts := by
  unfold State.passRead; split <;> (try split) <;> simp
@[simp] theorem State.passRead_pending (s : State) (m : MasterId) (a : Address) (k : Nat) : (s.passRead m a k).pending = s.pending := by
  unfold State.passRead; split <;> (try split) <;> simp

@[simp] theorem State.windowWrite_inReset (s : State) (i : Fin 32) (m : MasterId) (a : Address) (l : List Lane) : (s.windowWrite i m a l).inReset = s.inReset := by
  unfold State.windowWrite; dsimp only; split <;> (try split) <;> (try split) <;> simp
@[simp] theorem State.windowWrite_cpb (s : State) (i : Fin 32) (m : MasterId) (a : Address) (l : List Lane) : (s.windowWrite i m a l).cpb = s.cpb := by
  unfold State.windowWrite; dsimp only; split <;> (try split) <;> (try split) <;> simp
@[simp] theorem State.windowWrite_cpid (s : State) (i : Fin 32) (m : MasterId) (a : Address) (l : List Lane) : (s.windowWrite i m a l).cpid = s.cpid := by
  unfold State.windowWrite; dsimp only; split <;> (try split) <;> (try split) <;> simp
@[simp] theorem State.windowWrite_time (s : State) (i : Fin 32) (m : MasterId) (a : Address) (l : List Lane) : (s.windowWrite i m a l).time = s.time := by
  unfold State.windowWrite; dsimp only; split <;> (try split) <;> (try split) <;> simp
@[simp] theorem State.windowWrite_grid (s : State) (i : Fin 32) (m : MasterId) (a : Address) (l : List Lane) : (s.windowWrite i m a l).grid = s.grid := by
  unfold State.windowWrite; dsimp only; split <;> (try split) <;> (try split) <;> simp
@[simp] theorem State.windowWrite_reefer (s : State) (i : Fin 32) (m : MasterId) (a : Address) (l : List Lane) : (s.windowWrite i m a l).reefer = s.reefer := by
  unfold State.windowWrite; dsimp only; split <;> (try split) <;> (try split) <;> simp
@[simp] theorem State.windowWrite_cmd (s : State) (i : Fin 32) (m : MasterId) (a : Address) (l : List Lane) : (s.windowWrite i m a l).cmd = s.cmd := by
  unfold State.windowWrite; dsimp only; split <;> (try split) <;> (try split) <;> simp
@[simp] theorem State.windowWrite_mirror (s : State) (i : Fin 32) (m : MasterId) (a : Address) (l : List Lane) : (s.windowWrite i m a l).mirror = s.mirror := by
  unfold State.windowWrite; dsimp only; split <;> (try split) <;> (try split) <;> simp
@[simp] theorem State.windowWrite_restarts (s : State) (i : Fin 32) (m : MasterId) (a : Address) (l : List Lane) : (s.windowWrite i m a l).restarts = s.restarts := by
  unfold State.windowWrite; dsimp only; split <;> (try split) <;> (try split) <;> simp
@[simp] theorem State.windowWrite_pending (s : State) (i : Fin 32) (m : MasterId) (a : Address) (l : List Lane) : (s.windowWrite i m a l).pending = s.pending := by
  unfold State.windowWrite; dsimp only; split <;> (try split) <;> (try split) <;> simp

@[simp] theorem State.pageWrite_inReset (s : State) (off : Nat) (m : MasterId) (a : Address) (l : List Lane) : (s.pageWrite off m a l).inReset = s.inReset := by
  unfold State.pageWrite; split <;> simp
@[simp] theorem State.pageWrite_cpb (s : State) (off : Nat) (m : MasterId) (a : Address) (l : List Lane) : (s.pageWrite off m a l).cpb = s.cpb := by
  unfold State.pageWrite; split <;> simp
@[simp] theorem State.pageWrite_cpid (s : State) (off : Nat) (m : MasterId) (a : Address) (l : List Lane) : (s.pageWrite off m a l).cpid = s.cpid := by
  unfold State.pageWrite; split <;> simp
@[simp] theorem State.pageWrite_time (s : State) (off : Nat) (m : MasterId) (a : Address) (l : List Lane) : (s.pageWrite off m a l).time = s.time := by
  unfold State.pageWrite; split <;> simp
@[simp] theorem State.pageWrite_windows (s : State) (off : Nat) (m : MasterId) (a : Address) (l : List Lane) : (s.pageWrite off m a l).windows = s.windows := by
  unfold State.pageWrite; split <;> simp
@[simp] theorem State.pageWrite_intake (s : State) (off : Nat) (m : MasterId) (a : Address) (l : List Lane) : (s.pageWrite off m a l).intake = s.intake := by
  unfold State.pageWrite; split <;> simp
@[simp] theorem State.pageWrite_cranes (s : State) (off : Nat) (m : MasterId) (a : Address) (l : List Lane) : (s.pageWrite off m a l).cranes = s.cranes := by
  unfold State.pageWrite; split <;> simp
@[simp] theorem State.pageWrite_grid (s : State) (off : Nat) (m : MasterId) (a : Address) (l : List Lane) : (s.pageWrite off m a l).grid = s.grid := by
  unfold State.pageWrite; split <;> simp
@[simp] theorem State.pageWrite_reefer (s : State) (off : Nat) (m : MasterId) (a : Address) (l : List Lane) : (s.pageWrite off m a l).reefer = s.reefer := by
  unfold State.pageWrite; split <;> simp
@[simp] theorem State.pageWrite_mirror (s : State) (off : Nat) (m : MasterId) (a : Address) (l : List Lane) : (s.pageWrite off m a l).mirror = s.mirror := by
  unfold State.pageWrite; split <;> simp
@[simp] theorem State.pageWrite_restarts (s : State) (off : Nat) (m : MasterId) (a : Address) (l : List Lane) : (s.pageWrite off m a l).restarts = s.restarts := by
  unfold State.pageWrite; split <;> simp
@[simp] theorem State.pageWrite_pending (s : State) (off : Nat) (m : MasterId) (a : Address) (l : List Lane) : (s.pageWrite off m a l).pending = s.pending := by
  unfold State.pageWrite; split <;> simp

@[simp] theorem State.passWrite_inReset (s : State) (m : MasterId) (a : Address) (l : List Lane) : (s.passWrite m a l).inReset = s.inReset := by
  unfold State.passWrite; split <;> (try split) <;> simp
@[simp] theorem State.passWrite_cpb (s : State) (m : MasterId) (a : Address) (l : List Lane) : (s.passWrite m a l).cpb = s.cpb := by
  unfold State.passWrite; split <;> (try split) <;> simp
@[simp] theorem State.passWrite_cpid (s : State) (m : MasterId) (a : Address) (l : List Lane) : (s.passWrite m a l).cpid = s.cpid := by
  unfold State.passWrite; split <;> (try split) <;> simp
@[simp] theorem State.passWrite_time (s : State) (m : MasterId) (a : Address) (l : List Lane) : (s.passWrite m a l).time = s.time := by
  unfold State.passWrite; split <;> (try split) <;> simp
@[simp] theorem State.passWrite_grid (s : State) (m : MasterId) (a : Address) (l : List Lane) : (s.passWrite m a l).grid = s.grid := by
  unfold State.passWrite; split <;> (try split) <;> simp
@[simp] theorem State.passWrite_reefer (s : State) (m : MasterId) (a : Address) (l : List Lane) : (s.passWrite m a l).reefer = s.reefer := by
  unfold State.passWrite; split <;> (try split) <;> simp
@[simp] theorem State.passWrite_mirror (s : State) (m : MasterId) (a : Address) (l : List Lane) : (s.passWrite m a l).mirror = s.mirror := by
  unfold State.passWrite; split <;> (try split) <;> simp
@[simp] theorem State.passWrite_restarts (s : State) (m : MasterId) (a : Address) (l : List Lane) : (s.passWrite m a l).restarts = s.restarts := by
  unfold State.passWrite; split <;> (try split) <;> simp
@[simp] theorem State.passWrite_pending (s : State) (m : MasterId) (a : Address) (l : List Lane) : (s.passWrite m a l).pending = s.pending := by
  unfold State.passWrite; split <;> (try split) <;> simp

@[simp] theorem State.takeTransfer_inReset (s : State) (x : Transfer) : (s.takeTransfer x).inReset = s.inReset := by
  unfold State.takeTransfer; split <;> simp
@[simp] theorem State.takeTransfer_cpb (s : State) (x : Transfer) : (s.takeTransfer x).cpb = s.cpb := by
  unfold State.takeTransfer; split <;> simp
@[simp] theorem State.takeTransfer_cpid (s : State) (x : Transfer) : (s.takeTransfer x).cpid = s.cpid := by
  unfold State.takeTransfer; split <;> simp
@[simp] theorem State.takeTransfer_time (s : State) (x : Transfer) : (s.takeTransfer x).time = s.time := by
  unfold State.takeTransfer; split <;> simp
@[simp] theorem State.takeTransfer_grid (s : State) (x : Transfer) : (s.takeTransfer x).grid = s.grid := by
  unfold State.takeTransfer; split <;> simp
@[simp] theorem State.takeTransfer_reefer (s : State) (x : Transfer) : (s.takeTransfer x).reefer = s.reefer := by
  unfold State.takeTransfer; split <;> simp
@[simp] theorem State.takeTransfer_mirror (s : State) (x : Transfer) : (s.takeTransfer x).mirror = s.mirror := by
  unfold State.takeTransfer; split <;> simp
@[simp] theorem State.takeTransfer_restarts (s : State) (x : Transfer) : (s.takeTransfer x).restarts = s.restarts := by
  unfold State.takeTransfer; split <;> simp
@[simp] theorem State.takeTransfer_pending (s : State) (x : Transfer) : (s.takeTransfer x).pending = s.pending := by
  unfold State.takeTransfer; split <;> simp

/-! ## Time Base -/

@[simp] theorem State.violation_inReset (s : State) (v : Violation) (n : Nat) (c : Option Capture) : (s.violation v n c).inReset = s.inReset := by simp [State.violation]
@[simp] theorem State.violation_cpb (s : State) (v : Violation) (n : Nat) (c : Option Capture) : (s.violation v n c).cpb = s.cpb := by simp [State.violation]
@[simp] theorem State.violation_cpid (s : State) (v : Violation) (n : Nat) (c : Option Capture) : (s.violation v n c).cpid = s.cpid := by simp [State.violation]
@[simp] theorem State.violation_time (s : State) (v : Violation) (n : Nat) (c : Option Capture) : (s.violation v n c).time = s.time := by simp [State.violation]
@[simp] theorem State.violation_windows (s : State) (v : Violation) (n : Nat) (c : Option Capture) : (s.violation v n c).windows = s.windows := by simp [State.violation]
@[simp] theorem State.violation_intake (s : State) (v : Violation) (n : Nat) (c : Option Capture) : (s.violation v n c).intake = s.intake := by simp [State.violation]
@[simp] theorem State.violation_arb (s : State) (v : Violation) (n : Nat) (c : Option Capture) : (s.violation v n c).arb = s.arb := by simp [State.violation]
@[simp] theorem State.violation_port (s : State) (v : Violation) (n : Nat) (c : Option Capture) : (s.violation v n c).port = s.port := by simp [State.violation]
@[simp] theorem State.violation_cranes (s : State) (v : Violation) (n : Nat) (c : Option Capture) : (s.violation v n c).cranes = s.cranes := by simp [State.violation]
@[simp] theorem State.violation_grid (s : State) (v : Violation) (n : Nat) (c : Option Capture) : (s.violation v n c).grid = s.grid := by simp [State.violation]
@[simp] theorem State.violation_reefer (s : State) (v : Violation) (n : Nat) (c : Option Capture) : (s.violation v n c).reefer = s.reefer := by simp [State.violation]
@[simp] theorem State.violation_cmd (s : State) (v : Violation) (n : Nat) (c : Option Capture) : (s.violation v n c).cmd = s.cmd := by simp [State.violation]
@[simp] theorem State.violation_mirror (s : State) (v : Violation) (n : Nat) (c : Option Capture) : (s.violation v n c).mirror = s.mirror := by simp [State.violation]
@[simp] theorem State.violation_restarts (s : State) (v : Violation) (n : Nat) (c : Option Capture) : (s.violation v n c).restarts = s.restarts := by simp [State.violation]
@[simp] theorem State.violation_pending (s : State) (v : Violation) (n : Nat) (c : Option Capture) : (s.violation v n c).pending = s.pending := by simp [State.violation]

@[simp] theorem State.correctionNotice_inReset (s : State) (t : TimeBase) (m : TimeMessage) (n : Nat) : (s.correctionNotice t m n).inReset = s.inReset := by
  unfold State.correctionNotice; dsimp only; split <;> (try split) <;> (try split) <;> simp
@[simp] theorem State.correctionNotice_cpb (s : State) (t : TimeBase) (m : TimeMessage) (n : Nat) : (s.correctionNotice t m n).cpb = s.cpb := by
  unfold State.correctionNotice; dsimp only; split <;> (try split) <;> (try split) <;> simp
@[simp] theorem State.correctionNotice_cpid (s : State) (t : TimeBase) (m : TimeMessage) (n : Nat) : (s.correctionNotice t m n).cpid = s.cpid := by
  unfold State.correctionNotice; dsimp only; split <;> (try split) <;> (try split) <;> simp
@[simp] theorem State.correctionNotice_time (s : State) (t : TimeBase) (m : TimeMessage) (n : Nat) : (s.correctionNotice t m n).time = s.time := by
  unfold State.correctionNotice; dsimp only; split <;> (try split) <;> (try split) <;> simp
@[simp] theorem State.correctionNotice_windows (s : State) (t : TimeBase) (m : TimeMessage) (n : Nat) : (s.correctionNotice t m n).windows = s.windows := by
  unfold State.correctionNotice; dsimp only; split <;> (try split) <;> (try split) <;> simp
@[simp] theorem State.correctionNotice_intake (s : State) (t : TimeBase) (m : TimeMessage) (n : Nat) : (s.correctionNotice t m n).intake = s.intake := by
  unfold State.correctionNotice; dsimp only; split <;> (try split) <;> (try split) <;> simp
@[simp] theorem State.correctionNotice_arb (s : State) (t : TimeBase) (m : TimeMessage) (n : Nat) : (s.correctionNotice t m n).arb = s.arb := by
  unfold State.correctionNotice; dsimp only; split <;> (try split) <;> (try split) <;> simp
@[simp] theorem State.correctionNotice_port (s : State) (t : TimeBase) (m : TimeMessage) (n : Nat) : (s.correctionNotice t m n).port = s.port := by
  unfold State.correctionNotice; dsimp only; split <;> (try split) <;> (try split) <;> simp
@[simp] theorem State.correctionNotice_cranes (s : State) (t : TimeBase) (m : TimeMessage) (n : Nat) : (s.correctionNotice t m n).cranes = s.cranes := by
  unfold State.correctionNotice; dsimp only; split <;> (try split) <;> (try split) <;> simp
@[simp] theorem State.correctionNotice_grid (s : State) (t : TimeBase) (m : TimeMessage) (n : Nat) : (s.correctionNotice t m n).grid = s.grid := by
  unfold State.correctionNotice; dsimp only; split <;> (try split) <;> (try split) <;> simp
@[simp] theorem State.correctionNotice_reefer (s : State) (t : TimeBase) (m : TimeMessage) (n : Nat) : (s.correctionNotice t m n).reefer = s.reefer := by
  unfold State.correctionNotice; dsimp only; split <;> (try split) <;> (try split) <;> simp
@[simp] theorem State.correctionNotice_cmd (s : State) (t : TimeBase) (m : TimeMessage) (n : Nat) : (s.correctionNotice t m n).cmd = s.cmd := by
  unfold State.correctionNotice; dsimp only; split <;> (try split) <;> (try split) <;> simp
@[simp] theorem State.correctionNotice_mirror (s : State) (t : TimeBase) (m : TimeMessage) (n : Nat) : (s.correctionNotice t m n).mirror = s.mirror := by
  unfold State.correctionNotice; dsimp only; split <;> (try split) <;> (try split) <;> simp
@[simp] theorem State.correctionNotice_restarts (s : State) (t : TimeBase) (m : TimeMessage) (n : Nat) : (s.correctionNotice t m n).restarts = s.restarts := by
  unfold State.correctionNotice; dsimp only; split <;> (try split) <;> (try split) <;> simp
@[simp] theorem State.correctionNotice_pending (s : State) (t : TimeBase) (m : TimeMessage) (n : Nat) : (s.correctionNotice t m n).pending = s.pending := by
  unfold State.correctionNotice; dsimp only; split <;> (try split) <;> (try split) <;> simp

@[simp] theorem State.markMessage_inReset (s : State) (m : TimeMessage) (n : Nat) : (s.markMessage m n).inReset = s.inReset := by unfold State.markMessage; dsimp only; split <;> simp
@[simp] theorem State.markMessage_cpb (s : State) (m : TimeMessage) (n : Nat) : (s.markMessage m n).cpb = s.cpb := by unfold State.markMessage; dsimp only; split <;> simp
@[simp] theorem State.markMessage_cpid (s : State) (m : TimeMessage) (n : Nat) : (s.markMessage m n).cpid = s.cpid := by unfold State.markMessage; dsimp only; split <;> simp
@[simp] theorem State.markMessage_windows (s : State) (m : TimeMessage) (n : Nat) : (s.markMessage m n).windows = s.windows := by unfold State.markMessage; dsimp only; split <;> simp
@[simp] theorem State.markMessage_intake (s : State) (m : TimeMessage) (n : Nat) : (s.markMessage m n).intake = s.intake := by unfold State.markMessage; dsimp only; split <;> simp
@[simp] theorem State.markMessage_arb (s : State) (m : TimeMessage) (n : Nat) : (s.markMessage m n).arb = s.arb := by unfold State.markMessage; dsimp only; split <;> simp
@[simp] theorem State.markMessage_port (s : State) (m : TimeMessage) (n : Nat) : (s.markMessage m n).port = s.port := by unfold State.markMessage; dsimp only; split <;> simp
@[simp] theorem State.markMessage_cranes (s : State) (m : TimeMessage) (n : Nat) : (s.markMessage m n).cranes = s.cranes := by unfold State.markMessage; dsimp only; split <;> simp
@[simp] theorem State.markMessage_grid (s : State) (m : TimeMessage) (n : Nat) : (s.markMessage m n).grid = s.grid := by unfold State.markMessage; dsimp only; split <;> simp
@[simp] theorem State.markMessage_reefer (s : State) (m : TimeMessage) (n : Nat) : (s.markMessage m n).reefer = s.reefer := by unfold State.markMessage; dsimp only; split <;> simp
@[simp] theorem State.markMessage_cmd (s : State) (m : TimeMessage) (n : Nat) : (s.markMessage m n).cmd = s.cmd := by unfold State.markMessage; dsimp only; split <;> simp
@[simp] theorem State.markMessage_mirror (s : State) (m : TimeMessage) (n : Nat) : (s.markMessage m n).mirror = s.mirror := by unfold State.markMessage; dsimp only; split <;> simp
@[simp] theorem State.markMessage_restarts (s : State) (m : TimeMessage) (n : Nat) : (s.markMessage m n).restarts = s.restarts := by unfold State.markMessage; dsimp only; split <;> simp
@[simp] theorem State.markMessage_pending (s : State) (m : TimeMessage) (n : Nat) : (s.markMessage m n).pending = s.pending := by unfold State.markMessage; dsimp only; split <;> simp

@[simp] theorem State.acceptValue_inReset (s : State) (m : TimeMessage) (l n : Nat) : (s.acceptValue m l n).inReset = s.inReset := by unfold State.acceptValue; dsimp only; split <;> simp
@[simp] theorem State.acceptValue_cpb (s : State) (m : TimeMessage) (l n : Nat) : (s.acceptValue m l n).cpb = s.cpb := by unfold State.acceptValue; dsimp only; split <;> simp
@[simp] theorem State.acceptValue_cpid (s : State) (m : TimeMessage) (l n : Nat) : (s.acceptValue m l n).cpid = s.cpid := by unfold State.acceptValue; dsimp only; split <;> simp
@[simp] theorem State.acceptValue_windows (s : State) (m : TimeMessage) (l n : Nat) : (s.acceptValue m l n).windows = s.windows := by unfold State.acceptValue; dsimp only; split <;> simp
@[simp] theorem State.acceptValue_intake (s : State) (m : TimeMessage) (l n : Nat) : (s.acceptValue m l n).intake = s.intake := by unfold State.acceptValue; dsimp only; split <;> simp
@[simp] theorem State.acceptValue_arb (s : State) (m : TimeMessage) (l n : Nat) : (s.acceptValue m l n).arb = s.arb := by unfold State.acceptValue; dsimp only; split <;> simp
@[simp] theorem State.acceptValue_port (s : State) (m : TimeMessage) (l n : Nat) : (s.acceptValue m l n).port = s.port := by unfold State.acceptValue; dsimp only; split <;> simp
@[simp] theorem State.acceptValue_cranes (s : State) (m : TimeMessage) (l n : Nat) : (s.acceptValue m l n).cranes = s.cranes := by unfold State.acceptValue; dsimp only; split <;> simp
@[simp] theorem State.acceptValue_grid (s : State) (m : TimeMessage) (l n : Nat) : (s.acceptValue m l n).grid = s.grid := by unfold State.acceptValue; dsimp only; split <;> simp
@[simp] theorem State.acceptValue_reefer (s : State) (m : TimeMessage) (l n : Nat) : (s.acceptValue m l n).reefer = s.reefer := by unfold State.acceptValue; dsimp only; split <;> simp
@[simp] theorem State.acceptValue_cmd (s : State) (m : TimeMessage) (l n : Nat) : (s.acceptValue m l n).cmd = s.cmd := by unfold State.acceptValue; dsimp only; split <;> simp
@[simp] theorem State.acceptValue_mirror (s : State) (m : TimeMessage) (l n : Nat) : (s.acceptValue m l n).mirror = s.mirror := by unfold State.acceptValue; dsimp only; split <;> simp
@[simp] theorem State.acceptValue_restarts (s : State) (m : TimeMessage) (l n : Nat) : (s.acceptValue m l n).restarts = s.restarts := by unfold State.acceptValue; dsimp only; split <;> simp
@[simp] theorem State.acceptValue_pending (s : State) (m : TimeMessage) (l n : Nat) : (s.acceptValue m l n).pending = s.pending := by unfold State.acceptValue; dsimp only; split <;> simp

@[simp] theorem State.acceptValue_time (s : State) (m : TimeMessage) (l n : Nat) :
    (s.acceptValue m l n).time = s.time.accepted m l n := by unfold State.acceptValue; dsimp only; split <;> simp

@[simp] theorem State.valueMessage_inReset (s : State) (m : TimeMessage) (n : Nat) : (s.valueMessage m n).inReset = s.inReset := by unfold State.valueMessage; split <;> simp
@[simp] theorem State.valueMessage_cpb (s : State) (m : TimeMessage) (n : Nat) : (s.valueMessage m n).cpb = s.cpb := by unfold State.valueMessage; split <;> simp
@[simp] theorem State.valueMessage_cpid (s : State) (m : TimeMessage) (n : Nat) : (s.valueMessage m n).cpid = s.cpid := by unfold State.valueMessage; split <;> simp
@[simp] theorem State.valueMessage_windows (s : State) (m : TimeMessage) (n : Nat) : (s.valueMessage m n).windows = s.windows := by unfold State.valueMessage; split <;> simp
@[simp] theorem State.valueMessage_intake (s : State) (m : TimeMessage) (n : Nat) : (s.valueMessage m n).intake = s.intake := by unfold State.valueMessage; split <;> simp
@[simp] theorem State.valueMessage_arb (s : State) (m : TimeMessage) (n : Nat) : (s.valueMessage m n).arb = s.arb := by unfold State.valueMessage; split <;> simp
@[simp] theorem State.valueMessage_port (s : State) (m : TimeMessage) (n : Nat) : (s.valueMessage m n).port = s.port := by unfold State.valueMessage; split <;> simp
@[simp] theorem State.valueMessage_cranes (s : State) (m : TimeMessage) (n : Nat) : (s.valueMessage m n).cranes = s.cranes := by unfold State.valueMessage; split <;> simp
@[simp] theorem State.valueMessage_grid (s : State) (m : TimeMessage) (n : Nat) : (s.valueMessage m n).grid = s.grid := by unfold State.valueMessage; split <;> simp
@[simp] theorem State.valueMessage_reefer (s : State) (m : TimeMessage) (n : Nat) : (s.valueMessage m n).reefer = s.reefer := by unfold State.valueMessage; split <;> simp
@[simp] theorem State.valueMessage_cmd (s : State) (m : TimeMessage) (n : Nat) : (s.valueMessage m n).cmd = s.cmd := by unfold State.valueMessage; split <;> simp
@[simp] theorem State.valueMessage_mirror (s : State) (m : TimeMessage) (n : Nat) : (s.valueMessage m n).mirror = s.mirror := by unfold State.valueMessage; split <;> simp
@[simp] theorem State.valueMessage_restarts (s : State) (m : TimeMessage) (n : Nat) : (s.valueMessage m n).restarts = s.restarts := by unfold State.valueMessage; split <;> simp
@[simp] theorem State.valueMessage_pending (s : State) (m : TimeMessage) (n : Nat) : (s.valueMessage m n).pending = s.pending := by unfold State.valueMessage; split <;> simp

@[simp] theorem State.timeRecord_inReset (s : State) (l : List Byte) (n : Nat) : (s.timeRecord l n).inReset = s.inReset := by
  unfold State.timeRecord; dsimp only; split <;> (try split) <;> (try split) <;> simp
@[simp] theorem State.timeRecord_cpb (s : State) (l : List Byte) (n : Nat) : (s.timeRecord l n).cpb = s.cpb := by
  unfold State.timeRecord; dsimp only; split <;> (try split) <;> (try split) <;> simp
@[simp] theorem State.timeRecord_cpid (s : State) (l : List Byte) (n : Nat) : (s.timeRecord l n).cpid = s.cpid := by
  unfold State.timeRecord; dsimp only; split <;> (try split) <;> (try split) <;> simp
@[simp] theorem State.timeRecord_windows (s : State) (l : List Byte) (n : Nat) : (s.timeRecord l n).windows = s.windows := by
  unfold State.timeRecord; dsimp only; split <;> (try split) <;> (try split) <;> simp
@[simp] theorem State.timeRecord_intake (s : State) (l : List Byte) (n : Nat) : (s.timeRecord l n).intake = s.intake := by
  unfold State.timeRecord; dsimp only; split <;> (try split) <;> (try split) <;> simp
@[simp] theorem State.timeRecord_arb (s : State) (l : List Byte) (n : Nat) : (s.timeRecord l n).arb = s.arb := by
  unfold State.timeRecord; dsimp only; split <;> (try split) <;> (try split) <;> simp
@[simp] theorem State.timeRecord_port (s : State) (l : List Byte) (n : Nat) : (s.timeRecord l n).port = s.port := by
  unfold State.timeRecord; dsimp only; split <;> (try split) <;> (try split) <;> simp
@[simp] theorem State.timeRecord_cranes (s : State) (l : List Byte) (n : Nat) : (s.timeRecord l n).cranes = s.cranes := by
  unfold State.timeRecord; dsimp only; split <;> (try split) <;> (try split) <;> simp
@[simp] theorem State.timeRecord_grid (s : State) (l : List Byte) (n : Nat) : (s.timeRecord l n).grid = s.grid := by
  unfold State.timeRecord; dsimp only; split <;> (try split) <;> (try split) <;> simp
@[simp] theorem State.timeRecord_reefer (s : State) (l : List Byte) (n : Nat) : (s.timeRecord l n).reefer = s.reefer := by
  unfold State.timeRecord; dsimp only; split <;> (try split) <;> (try split) <;> simp
@[simp] theorem State.timeRecord_cmd (s : State) (l : List Byte) (n : Nat) : (s.timeRecord l n).cmd = s.cmd := by
  unfold State.timeRecord; dsimp only; split <;> (try split) <;> (try split) <;> simp
@[simp] theorem State.timeRecord_mirror (s : State) (l : List Byte) (n : Nat) : (s.timeRecord l n).mirror = s.mirror := by
  unfold State.timeRecord; dsimp only; split <;> (try split) <;> (try split) <;> simp
@[simp] theorem State.timeRecord_restarts (s : State) (l : List Byte) (n : Nat) : (s.timeRecord l n).restarts = s.restarts := by
  unfold State.timeRecord; dsimp only; split <;> (try split) <;> (try split) <;> simp
@[simp] theorem State.timeRecord_pending (s : State) (l : List Byte) (n : Nat) : (s.timeRecord l n).pending = s.pending := by
  unfold State.timeRecord; dsimp only; split <;> (try split) <;> (try split) <;> simp

/-! ## Reefer Table -/

@[simp] theorem State.writeReeferMirror_inReset (s : State) (n : Fin 4096) : (s.writeReeferMirror n).inReset = s.inReset := by simp [State.writeReeferMirror]
@[simp] theorem State.writeReeferMirror_cpb (s : State) (n : Fin 4096) : (s.writeReeferMirror n).cpb = s.cpb := by simp [State.writeReeferMirror]
@[simp] theorem State.writeReeferMirror_cpid (s : State) (n : Fin 4096) : (s.writeReeferMirror n).cpid = s.cpid := by simp [State.writeReeferMirror]
@[simp] theorem State.writeReeferMirror_time (s : State) (n : Fin 4096) : (s.writeReeferMirror n).time = s.time := by simp [State.writeReeferMirror]
@[simp] theorem State.writeReeferMirror_windows (s : State) (n : Fin 4096) : (s.writeReeferMirror n).windows = s.windows := by simp [State.writeReeferMirror]
@[simp] theorem State.writeReeferMirror_intake (s : State) (n : Fin 4096) : (s.writeReeferMirror n).intake = s.intake := by simp [State.writeReeferMirror]
@[simp] theorem State.writeReeferMirror_port (s : State) (n : Fin 4096) : (s.writeReeferMirror n).port = s.port := by simp [State.writeReeferMirror]
@[simp] theorem State.writeReeferMirror_cranes (s : State) (n : Fin 4096) : (s.writeReeferMirror n).cranes = s.cranes := by simp [State.writeReeferMirror]
@[simp] theorem State.writeReeferMirror_grid (s : State) (n : Fin 4096) : (s.writeReeferMirror n).grid = s.grid := by simp [State.writeReeferMirror]
@[simp] theorem State.writeReeferMirror_reefer (s : State) (n : Fin 4096) : (s.writeReeferMirror n).reefer = s.reefer := by simp [State.writeReeferMirror]
@[simp] theorem State.writeReeferMirror_notice (s : State) (n : Fin 4096) : (s.writeReeferMirror n).notice = s.notice := by simp [State.writeReeferMirror]
@[simp] theorem State.writeReeferMirror_cmd (s : State) (n : Fin 4096) : (s.writeReeferMirror n).cmd = s.cmd := by simp [State.writeReeferMirror]
@[simp] theorem State.writeReeferMirror_mirror (s : State) (n : Fin 4096) : (s.writeReeferMirror n).mirror = s.mirror := by simp [State.writeReeferMirror]
@[simp] theorem State.writeReeferMirror_scratch (s : State) (n : Fin 4096) : (s.writeReeferMirror n).scratch = s.scratch := by simp [State.writeReeferMirror]
@[simp] theorem State.writeReeferMirror_restarts (s : State) (n : Fin 4096) : (s.writeReeferMirror n).restarts = s.restarts := by simp [State.writeReeferMirror]
@[simp] theorem State.writeReeferMirror_pending (s : State) (n : Fin 4096) : (s.writeReeferMirror n).pending = s.pending := by simp [State.writeReeferMirror]

@[simp] theorem State.enrolAt_inReset (s : State) (n : Fin 4096) (v : Bool) (g : Nat) (c : Fin 16) (q : Option (Fin 512)) (h : Nat) : (s.enrolAt n v g c q h).inReset = s.inReset := by unfold State.enrolAt State.noticeEviction; split <;> simp
@[simp] theorem State.enrolAt_cpb (s : State) (n : Fin 4096) (v : Bool) (g : Nat) (c : Fin 16) (q : Option (Fin 512)) (h : Nat) : (s.enrolAt n v g c q h).cpb = s.cpb := by unfold State.enrolAt State.noticeEviction; split <;> simp
@[simp] theorem State.enrolAt_cpid (s : State) (n : Fin 4096) (v : Bool) (g : Nat) (c : Fin 16) (q : Option (Fin 512)) (h : Nat) : (s.enrolAt n v g c q h).cpid = s.cpid := by unfold State.enrolAt State.noticeEviction; split <;> simp
@[simp] theorem State.enrolAt_time (s : State) (n : Fin 4096) (v : Bool) (g : Nat) (c : Fin 16) (q : Option (Fin 512)) (h : Nat) : (s.enrolAt n v g c q h).time = s.time := by unfold State.enrolAt State.noticeEviction; split <;> simp
@[simp] theorem State.enrolAt_windows (s : State) (n : Fin 4096) (v : Bool) (g : Nat) (c : Fin 16) (q : Option (Fin 512)) (h : Nat) : (s.enrolAt n v g c q h).windows = s.windows := by unfold State.enrolAt State.noticeEviction; split <;> simp
@[simp] theorem State.enrolAt_intake (s : State) (n : Fin 4096) (v : Bool) (g : Nat) (c : Fin 16) (q : Option (Fin 512)) (h : Nat) : (s.enrolAt n v g c q h).intake = s.intake := by unfold State.enrolAt State.noticeEviction; split <;> simp
@[simp] theorem State.enrolAt_arb (s : State) (n : Fin 4096) (v : Bool) (g : Nat) (c : Fin 16) (q : Option (Fin 512)) (h : Nat) : (s.enrolAt n v g c q h).arb = s.arb := by unfold State.enrolAt State.noticeEviction; split <;> simp
@[simp] theorem State.enrolAt_port (s : State) (n : Fin 4096) (v : Bool) (g : Nat) (c : Fin 16) (q : Option (Fin 512)) (h : Nat) : (s.enrolAt n v g c q h).port = s.port := by unfold State.enrolAt State.noticeEviction; split <;> simp
@[simp] theorem State.enrolAt_cranes (s : State) (n : Fin 4096) (v : Bool) (g : Nat) (c : Fin 16) (q : Option (Fin 512)) (h : Nat) : (s.enrolAt n v g c q h).cranes = s.cranes := by unfold State.enrolAt State.noticeEviction; split <;> simp
@[simp] theorem State.enrolAt_grid (s : State) (n : Fin 4096) (v : Bool) (g : Nat) (c : Fin 16) (q : Option (Fin 512)) (h : Nat) : (s.enrolAt n v g c q h).grid = s.grid := by unfold State.enrolAt State.noticeEviction; split <;> simp
@[simp] theorem State.enrolAt_cmd (s : State) (n : Fin 4096) (v : Bool) (g : Nat) (c : Fin 16) (q : Option (Fin 512)) (h : Nat) : (s.enrolAt n v g c q h).cmd = s.cmd := by unfold State.enrolAt State.noticeEviction; split <;> simp
@[simp] theorem State.enrolAt_mirror (s : State) (n : Fin 4096) (v : Bool) (g : Nat) (c : Fin 16) (q : Option (Fin 512)) (h : Nat) : (s.enrolAt n v g c q h).mirror = s.mirror := by unfold State.enrolAt State.noticeEviction; split <;> simp
@[simp] theorem State.enrolAt_restarts (s : State) (n : Fin 4096) (v : Bool) (g : Nat) (c : Fin 16) (q : Option (Fin 512)) (h : Nat) : (s.enrolAt n v g c q h).restarts = s.restarts := by unfold State.enrolAt State.noticeEviction; split <;> simp
@[simp] theorem State.enrolAt_pending (s : State) (n : Fin 4096) (v : Bool) (g : Nat) (c : Fin 16) (q : Option (Fin 512)) (h : Nat) : (s.enrolAt n v g c q h).pending = s.pending := by unfold State.enrolAt State.noticeEviction; split <;> simp

@[simp] theorem State.dropReport_inReset (s : State) (g : Nat) : (s.dropReport g).inReset = s.inReset := by unfold State.dropReport; dsimp only; split <;> simp
@[simp] theorem State.dropReport_cpb (s : State) (g : Nat) : (s.dropReport g).cpb = s.cpb := by unfold State.dropReport; dsimp only; split <;> simp
@[simp] theorem State.dropReport_cpid (s : State) (g : Nat) : (s.dropReport g).cpid = s.cpid := by unfold State.dropReport; dsimp only; split <;> simp
@[simp] theorem State.dropReport_time (s : State) (g : Nat) : (s.dropReport g).time = s.time := by unfold State.dropReport; dsimp only; split <;> simp
@[simp] theorem State.dropReport_windows (s : State) (g : Nat) : (s.dropReport g).windows = s.windows := by unfold State.dropReport; dsimp only; split <;> simp
@[simp] theorem State.dropReport_intake (s : State) (g : Nat) : (s.dropReport g).intake = s.intake := by unfold State.dropReport; dsimp only; split <;> simp
@[simp] theorem State.dropReport_arb (s : State) (g : Nat) : (s.dropReport g).arb = s.arb := by unfold State.dropReport; dsimp only; split <;> simp
@[simp] theorem State.dropReport_port (s : State) (g : Nat) : (s.dropReport g).port = s.port := by unfold State.dropReport; dsimp only; split <;> simp
@[simp] theorem State.dropReport_cranes (s : State) (g : Nat) : (s.dropReport g).cranes = s.cranes := by unfold State.dropReport; dsimp only; split <;> simp
@[simp] theorem State.dropReport_grid (s : State) (g : Nat) : (s.dropReport g).grid = s.grid := by unfold State.dropReport; dsimp only; split <;> simp
@[simp] theorem State.dropReport_cmd (s : State) (g : Nat) : (s.dropReport g).cmd = s.cmd := by unfold State.dropReport; dsimp only; split <;> simp
@[simp] theorem State.dropReport_mirror (s : State) (g : Nat) : (s.dropReport g).mirror = s.mirror := by unfold State.dropReport; dsimp only; split <;> simp
@[simp] theorem State.dropReport_restarts (s : State) (g : Nat) : (s.dropReport g).restarts = s.restarts := by unfold State.dropReport; dsimp only; split <;> simp
@[simp] theorem State.dropReport_pending (s : State) (g : Nat) : (s.dropReport g).pending = s.pending := by unfold State.dropReport; dsimp only; split <;> simp

@[simp] theorem State.noticeReturn_inReset (s : State) (n : Fin 4096) (a b : ReeferEntry) (t : Nat) : (s.noticeReturn n a b t).inReset = s.inReset := by unfold State.noticeReturn; split <;> simp
@[simp] theorem State.noticeReturn_cpb (s : State) (n : Fin 4096) (a b : ReeferEntry) (t : Nat) : (s.noticeReturn n a b t).cpb = s.cpb := by unfold State.noticeReturn; split <;> simp
@[simp] theorem State.noticeReturn_cpid (s : State) (n : Fin 4096) (a b : ReeferEntry) (t : Nat) : (s.noticeReturn n a b t).cpid = s.cpid := by unfold State.noticeReturn; split <;> simp
@[simp] theorem State.noticeReturn_time (s : State) (n : Fin 4096) (a b : ReeferEntry) (t : Nat) : (s.noticeReturn n a b t).time = s.time := by unfold State.noticeReturn; split <;> simp
@[simp] theorem State.noticeReturn_windows (s : State) (n : Fin 4096) (a b : ReeferEntry) (t : Nat) : (s.noticeReturn n a b t).windows = s.windows := by unfold State.noticeReturn; split <;> simp
@[simp] theorem State.noticeReturn_intake (s : State) (n : Fin 4096) (a b : ReeferEntry) (t : Nat) : (s.noticeReturn n a b t).intake = s.intake := by unfold State.noticeReturn; split <;> simp
@[simp] theorem State.noticeReturn_arb (s : State) (n : Fin 4096) (a b : ReeferEntry) (t : Nat) : (s.noticeReturn n a b t).arb = s.arb := by unfold State.noticeReturn; split <;> simp
@[simp] theorem State.noticeReturn_port (s : State) (n : Fin 4096) (a b : ReeferEntry) (t : Nat) : (s.noticeReturn n a b t).port = s.port := by unfold State.noticeReturn; split <;> simp
@[simp] theorem State.noticeReturn_cranes (s : State) (n : Fin 4096) (a b : ReeferEntry) (t : Nat) : (s.noticeReturn n a b t).cranes = s.cranes := by unfold State.noticeReturn; split <;> simp
@[simp] theorem State.noticeReturn_grid (s : State) (n : Fin 4096) (a b : ReeferEntry) (t : Nat) : (s.noticeReturn n a b t).grid = s.grid := by unfold State.noticeReturn; split <;> simp
@[simp] theorem State.noticeReturn_reefer (s : State) (n : Fin 4096) (a b : ReeferEntry) (t : Nat) : (s.noticeReturn n a b t).reefer = s.reefer := by unfold State.noticeReturn; split <;> simp
@[simp] theorem State.noticeReturn_cmd (s : State) (n : Fin 4096) (a b : ReeferEntry) (t : Nat) : (s.noticeReturn n a b t).cmd = s.cmd := by unfold State.noticeReturn; split <;> simp
@[simp] theorem State.noticeReturn_mirror (s : State) (n : Fin 4096) (a b : ReeferEntry) (t : Nat) : (s.noticeReturn n a b t).mirror = s.mirror := by unfold State.noticeReturn; split <;> simp
@[simp] theorem State.noticeReturn_restarts (s : State) (n : Fin 4096) (a b : ReeferEntry) (t : Nat) : (s.noticeReturn n a b t).restarts = s.restarts := by unfold State.noticeReturn; split <;> simp
@[simp] theorem State.noticeReturn_pending (s : State) (n : Fin 4096) (a b : ReeferEntry) (t : Nat) : (s.noticeReturn n a b t).pending = s.pending := by unfold State.noticeReturn; split <;> simp

@[simp] theorem State.noticeAlarms_inReset (s : State) (n : Fin 4096) (a b : ReeferEntry) : (s.noticeAlarms n a b).inReset = s.inReset := by unfold State.noticeAlarms; split <;> simp
@[simp] theorem State.noticeAlarms_cpb (s : State) (n : Fin 4096) (a b : ReeferEntry) : (s.noticeAlarms n a b).cpb = s.cpb := by unfold State.noticeAlarms; split <;> simp
@[simp] theorem State.noticeAlarms_cpid (s : State) (n : Fin 4096) (a b : ReeferEntry) : (s.noticeAlarms n a b).cpid = s.cpid := by unfold State.noticeAlarms; split <;> simp
@[simp] theorem State.noticeAlarms_time (s : State) (n : Fin 4096) (a b : ReeferEntry) : (s.noticeAlarms n a b).time = s.time := by unfold State.noticeAlarms; split <;> simp
@[simp] theorem State.noticeAlarms_windows (s : State) (n : Fin 4096) (a b : ReeferEntry) : (s.noticeAlarms n a b).windows = s.windows := by unfold State.noticeAlarms; split <;> simp
@[simp] theorem State.noticeAlarms_intake (s : State) (n : Fin 4096) (a b : ReeferEntry) : (s.noticeAlarms n a b).intake = s.intake := by unfold State.noticeAlarms; split <;> simp
@[simp] theorem State.noticeAlarms_arb (s : State) (n : Fin 4096) (a b : ReeferEntry) : (s.noticeAlarms n a b).arb = s.arb := by unfold State.noticeAlarms; split <;> simp
@[simp] theorem State.noticeAlarms_port (s : State) (n : Fin 4096) (a b : ReeferEntry) : (s.noticeAlarms n a b).port = s.port := by unfold State.noticeAlarms; split <;> simp
@[simp] theorem State.noticeAlarms_cranes (s : State) (n : Fin 4096) (a b : ReeferEntry) : (s.noticeAlarms n a b).cranes = s.cranes := by unfold State.noticeAlarms; split <;> simp
@[simp] theorem State.noticeAlarms_grid (s : State) (n : Fin 4096) (a b : ReeferEntry) : (s.noticeAlarms n a b).grid = s.grid := by unfold State.noticeAlarms; split <;> simp
@[simp] theorem State.noticeAlarms_reefer (s : State) (n : Fin 4096) (a b : ReeferEntry) : (s.noticeAlarms n a b).reefer = s.reefer := by unfold State.noticeAlarms; split <;> simp
@[simp] theorem State.noticeAlarms_cmd (s : State) (n : Fin 4096) (a b : ReeferEntry) : (s.noticeAlarms n a b).cmd = s.cmd := by unfold State.noticeAlarms; split <;> simp
@[simp] theorem State.noticeAlarms_mirror (s : State) (n : Fin 4096) (a b : ReeferEntry) : (s.noticeAlarms n a b).mirror = s.mirror := by unfold State.noticeAlarms; split <;> simp
@[simp] theorem State.noticeAlarms_restarts (s : State) (n : Fin 4096) (a b : ReeferEntry) : (s.noticeAlarms n a b).restarts = s.restarts := by unfold State.noticeAlarms; split <;> simp
@[simp] theorem State.noticeAlarms_pending (s : State) (n : Fin 4096) (a b : ReeferEntry) : (s.noticeAlarms n a b).pending = s.pending := by unfold State.noticeAlarms; split <;> simp

@[simp] theorem State.noticeSetpoint_inReset (s : State) (n : Fin 4096) (a b : ReeferEntry) : (s.noticeSetpoint n a b).inReset = s.inReset := by unfold State.noticeSetpoint; split <;> (try split) <;> simp
@[simp] theorem State.noticeSetpoint_cpb (s : State) (n : Fin 4096) (a b : ReeferEntry) : (s.noticeSetpoint n a b).cpb = s.cpb := by unfold State.noticeSetpoint; split <;> (try split) <;> simp
@[simp] theorem State.noticeSetpoint_cpid (s : State) (n : Fin 4096) (a b : ReeferEntry) : (s.noticeSetpoint n a b).cpid = s.cpid := by unfold State.noticeSetpoint; split <;> (try split) <;> simp
@[simp] theorem State.noticeSetpoint_time (s : State) (n : Fin 4096) (a b : ReeferEntry) : (s.noticeSetpoint n a b).time = s.time := by unfold State.noticeSetpoint; split <;> (try split) <;> simp
@[simp] theorem State.noticeSetpoint_windows (s : State) (n : Fin 4096) (a b : ReeferEntry) : (s.noticeSetpoint n a b).windows = s.windows := by unfold State.noticeSetpoint; split <;> (try split) <;> simp
@[simp] theorem State.noticeSetpoint_intake (s : State) (n : Fin 4096) (a b : ReeferEntry) : (s.noticeSetpoint n a b).intake = s.intake := by unfold State.noticeSetpoint; split <;> (try split) <;> simp
@[simp] theorem State.noticeSetpoint_arb (s : State) (n : Fin 4096) (a b : ReeferEntry) : (s.noticeSetpoint n a b).arb = s.arb := by unfold State.noticeSetpoint; split <;> (try split) <;> simp
@[simp] theorem State.noticeSetpoint_port (s : State) (n : Fin 4096) (a b : ReeferEntry) : (s.noticeSetpoint n a b).port = s.port := by unfold State.noticeSetpoint; split <;> (try split) <;> simp
@[simp] theorem State.noticeSetpoint_cranes (s : State) (n : Fin 4096) (a b : ReeferEntry) : (s.noticeSetpoint n a b).cranes = s.cranes := by unfold State.noticeSetpoint; split <;> (try split) <;> simp
@[simp] theorem State.noticeSetpoint_grid (s : State) (n : Fin 4096) (a b : ReeferEntry) : (s.noticeSetpoint n a b).grid = s.grid := by unfold State.noticeSetpoint; split <;> (try split) <;> simp
@[simp] theorem State.noticeSetpoint_reefer (s : State) (n : Fin 4096) (a b : ReeferEntry) : (s.noticeSetpoint n a b).reefer = s.reefer := by unfold State.noticeSetpoint; split <;> (try split) <;> simp
@[simp] theorem State.noticeSetpoint_cmd (s : State) (n : Fin 4096) (a b : ReeferEntry) : (s.noticeSetpoint n a b).cmd = s.cmd := by unfold State.noticeSetpoint; split <;> (try split) <;> simp
@[simp] theorem State.noticeSetpoint_mirror (s : State) (n : Fin 4096) (a b : ReeferEntry) : (s.noticeSetpoint n a b).mirror = s.mirror := by unfold State.noticeSetpoint; split <;> (try split) <;> simp
@[simp] theorem State.noticeSetpoint_restarts (s : State) (n : Fin 4096) (a b : ReeferEntry) : (s.noticeSetpoint n a b).restarts = s.restarts := by unfold State.noticeSetpoint; split <;> (try split) <;> simp
@[simp] theorem State.noticeSetpoint_pending (s : State) (n : Fin 4096) (a b : ReeferEntry) : (s.noticeSetpoint n a b).pending = s.pending := by unfold State.noticeSetpoint; split <;> (try split) <;> simp

@[simp] theorem State.noticeEnrolment_inReset (s : State) (n : Fin 4096) (g : Nat) (v : Bool) : (s.noticeEnrolment n g v).inReset = s.inReset := by simp [State.noticeEnrolment]
@[simp] theorem State.noticeEnrolment_cpb (s : State) (n : Fin 4096) (g : Nat) (v : Bool) : (s.noticeEnrolment n g v).cpb = s.cpb := by simp [State.noticeEnrolment]
@[simp] theorem State.noticeEnrolment_cpid (s : State) (n : Fin 4096) (g : Nat) (v : Bool) : (s.noticeEnrolment n g v).cpid = s.cpid := by simp [State.noticeEnrolment]
@[simp] theorem State.noticeEnrolment_time (s : State) (n : Fin 4096) (g : Nat) (v : Bool) : (s.noticeEnrolment n g v).time = s.time := by simp [State.noticeEnrolment]
@[simp] theorem State.noticeEnrolment_windows (s : State) (n : Fin 4096) (g : Nat) (v : Bool) : (s.noticeEnrolment n g v).windows = s.windows := by simp [State.noticeEnrolment]
@[simp] theorem State.noticeEnrolment_intake (s : State) (n : Fin 4096) (g : Nat) (v : Bool) : (s.noticeEnrolment n g v).intake = s.intake := by simp [State.noticeEnrolment]
@[simp] theorem State.noticeEnrolment_arb (s : State) (n : Fin 4096) (g : Nat) (v : Bool) : (s.noticeEnrolment n g v).arb = s.arb := by simp [State.noticeEnrolment]
@[simp] theorem State.noticeEnrolment_port (s : State) (n : Fin 4096) (g : Nat) (v : Bool) : (s.noticeEnrolment n g v).port = s.port := by simp [State.noticeEnrolment]
@[simp] theorem State.noticeEnrolment_cranes (s : State) (n : Fin 4096) (g : Nat) (v : Bool) : (s.noticeEnrolment n g v).cranes = s.cranes := by simp [State.noticeEnrolment]
@[simp] theorem State.noticeEnrolment_grid (s : State) (n : Fin 4096) (g : Nat) (v : Bool) : (s.noticeEnrolment n g v).grid = s.grid := by simp [State.noticeEnrolment]
@[simp] theorem State.noticeEnrolment_reefer (s : State) (n : Fin 4096) (g : Nat) (v : Bool) : (s.noticeEnrolment n g v).reefer = s.reefer := by simp [State.noticeEnrolment]
@[simp] theorem State.noticeEnrolment_cmd (s : State) (n : Fin 4096) (g : Nat) (v : Bool) : (s.noticeEnrolment n g v).cmd = s.cmd := by simp [State.noticeEnrolment]
@[simp] theorem State.noticeEnrolment_mirror (s : State) (n : Fin 4096) (g : Nat) (v : Bool) : (s.noticeEnrolment n g v).mirror = s.mirror := by simp [State.noticeEnrolment]
@[simp] theorem State.noticeEnrolment_restarts (s : State) (n : Fin 4096) (g : Nat) (v : Bool) : (s.noticeEnrolment n g v).restarts = s.restarts := by simp [State.noticeEnrolment]
@[simp] theorem State.noticeEnrolment_pending (s : State) (n : Fin 4096) (g : Nat) (v : Bool) : (s.noticeEnrolment n g v).pending = s.pending := by simp [State.noticeEnrolment]

@[simp] theorem State.reeferSample_inReset (s : State) (n : Fin 4096) (e : ReeferEntry) (r : ReeferReport) (t : Nat) : (s.reeferSample n e r t).inReset = s.inReset := by
  unfold State.reeferSample; split <;> (try split) <;> simp
@[simp] theorem State.reeferSample_cpb (s : State) (n : Fin 4096) (e : ReeferEntry) (r : ReeferReport) (t : Nat) : (s.reeferSample n e r t).cpb = s.cpb := by
  unfold State.reeferSample; split <;> (try split) <;> simp
@[simp] theorem State.reeferSample_cpid (s : State) (n : Fin 4096) (e : ReeferEntry) (r : ReeferReport) (t : Nat) : (s.reeferSample n e r t).cpid = s.cpid := by
  unfold State.reeferSample; split <;> (try split) <;> simp
@[simp] theorem State.reeferSample_time (s : State) (n : Fin 4096) (e : ReeferEntry) (r : ReeferReport) (t : Nat) : (s.reeferSample n e r t).time = s.time := by
  unfold State.reeferSample; split <;> (try split) <;> simp
@[simp] theorem State.reeferSample_windows (s : State) (n : Fin 4096) (e : ReeferEntry) (r : ReeferReport) (t : Nat) : (s.reeferSample n e r t).windows = s.windows := by
  unfold State.reeferSample; split <;> (try split) <;> simp
@[simp] theorem State.reeferSample_intake (s : State) (n : Fin 4096) (e : ReeferEntry) (r : ReeferReport) (t : Nat) : (s.reeferSample n e r t).intake = s.intake := by
  unfold State.reeferSample; split <;> (try split) <;> simp
@[simp] theorem State.reeferSample_port (s : State) (n : Fin 4096) (e : ReeferEntry) (r : ReeferReport) (t : Nat) : (s.reeferSample n e r t).port = s.port := by
  unfold State.reeferSample; split <;> (try split) <;> simp
@[simp] theorem State.reeferSample_reefer (s : State) (n : Fin 4096) (e : ReeferEntry) (r : ReeferReport) (t : Nat) : (s.reeferSample n e r t).reefer = s.reefer := by
  unfold State.reeferSample; split <;> (try split) <;> simp
@[simp] theorem State.reeferSample_cmd (s : State) (n : Fin 4096) (e : ReeferEntry) (r : ReeferReport) (t : Nat) : (s.reeferSample n e r t).cmd = s.cmd := by
  unfold State.reeferSample; split <;> (try split) <;> simp
@[simp] theorem State.reeferSample_mirror (s : State) (n : Fin 4096) (e : ReeferEntry) (r : ReeferReport) (t : Nat) : (s.reeferSample n e r t).mirror = s.mirror := by
  unfold State.reeferSample; split <;> (try split) <;> simp
@[simp] theorem State.reeferSample_restarts (s : State) (n : Fin 4096) (e : ReeferEntry) (r : ReeferReport) (t : Nat) : (s.reeferSample n e r t).restarts = s.restarts := by
  unfold State.reeferSample; split <;> (try split) <;> simp
@[simp] theorem State.reeferSample_pending (s : State) (n : Fin 4096) (e : ReeferEntry) (r : ReeferReport) (t : Nat) : (s.reeferSample n e r t).pending = s.pending := by
  unfold State.reeferSample; split <;> (try split) <;> simp

@[simp] theorem raiseAll_inReset (s : State) (n : Nat) (l : List ArithmeticNotice) : (l.foldl (fun t x => t.raise x.kind n x.value1 x.value2 x.value3) s).inReset = s.inReset := by
  induction l generalizing s with
  | nil => rfl
  | cons x l ih => rw [List.foldl_cons, ih]; simp
@[simp] theorem raiseAll_cpb (s : State) (n : Nat) (l : List ArithmeticNotice) : (l.foldl (fun t x => t.raise x.kind n x.value1 x.value2 x.value3) s).cpb = s.cpb := by
  induction l generalizing s with
  | nil => rfl
  | cons x l ih => rw [List.foldl_cons, ih]; simp
@[simp] theorem raiseAll_cpid (s : State) (n : Nat) (l : List ArithmeticNotice) : (l.foldl (fun t x => t.raise x.kind n x.value1 x.value2 x.value3) s).cpid = s.cpid := by
  induction l generalizing s with
  | nil => rfl
  | cons x l ih => rw [List.foldl_cons, ih]; simp
@[simp] theorem raiseAll_time (s : State) (n : Nat) (l : List ArithmeticNotice) : (l.foldl (fun t x => t.raise x.kind n x.value1 x.value2 x.value3) s).time = s.time := by
  induction l generalizing s with
  | nil => rfl
  | cons x l ih => rw [List.foldl_cons, ih]; simp
@[simp] theorem raiseAll_windows (s : State) (n : Nat) (l : List ArithmeticNotice) : (l.foldl (fun t x => t.raise x.kind n x.value1 x.value2 x.value3) s).windows = s.windows := by
  induction l generalizing s with
  | nil => rfl
  | cons x l ih => rw [List.foldl_cons, ih]; simp
@[simp] theorem raiseAll_intake (s : State) (n : Nat) (l : List ArithmeticNotice) : (l.foldl (fun t x => t.raise x.kind n x.value1 x.value2 x.value3) s).intake = s.intake := by
  induction l generalizing s with
  | nil => rfl
  | cons x l ih => rw [List.foldl_cons, ih]; simp
@[simp] theorem raiseAll_arb (s : State) (n : Nat) (l : List ArithmeticNotice) : (l.foldl (fun t x => t.raise x.kind n x.value1 x.value2 x.value3) s).arb = s.arb := by
  induction l generalizing s with
  | nil => rfl
  | cons x l ih => rw [List.foldl_cons, ih]; simp
@[simp] theorem raiseAll_port (s : State) (n : Nat) (l : List ArithmeticNotice) : (l.foldl (fun t x => t.raise x.kind n x.value1 x.value2 x.value3) s).port = s.port := by
  induction l generalizing s with
  | nil => rfl
  | cons x l ih => rw [List.foldl_cons, ih]; simp
@[simp] theorem raiseAll_cranes (s : State) (n : Nat) (l : List ArithmeticNotice) : (l.foldl (fun t x => t.raise x.kind n x.value1 x.value2 x.value3) s).cranes = s.cranes := by
  induction l generalizing s with
  | nil => rfl
  | cons x l ih => rw [List.foldl_cons, ih]; simp
@[simp] theorem raiseAll_grid (s : State) (n : Nat) (l : List ArithmeticNotice) : (l.foldl (fun t x => t.raise x.kind n x.value1 x.value2 x.value3) s).grid = s.grid := by
  induction l generalizing s with
  | nil => rfl
  | cons x l ih => rw [List.foldl_cons, ih]; simp
@[simp] theorem raiseAll_reefer (s : State) (n : Nat) (l : List ArithmeticNotice) : (l.foldl (fun t x => t.raise x.kind n x.value1 x.value2 x.value3) s).reefer = s.reefer := by
  induction l generalizing s with
  | nil => rfl
  | cons x l ih => rw [List.foldl_cons, ih]; simp
@[simp] theorem raiseAll_cmd (s : State) (n : Nat) (l : List ArithmeticNotice) : (l.foldl (fun t x => t.raise x.kind n x.value1 x.value2 x.value3) s).cmd = s.cmd := by
  induction l generalizing s with
  | nil => rfl
  | cons x l ih => rw [List.foldl_cons, ih]; simp
@[simp] theorem raiseAll_mirror (s : State) (n : Nat) (l : List ArithmeticNotice) : (l.foldl (fun t x => t.raise x.kind n x.value1 x.value2 x.value3) s).mirror = s.mirror := by
  induction l generalizing s with
  | nil => rfl
  | cons x l ih => rw [List.foldl_cons, ih]; simp
@[simp] theorem raiseAll_restarts (s : State) (n : Nat) (l : List ArithmeticNotice) : (l.foldl (fun t x => t.raise x.kind n x.value1 x.value2 x.value3) s).restarts = s.restarts := by
  induction l generalizing s with
  | nil => rfl
  | cons x l ih => rw [List.foldl_cons, ih]; simp
@[simp] theorem raiseAll_pending (s : State) (n : Nat) (l : List ArithmeticNotice) : (l.foldl (fun t x => t.raise x.kind n x.value1 x.value2 x.value3) s).pending = s.pending := by
  induction l generalizing s with
  | nil => rfl
  | cons x l ih => rw [List.foldl_cons, ih]; simp

@[simp] theorem State.useReport_inReset (s : State) (n : Fin 4096) (r : ReeferReport) (t : Nat) : (s.useReport n r t).inReset = s.inReset := by simp [State.useReport]
@[simp] theorem State.useReport_cpb (s : State) (n : Fin 4096) (r : ReeferReport) (t : Nat) : (s.useReport n r t).cpb = s.cpb := by simp [State.useReport]
@[simp] theorem State.useReport_cpid (s : State) (n : Fin 4096) (r : ReeferReport) (t : Nat) : (s.useReport n r t).cpid = s.cpid := by simp [State.useReport]
@[simp] theorem State.useReport_time (s : State) (n : Fin 4096) (r : ReeferReport) (t : Nat) : (s.useReport n r t).time = s.time := by simp [State.useReport]
@[simp] theorem State.useReport_windows (s : State) (n : Fin 4096) (r : ReeferReport) (t : Nat) : (s.useReport n r t).windows = s.windows := by simp [State.useReport]
@[simp] theorem State.useReport_intake (s : State) (n : Fin 4096) (r : ReeferReport) (t : Nat) : (s.useReport n r t).intake = s.intake := by simp [State.useReport]
@[simp] theorem State.useReport_port (s : State) (n : Fin 4096) (r : ReeferReport) (t : Nat) : (s.useReport n r t).port = s.port := by simp [State.useReport]
@[simp] theorem State.useReport_cmd (s : State) (n : Fin 4096) (r : ReeferReport) (t : Nat) : (s.useReport n r t).cmd = s.cmd := by simp [State.useReport]
@[simp] theorem State.useReport_mirror (s : State) (n : Fin 4096) (r : ReeferReport) (t : Nat) : (s.useReport n r t).mirror = s.mirror := by simp [State.useReport]
@[simp] theorem State.useReport_restarts (s : State) (n : Fin 4096) (r : ReeferReport) (t : Nat) : (s.useReport n r t).restarts = s.restarts := by simp [State.useReport]
@[simp] theorem State.useReport_pending (s : State) (n : Fin 4096) (r : ReeferReport) (t : Nat) : (s.useReport n r t).pending = s.pending := by simp [State.useReport]

@[simp] theorem State.reportFor_inReset (s : State) (n : Fin 4096) (r : ReeferReport) (t : Nat) : (s.reportFor n r t).inReset = s.inReset := by unfold State.reportFor; dsimp only; split <;> simp
@[simp] theorem State.reportFor_cpb (s : State) (n : Fin 4096) (r : ReeferReport) (t : Nat) : (s.reportFor n r t).cpb = s.cpb := by unfold State.reportFor; dsimp only; split <;> simp
@[simp] theorem State.reportFor_cpid (s : State) (n : Fin 4096) (r : ReeferReport) (t : Nat) : (s.reportFor n r t).cpid = s.cpid := by unfold State.reportFor; dsimp only; split <;> simp
@[simp] theorem State.reportFor_time (s : State) (n : Fin 4096) (r : ReeferReport) (t : Nat) : (s.reportFor n r t).time = s.time := by unfold State.reportFor; dsimp only; split <;> simp
@[simp] theorem State.reportFor_windows (s : State) (n : Fin 4096) (r : ReeferReport) (t : Nat) : (s.reportFor n r t).windows = s.windows := by unfold State.reportFor; dsimp only; split <;> simp
@[simp] theorem State.reportFor_intake (s : State) (n : Fin 4096) (r : ReeferReport) (t : Nat) : (s.reportFor n r t).intake = s.intake := by unfold State.reportFor; dsimp only; split <;> simp
@[simp] theorem State.reportFor_port (s : State) (n : Fin 4096) (r : ReeferReport) (t : Nat) : (s.reportFor n r t).port = s.port := by unfold State.reportFor; dsimp only; split <;> simp
@[simp] theorem State.reportFor_cmd (s : State) (n : Fin 4096) (r : ReeferReport) (t : Nat) : (s.reportFor n r t).cmd = s.cmd := by unfold State.reportFor; dsimp only; split <;> simp
@[simp] theorem State.reportFor_mirror (s : State) (n : Fin 4096) (r : ReeferReport) (t : Nat) : (s.reportFor n r t).mirror = s.mirror := by unfold State.reportFor; dsimp only; split <;> simp
@[simp] theorem State.reportFor_restarts (s : State) (n : Fin 4096) (r : ReeferReport) (t : Nat) : (s.reportFor n r t).restarts = s.restarts := by unfold State.reportFor; dsimp only; split <;> simp
@[simp] theorem State.reportFor_pending (s : State) (n : Fin 4096) (r : ReeferReport) (t : Nat) : (s.reportFor n r t).pending = s.pending := by unfold State.reportFor; dsimp only; split <;> simp

@[simp] theorem State.unknownTag_inReset (s : State) (r : ReeferReport) (t : Nat) : (s.unknownTag r t).inReset = s.inReset := by
  unfold State.unknownTag; split <;> (try split) <;> simp
@[simp] theorem State.unknownTag_cpb (s : State) (r : ReeferReport) (t : Nat) : (s.unknownTag r t).cpb = s.cpb := by
  unfold State.unknownTag; split <;> (try split) <;> simp
@[simp] theorem State.unknownTag_cpid (s : State) (r : ReeferReport) (t : Nat) : (s.unknownTag r t).cpid = s.cpid := by
  unfold State.unknownTag; split <;> (try split) <;> simp
@[simp] theorem State.unknownTag_time (s : State) (r : ReeferReport) (t : Nat) : (s.unknownTag r t).time = s.time := by
  unfold State.unknownTag; split <;> (try split) <;> simp
@[simp] theorem State.unknownTag_windows (s : State) (r : ReeferReport) (t : Nat) : (s.unknownTag r t).windows = s.windows := by
  unfold State.unknownTag; split <;> (try split) <;> simp
@[simp] theorem State.unknownTag_intake (s : State) (r : ReeferReport) (t : Nat) : (s.unknownTag r t).intake = s.intake := by
  unfold State.unknownTag; split <;> (try split) <;> simp
@[simp] theorem State.unknownTag_port (s : State) (r : ReeferReport) (t : Nat) : (s.unknownTag r t).port = s.port := by
  unfold State.unknownTag; split <;> (try split) <;> simp
@[simp] theorem State.unknownTag_cmd (s : State) (r : ReeferReport) (t : Nat) : (s.unknownTag r t).cmd = s.cmd := by
  unfold State.unknownTag; split <;> (try split) <;> simp
@[simp] theorem State.unknownTag_mirror (s : State) (r : ReeferReport) (t : Nat) : (s.unknownTag r t).mirror = s.mirror := by
  unfold State.unknownTag; split <;> (try split) <;> simp
@[simp] theorem State.unknownTag_restarts (s : State) (r : ReeferReport) (t : Nat) : (s.unknownTag r t).restarts = s.restarts := by
  unfold State.unknownTag; split <;> (try split) <;> simp
@[simp] theorem State.unknownTag_pending (s : State) (r : ReeferReport) (t : Nat) : (s.unknownTag r t).pending = s.pending := by
  unfold State.unknownTag; split <;> (try split) <;> simp

@[simp] theorem State.reeferRecord_inReset (s : State) (l : List Byte) (t : Nat) : (s.reeferRecord l t).inReset = s.inReset := by
  unfold State.reeferRecord; dsimp only; split <;> (try split) <;> simp
@[simp] theorem State.reeferRecord_cpb (s : State) (l : List Byte) (t : Nat) : (s.reeferRecord l t).cpb = s.cpb := by
  unfold State.reeferRecord; dsimp only; split <;> (try split) <;> simp
@[simp] theorem State.reeferRecord_cpid (s : State) (l : List Byte) (t : Nat) : (s.reeferRecord l t).cpid = s.cpid := by
  unfold State.reeferRecord; dsimp only; split <;> (try split) <;> simp
@[simp] theorem State.reeferRecord_time (s : State) (l : List Byte) (t : Nat) : (s.reeferRecord l t).time = s.time := by
  unfold State.reeferRecord; dsimp only; split <;> (try split) <;> simp
@[simp] theorem State.reeferRecord_windows (s : State) (l : List Byte) (t : Nat) : (s.reeferRecord l t).windows = s.windows := by
  unfold State.reeferRecord; dsimp only; split <;> (try split) <;> simp
@[simp] theorem State.reeferRecord_intake (s : State) (l : List Byte) (t : Nat) : (s.reeferRecord l t).intake = s.intake := by
  unfold State.reeferRecord; dsimp only; split <;> (try split) <;> simp
@[simp] theorem State.reeferRecord_port (s : State) (l : List Byte) (t : Nat) : (s.reeferRecord l t).port = s.port := by
  unfold State.reeferRecord; dsimp only; split <;> (try split) <;> simp
@[simp] theorem State.reeferRecord_cmd (s : State) (l : List Byte) (t : Nat) : (s.reeferRecord l t).cmd = s.cmd := by
  unfold State.reeferRecord; dsimp only; split <;> (try split) <;> simp
@[simp] theorem State.reeferRecord_mirror (s : State) (l : List Byte) (t : Nat) : (s.reeferRecord l t).mirror = s.mirror := by
  unfold State.reeferRecord; dsimp only; split <;> (try split) <;> simp
@[simp] theorem State.reeferRecord_restarts (s : State) (l : List Byte) (t : Nat) : (s.reeferRecord l t).restarts = s.restarts := by
  unfold State.reeferRecord; dsimp only; split <;> (try split) <;> simp
@[simp] theorem State.reeferRecord_pending (s : State) (l : List Byte) (t : Nat) : (s.reeferRecord l t).pending = s.pending := by
  unfold State.reeferRecord; dsimp only; split <;> (try split) <;> simp

@[simp] theorem State.sweepEntry_inReset (s : State) (n : Fin 4096) : (s.sweepEntry n).inReset = s.inReset := by unfold State.sweepEntry; dsimp only; split <;> simp
@[simp] theorem State.sweepEntry_cpb (s : State) (n : Fin 4096) : (s.sweepEntry n).cpb = s.cpb := by unfold State.sweepEntry; dsimp only; split <;> simp
@[simp] theorem State.sweepEntry_cpid (s : State) (n : Fin 4096) : (s.sweepEntry n).cpid = s.cpid := by unfold State.sweepEntry; dsimp only; split <;> simp
@[simp] theorem State.sweepEntry_time (s : State) (n : Fin 4096) : (s.sweepEntry n).time = s.time := by unfold State.sweepEntry; dsimp only; split <;> simp
@[simp] theorem State.sweepEntry_windows (s : State) (n : Fin 4096) : (s.sweepEntry n).windows = s.windows := by unfold State.sweepEntry; dsimp only; split <;> simp
@[simp] theorem State.sweepEntry_intake (s : State) (n : Fin 4096) : (s.sweepEntry n).intake = s.intake := by unfold State.sweepEntry; dsimp only; split <;> simp
@[simp] theorem State.sweepEntry_port (s : State) (n : Fin 4096) : (s.sweepEntry n).port = s.port := by unfold State.sweepEntry; dsimp only; split <;> simp
@[simp] theorem State.sweepEntry_cranes (s : State) (n : Fin 4096) : (s.sweepEntry n).cranes = s.cranes := by unfold State.sweepEntry; dsimp only; split <;> simp
@[simp] theorem State.sweepEntry_grid (s : State) (n : Fin 4096) : (s.sweepEntry n).grid = s.grid := by unfold State.sweepEntry; dsimp only; split <;> simp
@[simp] theorem State.sweepEntry_cmd (s : State) (n : Fin 4096) : (s.sweepEntry n).cmd = s.cmd := by unfold State.sweepEntry; dsimp only; split <;> simp
@[simp] theorem State.sweepEntry_mirror (s : State) (n : Fin 4096) : (s.sweepEntry n).mirror = s.mirror := by unfold State.sweepEntry; dsimp only; split <;> simp
@[simp] theorem State.sweepEntry_restarts (s : State) (n : Fin 4096) : (s.sweepEntry n).restarts = s.restarts := by unfold State.sweepEntry; dsimp only; split <;> simp
@[simp] theorem State.sweepEntry_pending (s : State) (n : Fin 4096) : (s.sweepEntry n).pending = s.pending := by unfold State.sweepEntry; dsimp only; split <;> simp

/-! ## Command Unit -/

@[simp] theorem State.take_inReset (s : State) : (s.take).inReset = s.inReset := by simp [State.take]
@[simp] theorem State.take_cpb (s : State) : (s.take).cpb = s.cpb := by simp [State.take]
@[simp] theorem State.take_cpid (s : State) : (s.take).cpid = s.cpid := by simp [State.take]
@[simp] theorem State.take_time (s : State) : (s.take).time = s.time := by simp [State.take]
@[simp] theorem State.take_windows (s : State) : (s.take).windows = s.windows := by simp [State.take]
@[simp] theorem State.take_intake (s : State) : (s.take).intake = s.intake := by simp [State.take]
@[simp] theorem State.take_arb (s : State) : (s.take).arb = s.arb := by simp [State.take]
@[simp] theorem State.take_port (s : State) : (s.take).port = s.port := by simp [State.take]
@[simp] theorem State.take_cranes (s : State) : (s.take).cranes = s.cranes := by simp [State.take]
@[simp] theorem State.take_grid (s : State) : (s.take).grid = s.grid := by simp [State.take]
@[simp] theorem State.take_reefer (s : State) : (s.take).reefer = s.reefer := by simp [State.take]
@[simp] theorem State.take_notice (s : State) : (s.take).notice = s.notice := by simp [State.take]
@[simp] theorem State.take_mirror (s : State) : (s.take).mirror = s.mirror := by simp [State.take]
@[simp] theorem State.take_scratch (s : State) : (s.take).scratch = s.scratch := by simp [State.take]
@[simp] theorem State.take_restarts (s : State) : (s.take).restarts = s.restarts := by simp [State.take]
@[simp] theorem State.take_pending (s : State) : (s.take).pending = s.pending := by simp [State.take]

@[simp] theorem State.writeResult_inReset (s : State) : (s.writeResult).inReset = s.inReset := by simp [State.writeResult]
@[simp] theorem State.writeResult_cpb (s : State) : (s.writeResult).cpb = s.cpb := by simp [State.writeResult]
@[simp] theorem State.writeResult_cpid (s : State) : (s.writeResult).cpid = s.cpid := by simp [State.writeResult]
@[simp] theorem State.writeResult_time (s : State) : (s.writeResult).time = s.time := by simp [State.writeResult]
@[simp] theorem State.writeResult_windows (s : State) : (s.writeResult).windows = s.windows := by simp [State.writeResult]
@[simp] theorem State.writeResult_intake (s : State) : (s.writeResult).intake = s.intake := by simp [State.writeResult]
@[simp] theorem State.writeResult_port (s : State) : (s.writeResult).port = s.port := by simp [State.writeResult]
@[simp] theorem State.writeResult_cranes (s : State) : (s.writeResult).cranes = s.cranes := by simp [State.writeResult]
@[simp] theorem State.writeResult_grid (s : State) : (s.writeResult).grid = s.grid := by simp [State.writeResult]
@[simp] theorem State.writeResult_reefer (s : State) : (s.writeResult).reefer = s.reefer := by simp [State.writeResult]
@[simp] theorem State.writeResult_notice (s : State) : (s.writeResult).notice = s.notice := by simp [State.writeResult]
@[simp] theorem State.writeResult_cmd (s : State) : (s.writeResult).cmd = s.cmd := by simp [State.writeResult]
@[simp] theorem State.writeResult_mirror (s : State) : (s.writeResult).mirror = s.mirror := by simp [State.writeResult]
@[simp] theorem State.writeResult_scratch (s : State) : (s.writeResult).scratch = s.scratch := by simp [State.writeResult]
@[simp] theorem State.writeResult_restarts (s : State) : (s.writeResult).restarts = s.restarts := by simp [State.writeResult]
@[simp] theorem State.writeResult_pending (s : State) : (s.writeResult).pending = s.pending := by simp [State.writeResult]

@[simp] theorem State.complete_inReset (s : State) (r : ResultCode) : (s.complete r).inReset = s.inReset := by unfold State.complete; dsimp only; split <;> simp
@[simp] theorem State.complete_cpb (s : State) (r : ResultCode) : (s.complete r).cpb = s.cpb := by unfold State.complete; dsimp only; split <;> simp
@[simp] theorem State.complete_cpid (s : State) (r : ResultCode) : (s.complete r).cpid = s.cpid := by unfold State.complete; dsimp only; split <;> simp
@[simp] theorem State.complete_time (s : State) (r : ResultCode) : (s.complete r).time = s.time := by unfold State.complete; dsimp only; split <;> simp
@[simp] theorem State.complete_windows (s : State) (r : ResultCode) : (s.complete r).windows = s.windows := by unfold State.complete; dsimp only; split <;> simp
@[simp] theorem State.complete_intake (s : State) (r : ResultCode) : (s.complete r).intake = s.intake := by unfold State.complete; dsimp only; split <;> simp
@[simp] theorem State.complete_port (s : State) (r : ResultCode) : (s.complete r).port = s.port := by unfold State.complete; dsimp only; split <;> simp
@[simp] theorem State.complete_cranes (s : State) (r : ResultCode) : (s.complete r).cranes = s.cranes := by unfold State.complete; dsimp only; split <;> simp
@[simp] theorem State.complete_grid (s : State) (r : ResultCode) : (s.complete r).grid = s.grid := by unfold State.complete; dsimp only; split <;> simp
@[simp] theorem State.complete_reefer (s : State) (r : ResultCode) : (s.complete r).reefer = s.reefer := by unfold State.complete; dsimp only; split <;> simp
@[simp] theorem State.complete_notice (s : State) (r : ResultCode) : (s.complete r).notice = s.notice := by unfold State.complete; dsimp only; split <;> simp
@[simp] theorem State.complete_mirror (s : State) (r : ResultCode) : (s.complete r).mirror = s.mirror := by unfold State.complete; dsimp only; split <;> simp
@[simp] theorem State.complete_restarts (s : State) (r : ResultCode) : (s.complete r).restarts = s.restarts := by unfold State.complete; dsimp only; split <;> simp
@[simp] theorem State.complete_pending (s : State) (r : ResultCode) : (s.complete r).pending = s.pending := by unfold State.complete; dsimp only; split <;> simp

@[simp] theorem State.closeLong_inReset (s : State) (r : ResultCode) : (s.closeLong r).inReset = s.inReset := by simp [State.closeLong]
@[simp] theorem State.closeLong_cpb (s : State) (r : ResultCode) : (s.closeLong r).cpb = s.cpb := by simp [State.closeLong]
@[simp] theorem State.closeLong_cpid (s : State) (r : ResultCode) : (s.closeLong r).cpid = s.cpid := by simp [State.closeLong]
@[simp] theorem State.closeLong_time (s : State) (r : ResultCode) : (s.closeLong r).time = s.time := by simp [State.closeLong]
@[simp] theorem State.closeLong_windows (s : State) (r : ResultCode) : (s.closeLong r).windows = s.windows := by simp [State.closeLong]
@[simp] theorem State.closeLong_intake (s : State) (r : ResultCode) : (s.closeLong r).intake = s.intake := by simp [State.closeLong]
@[simp] theorem State.closeLong_arb (s : State) (r : ResultCode) : (s.closeLong r).arb = s.arb := by simp [State.closeLong]
@[simp] theorem State.closeLong_port (s : State) (r : ResultCode) : (s.closeLong r).port = s.port := by simp [State.closeLong]
@[simp] theorem State.closeLong_cranes (s : State) (r : ResultCode) : (s.closeLong r).cranes = s.cranes := by simp [State.closeLong]
@[simp] theorem State.closeLong_grid (s : State) (r : ResultCode) : (s.closeLong r).grid = s.grid := by simp [State.closeLong]
@[simp] theorem State.closeLong_reefer (s : State) (r : ResultCode) : (s.closeLong r).reefer = s.reefer := by simp [State.closeLong]
@[simp] theorem State.closeLong_notice (s : State) (r : ResultCode) : (s.closeLong r).notice = s.notice := by simp [State.closeLong]
@[simp] theorem State.closeLong_mirror (s : State) (r : ResultCode) : (s.closeLong r).mirror = s.mirror := by simp [State.closeLong]
@[simp] theorem State.closeLong_restarts (s : State) (r : ResultCode) : (s.closeLong r).restarts = s.restarts := by simp [State.closeLong]
@[simp] theorem State.closeLong_pending (s : State) (r : ResultCode) : (s.closeLong r).pending = s.pending := by simp [State.closeLong]

@[simp] theorem State.stopOperation_inReset (s : State) : (s.stopOperation).inReset = s.inReset := by simp [State.stopOperation]
@[simp] theorem State.stopOperation_cpb (s : State) : (s.stopOperation).cpb = s.cpb := by simp [State.stopOperation]
@[simp] theorem State.stopOperation_cpid (s : State) : (s.stopOperation).cpid = s.cpid := by simp [State.stopOperation]
@[simp] theorem State.stopOperation_time (s : State) : (s.stopOperation).time = s.time := by simp [State.stopOperation]
@[simp] theorem State.stopOperation_windows (s : State) : (s.stopOperation).windows = s.windows := by simp [State.stopOperation]
@[simp] theorem State.stopOperation_intake (s : State) : (s.stopOperation).intake = s.intake := by simp [State.stopOperation]
@[simp] theorem State.stopOperation_arb (s : State) : (s.stopOperation).arb = s.arb := by simp [State.stopOperation]
@[simp] theorem State.stopOperation_port (s : State) : (s.stopOperation).port = s.port := by simp [State.stopOperation]
@[simp] theorem State.stopOperation_cranes (s : State) : (s.stopOperation).cranes = s.cranes := by simp [State.stopOperation]
@[simp] theorem State.stopOperation_reefer (s : State) : (s.stopOperation).reefer = s.reefer := by simp [State.stopOperation]
@[simp] theorem State.stopOperation_notice (s : State) : (s.stopOperation).notice = s.notice := by simp [State.stopOperation]
@[simp] theorem State.stopOperation_cmd (s : State) : (s.stopOperation).cmd = s.cmd := by simp [State.stopOperation]
@[simp] theorem State.stopOperation_scratch (s : State) : (s.stopOperation).scratch = s.scratch := by simp [State.stopOperation]
@[simp] theorem State.stopOperation_restarts (s : State) : (s.stopOperation).restarts = s.restarts := by simp [State.stopOperation]
@[simp] theorem State.stopOperation_pending (s : State) : (s.stopOperation).pending = s.pending := by simp [State.stopOperation]

@[simp] theorem State.refreshRecord_inReset (s : State) (k : MirrorKind) (n : Nat) : (s.refreshRecord k n).inReset = s.inReset := by unfold State.refreshRecord; split <;> split <;> simp
@[simp] theorem State.refreshRecord_cpb (s : State) (k : MirrorKind) (n : Nat) : (s.refreshRecord k n).cpb = s.cpb := by unfold State.refreshRecord; split <;> split <;> simp
@[simp] theorem State.refreshRecord_cpid (s : State) (k : MirrorKind) (n : Nat) : (s.refreshRecord k n).cpid = s.cpid := by unfold State.refreshRecord; split <;> split <;> simp
@[simp] theorem State.refreshRecord_time (s : State) (k : MirrorKind) (n : Nat) : (s.refreshRecord k n).time = s.time := by unfold State.refreshRecord; split <;> split <;> simp
@[simp] theorem State.refreshRecord_windows (s : State) (k : MirrorKind) (n : Nat) : (s.refreshRecord k n).windows = s.windows := by unfold State.refreshRecord; split <;> split <;> simp
@[simp] theorem State.refreshRecord_intake (s : State) (k : MirrorKind) (n : Nat) : (s.refreshRecord k n).intake = s.intake := by unfold State.refreshRecord; split <;> split <;> simp
@[simp] theorem State.refreshRecord_port (s : State) (k : MirrorKind) (n : Nat) : (s.refreshRecord k n).port = s.port := by unfold State.refreshRecord; split <;> split <;> simp
@[simp] theorem State.refreshRecord_cranes (s : State) (k : MirrorKind) (n : Nat) : (s.refreshRecord k n).cranes = s.cranes := by unfold State.refreshRecord; split <;> split <;> simp
@[simp] theorem State.refreshRecord_grid (s : State) (k : MirrorKind) (n : Nat) : (s.refreshRecord k n).grid = s.grid := by unfold State.refreshRecord; split <;> split <;> simp
@[simp] theorem State.refreshRecord_reefer (s : State) (k : MirrorKind) (n : Nat) : (s.refreshRecord k n).reefer = s.reefer := by unfold State.refreshRecord; split <;> split <;> simp
@[simp] theorem State.refreshRecord_notice (s : State) (k : MirrorKind) (n : Nat) : (s.refreshRecord k n).notice = s.notice := by unfold State.refreshRecord; split <;> split <;> simp
@[simp] theorem State.refreshRecord_cmd (s : State) (k : MirrorKind) (n : Nat) : (s.refreshRecord k n).cmd = s.cmd := by unfold State.refreshRecord; split <;> split <;> simp
@[simp] theorem State.refreshRecord_mirror (s : State) (k : MirrorKind) (n : Nat) : (s.refreshRecord k n).mirror = s.mirror := by unfold State.refreshRecord; split <;> split <;> simp
@[simp] theorem State.refreshRecord_restarts (s : State) (k : MirrorKind) (n : Nat) : (s.refreshRecord k n).restarts = s.restarts := by unfold State.refreshRecord; split <;> split <;> simp
@[simp] theorem State.refreshRecord_pending (s : State) (k : MirrorKind) (n : Nat) : (s.refreshRecord k n).pending = s.pending := by unfold State.refreshRecord; split <;> split <;> simp

@[simp] theorem State.doDefineWindow_inReset (s : State) : (s.doDefineWindow.1).inReset = s.inReset := by
  unfold State.doDefineWindow
  split
  · unfold State.defineWindowAt
    split
    · rfl
    · split
      · rfl
      · split
        · rfl
        · dsimp only; split <;> simp
  · rfl
@[simp] theorem State.doDefineWindow_cpb (s : State) : (s.doDefineWindow.1).cpb = s.cpb := by
  unfold State.doDefineWindow
  split
  · unfold State.defineWindowAt
    split
    · rfl
    · split
      · rfl
      · split
        · rfl
        · dsimp only; split <;> simp
  · rfl
@[simp] theorem State.doDefineWindow_cpid (s : State) : (s.doDefineWindow.1).cpid = s.cpid := by
  unfold State.doDefineWindow
  split
  · unfold State.defineWindowAt
    split
    · rfl
    · split
      · rfl
      · split
        · rfl
        · dsimp only; split <;> simp
  · rfl
@[simp] theorem State.doDefineWindow_time (s : State) : (s.doDefineWindow.1).time = s.time := by
  unfold State.doDefineWindow
  split
  · unfold State.defineWindowAt
    split
    · rfl
    · split
      · rfl
      · split
        · rfl
        · dsimp only; split <;> simp
  · rfl
@[simp] theorem State.doDefineWindow_arb (s : State) : (s.doDefineWindow.1).arb = s.arb := by
  unfold State.doDefineWindow
  split
  · unfold State.defineWindowAt
    split
    · rfl
    · split
      · rfl
      · split
        · rfl
        · dsimp only; split <;> simp
  · rfl
@[simp] theorem State.doDefineWindow_port (s : State) : (s.doDefineWindow.1).port = s.port := by
  unfold State.doDefineWindow
  split
  · unfold State.defineWindowAt
    split
    · rfl
    · split
      · rfl
      · split
        · rfl
        · dsimp only; split <;> simp
  · rfl
@[simp] theorem State.doDefineWindow_grid (s : State) : (s.doDefineWindow.1).grid = s.grid := by
  unfold State.doDefineWindow
  split
  · unfold State.defineWindowAt
    split
    · rfl
    · split
      · rfl
      · split
        · rfl
        · dsimp only; split <;> simp
  · rfl
@[simp] theorem State.doDefineWindow_reefer (s : State) : (s.doDefineWindow.1).reefer = s.reefer := by
  unfold State.doDefineWindow
  split
  · unfold State.defineWindowAt
    split
    · rfl
    · split
      · rfl
      · split
        · rfl
        · dsimp only; split <;> simp
  · rfl
@[simp] theorem State.doDefineWindow_cmd (s : State) : (s.doDefineWindow.1).cmd = s.cmd := by
  unfold State.doDefineWindow
  split
  · unfold State.defineWindowAt
    split
    · rfl
    · split
      · rfl
      · split
        · rfl
        · dsimp only; split <;> simp
  · rfl
@[simp] theorem State.doDefineWindow_restarts (s : State) : (s.doDefineWindow.1).restarts = s.restarts := by
  unfold State.doDefineWindow
  split
  · unfold State.defineWindowAt
    split
    · rfl
    · split
      · rfl
      · split
        · rfl
        · dsimp only; split <;> simp
  · rfl
@[simp] theorem State.doDefineWindow_pending (s : State) : (s.doDefineWindow.1).pending = s.pending := by
  unfold State.doDefineWindow
  split
  · unfold State.defineWindowAt
    split
    · rfl
    · split
      · rfl
      · split
        · rfl
        · dsimp only; split <;> simp
  · rfl

@[simp] theorem State.doDeleteWindow_inReset (s : State) : (s.doDeleteWindow.1).inReset = s.inReset := by unfold State.doDeleteWindow; (repeat' split) <;> simp
@[simp] theorem State.doDeleteWindow_cpb (s : State) : (s.doDeleteWindow.1).cpb = s.cpb := by unfold State.doDeleteWindow; (repeat' split) <;> simp
@[simp] theorem State.doDeleteWindow_cpid (s : State) : (s.doDeleteWindow.1).cpid = s.cpid := by unfold State.doDeleteWindow; (repeat' split) <;> simp
@[simp] theorem State.doDeleteWindow_time (s : State) : (s.doDeleteWindow.1).time = s.time := by unfold State.doDeleteWindow; (repeat' split) <;> simp
@[simp] theorem State.doDeleteWindow_arb (s : State) : (s.doDeleteWindow.1).arb = s.arb := by unfold State.doDeleteWindow; (repeat' split) <;> simp
@[simp] theorem State.doDeleteWindow_port (s : State) : (s.doDeleteWindow.1).port = s.port := by unfold State.doDeleteWindow; (repeat' split) <;> simp
@[simp] theorem State.doDeleteWindow_grid (s : State) : (s.doDeleteWindow.1).grid = s.grid := by unfold State.doDeleteWindow; (repeat' split) <;> simp
@[simp] theorem State.doDeleteWindow_reefer (s : State) : (s.doDeleteWindow.1).reefer = s.reefer := by unfold State.doDeleteWindow; (repeat' split) <;> simp
@[simp] theorem State.doDeleteWindow_cmd (s : State) : (s.doDeleteWindow.1).cmd = s.cmd := by unfold State.doDeleteWindow; (repeat' split) <;> simp
@[simp] theorem State.doDeleteWindow_mirror (s : State) : (s.doDeleteWindow.1).mirror = s.mirror := by unfold State.doDeleteWindow; (repeat' split) <;> simp
@[simp] theorem State.doDeleteWindow_restarts (s : State) : (s.doDeleteWindow.1).restarts = s.restarts := by unfold State.doDeleteWindow; (repeat' split) <;> simp
@[simp] theorem State.doDeleteWindow_pending (s : State) : (s.doDeleteWindow.1).pending = s.pending := by unfold State.doDeleteWindow; (repeat' split) <;> simp

@[simp] theorem State.doLockWindow_inReset (s : State) : (s.doLockWindow.1).inReset = s.inReset := by unfold State.doLockWindow State.lockAt; dsimp only; (repeat' split) <;> simp
@[simp] theorem State.doLockWindow_cpb (s : State) : (s.doLockWindow.1).cpb = s.cpb := by unfold State.doLockWindow State.lockAt; dsimp only; (repeat' split) <;> simp
@[simp] theorem State.doLockWindow_cpid (s : State) : (s.doLockWindow.1).cpid = s.cpid := by unfold State.doLockWindow State.lockAt; dsimp only; (repeat' split) <;> simp
@[simp] theorem State.doLockWindow_time (s : State) : (s.doLockWindow.1).time = s.time := by unfold State.doLockWindow State.lockAt; dsimp only; (repeat' split) <;> simp
@[simp] theorem State.doLockWindow_intake (s : State) : (s.doLockWindow.1).intake = s.intake := by unfold State.doLockWindow State.lockAt; dsimp only; (repeat' split) <;> simp
@[simp] theorem State.doLockWindow_arb (s : State) : (s.doLockWindow.1).arb = s.arb := by unfold State.doLockWindow State.lockAt; dsimp only; (repeat' split) <;> simp
@[simp] theorem State.doLockWindow_port (s : State) : (s.doLockWindow.1).port = s.port := by unfold State.doLockWindow State.lockAt; dsimp only; (repeat' split) <;> simp
@[simp] theorem State.doLockWindow_cranes (s : State) : (s.doLockWindow.1).cranes = s.cranes := by unfold State.doLockWindow State.lockAt; dsimp only; (repeat' split) <;> simp
@[simp] theorem State.doLockWindow_grid (s : State) : (s.doLockWindow.1).grid = s.grid := by unfold State.doLockWindow State.lockAt; dsimp only; (repeat' split) <;> simp
@[simp] theorem State.doLockWindow_reefer (s : State) : (s.doLockWindow.1).reefer = s.reefer := by unfold State.doLockWindow State.lockAt; dsimp only; (repeat' split) <;> simp
@[simp] theorem State.doLockWindow_notice (s : State) : (s.doLockWindow.1).notice = s.notice := by unfold State.doLockWindow State.lockAt; dsimp only; (repeat' split) <;> simp
@[simp] theorem State.doLockWindow_cmd (s : State) : (s.doLockWindow.1).cmd = s.cmd := by unfold State.doLockWindow State.lockAt; dsimp only; (repeat' split) <;> simp
@[simp] theorem State.doLockWindow_mirror (s : State) : (s.doLockWindow.1).mirror = s.mirror := by unfold State.doLockWindow State.lockAt; dsimp only; (repeat' split) <;> simp
@[simp] theorem State.doLockWindow_scratch (s : State) : (s.doLockWindow.1).scratch = s.scratch := by unfold State.doLockWindow State.lockAt; dsimp only; (repeat' split) <;> simp
@[simp] theorem State.doLockWindow_restarts (s : State) : (s.doLockWindow.1).restarts = s.restarts := by unfold State.doLockWindow State.lockAt; dsimp only; (repeat' split) <;> simp
@[simp] theorem State.doLockWindow_pending (s : State) : (s.doLockWindow.1).pending = s.pending := by unfold State.doLockWindow State.lockAt; dsimp only; (repeat' split) <;> simp

@[simp] theorem State.doUnlockWindow_inReset (s : State) : (s.doUnlockWindow.1).inReset = s.inReset := by unfold State.doUnlockWindow; dsimp only; (repeat' split) <;> simp
@[simp] theorem State.doUnlockWindow_cpb (s : State) : (s.doUnlockWindow.1).cpb = s.cpb := by unfold State.doUnlockWindow; dsimp only; (repeat' split) <;> simp
@[simp] theorem State.doUnlockWindow_cpid (s : State) : (s.doUnlockWindow.1).cpid = s.cpid := by unfold State.doUnlockWindow; dsimp only; (repeat' split) <;> simp
@[simp] theorem State.doUnlockWindow_time (s : State) : (s.doUnlockWindow.1).time = s.time := by unfold State.doUnlockWindow; dsimp only; (repeat' split) <;> simp
@[simp] theorem State.doUnlockWindow_intake (s : State) : (s.doUnlockWindow.1).intake = s.intake := by unfold State.doUnlockWindow; dsimp only; (repeat' split) <;> simp
@[simp] theorem State.doUnlockWindow_arb (s : State) : (s.doUnlockWindow.1).arb = s.arb := by unfold State.doUnlockWindow; dsimp only; (repeat' split) <;> simp
@[simp] theorem State.doUnlockWindow_port (s : State) : (s.doUnlockWindow.1).port = s.port := by unfold State.doUnlockWindow; dsimp only; (repeat' split) <;> simp
@[simp] theorem State.doUnlockWindow_cranes (s : State) : (s.doUnlockWindow.1).cranes = s.cranes := by unfold State.doUnlockWindow; dsimp only; (repeat' split) <;> simp
@[simp] theorem State.doUnlockWindow_grid (s : State) : (s.doUnlockWindow.1).grid = s.grid := by unfold State.doUnlockWindow; dsimp only; (repeat' split) <;> simp
@[simp] theorem State.doUnlockWindow_reefer (s : State) : (s.doUnlockWindow.1).reefer = s.reefer := by unfold State.doUnlockWindow; dsimp only; (repeat' split) <;> simp
@[simp] theorem State.doUnlockWindow_notice (s : State) : (s.doUnlockWindow.1).notice = s.notice := by unfold State.doUnlockWindow; dsimp only; (repeat' split) <;> simp
@[simp] theorem State.doUnlockWindow_cmd (s : State) : (s.doUnlockWindow.1).cmd = s.cmd := by unfold State.doUnlockWindow; dsimp only; (repeat' split) <;> simp
@[simp] theorem State.doUnlockWindow_mirror (s : State) : (s.doUnlockWindow.1).mirror = s.mirror := by unfold State.doUnlockWindow; dsimp only; (repeat' split) <;> simp
@[simp] theorem State.doUnlockWindow_scratch (s : State) : (s.doUnlockWindow.1).scratch = s.scratch := by unfold State.doUnlockWindow; dsimp only; (repeat' split) <;> simp
@[simp] theorem State.doUnlockWindow_restarts (s : State) : (s.doUnlockWindow.1).restarts = s.restarts := by unfold State.doUnlockWindow; dsimp only; (repeat' split) <;> simp
@[simp] theorem State.doUnlockWindow_pending (s : State) : (s.doUnlockWindow.1).pending = s.pending := by unfold State.doUnlockWindow; dsimp only; (repeat' split) <;> simp

@[simp] theorem State.doAttachCrane_inReset (s : State) : (s.doAttachCrane.1).inReset = s.inReset := by unfold State.doAttachCrane; (repeat' split) <;> simp
@[simp] theorem State.doAttachCrane_cpb (s : State) : (s.doAttachCrane.1).cpb = s.cpb := by unfold State.doAttachCrane; (repeat' split) <;> simp
@[simp] theorem State.doAttachCrane_cpid (s : State) : (s.doAttachCrane.1).cpid = s.cpid := by unfold State.doAttachCrane; (repeat' split) <;> simp
@[simp] theorem State.doAttachCrane_time (s : State) : (s.doAttachCrane.1).time = s.time := by unfold State.doAttachCrane; (repeat' split) <;> simp
@[simp] theorem State.doAttachCrane_windows (s : State) : (s.doAttachCrane.1).windows = s.windows := by unfold State.doAttachCrane; (repeat' split) <;> simp
@[simp] theorem State.doAttachCrane_intake (s : State) : (s.doAttachCrane.1).intake = s.intake := by unfold State.doAttachCrane; (repeat' split) <;> simp
@[simp] theorem State.doAttachCrane_port (s : State) : (s.doAttachCrane.1).port = s.port := by unfold State.doAttachCrane; (repeat' split) <;> simp
@[simp] theorem State.doAttachCrane_grid (s : State) : (s.doAttachCrane.1).grid = s.grid := by unfold State.doAttachCrane; (repeat' split) <;> simp
@[simp] theorem State.doAttachCrane_reefer (s : State) : (s.doAttachCrane.1).reefer = s.reefer := by unfold State.doAttachCrane; (repeat' split) <;> simp
@[simp] theorem State.doAttachCrane_notice (s : State) : (s.doAttachCrane.1).notice = s.notice := by unfold State.doAttachCrane; (repeat' split) <;> simp
@[simp] theorem State.doAttachCrane_cmd (s : State) : (s.doAttachCrane.1).cmd = s.cmd := by unfold State.doAttachCrane; (repeat' split) <;> simp
@[simp] theorem State.doAttachCrane_mirror (s : State) : (s.doAttachCrane.1).mirror = s.mirror := by unfold State.doAttachCrane; (repeat' split) <;> simp
@[simp] theorem State.doAttachCrane_restarts (s : State) : (s.doAttachCrane.1).restarts = s.restarts := by unfold State.doAttachCrane; (repeat' split) <;> simp
@[simp] theorem State.doAttachCrane_pending (s : State) : (s.doAttachCrane.1).pending = s.pending := by unfold State.doAttachCrane; (repeat' split) <;> simp

@[simp] theorem State.doDetachCrane_inReset (s : State) : (s.doDetachCrane.1).inReset = s.inReset := by unfold State.doDetachCrane; (repeat' split) <;> simp
@[simp] theorem State.doDetachCrane_cpb (s : State) : (s.doDetachCrane.1).cpb = s.cpb := by unfold State.doDetachCrane; (repeat' split) <;> simp
@[simp] theorem State.doDetachCrane_cpid (s : State) : (s.doDetachCrane.1).cpid = s.cpid := by unfold State.doDetachCrane; (repeat' split) <;> simp
@[simp] theorem State.doDetachCrane_time (s : State) : (s.doDetachCrane.1).time = s.time := by unfold State.doDetachCrane; (repeat' split) <;> simp
@[simp] theorem State.doDetachCrane_windows (s : State) : (s.doDetachCrane.1).windows = s.windows := by unfold State.doDetachCrane; (repeat' split) <;> simp
@[simp] theorem State.doDetachCrane_intake (s : State) : (s.doDetachCrane.1).intake = s.intake := by unfold State.doDetachCrane; (repeat' split) <;> simp
@[simp] theorem State.doDetachCrane_port (s : State) : (s.doDetachCrane.1).port = s.port := by unfold State.doDetachCrane; (repeat' split) <;> simp
@[simp] theorem State.doDetachCrane_grid (s : State) : (s.doDetachCrane.1).grid = s.grid := by unfold State.doDetachCrane; (repeat' split) <;> simp
@[simp] theorem State.doDetachCrane_reefer (s : State) : (s.doDetachCrane.1).reefer = s.reefer := by unfold State.doDetachCrane; (repeat' split) <;> simp
@[simp] theorem State.doDetachCrane_notice (s : State) : (s.doDetachCrane.1).notice = s.notice := by unfold State.doDetachCrane; (repeat' split) <;> simp
@[simp] theorem State.doDetachCrane_cmd (s : State) : (s.doDetachCrane.1).cmd = s.cmd := by unfold State.doDetachCrane; (repeat' split) <;> simp
@[simp] theorem State.doDetachCrane_mirror (s : State) : (s.doDetachCrane.1).mirror = s.mirror := by unfold State.doDetachCrane; (repeat' split) <;> simp
@[simp] theorem State.doDetachCrane_restarts (s : State) : (s.doDetachCrane.1).restarts = s.restarts := by unfold State.doDetachCrane; (repeat' split) <;> simp
@[simp] theorem State.doDetachCrane_pending (s : State) : (s.doDetachCrane.1).pending = s.pending := by unfold State.doDetachCrane; (repeat' split) <;> simp

@[simp] theorem State.doSetCraneParameters_inReset (s : State) : (s.doSetCraneParameters.1).inReset = s.inReset := by unfold State.doSetCraneParameters; (repeat' split) <;> simp
@[simp] theorem State.doSetCraneParameters_cpb (s : State) : (s.doSetCraneParameters.1).cpb = s.cpb := by unfold State.doSetCraneParameters; (repeat' split) <;> simp
@[simp] theorem State.doSetCraneParameters_cpid (s : State) : (s.doSetCraneParameters.1).cpid = s.cpid := by unfold State.doSetCraneParameters; (repeat' split) <;> simp
@[simp] theorem State.doSetCraneParameters_time (s : State) : (s.doSetCraneParameters.1).time = s.time := by unfold State.doSetCraneParameters; (repeat' split) <;> simp
@[simp] theorem State.doSetCraneParameters_windows (s : State) : (s.doSetCraneParameters.1).windows = s.windows := by unfold State.doSetCraneParameters; (repeat' split) <;> simp
@[simp] theorem State.doSetCraneParameters_intake (s : State) : (s.doSetCraneParameters.1).intake = s.intake := by unfold State.doSetCraneParameters; (repeat' split) <;> simp
@[simp] theorem State.doSetCraneParameters_arb (s : State) : (s.doSetCraneParameters.1).arb = s.arb := by unfold State.doSetCraneParameters; (repeat' split) <;> simp
@[simp] theorem State.doSetCraneParameters_port (s : State) : (s.doSetCraneParameters.1).port = s.port := by unfold State.doSetCraneParameters; (repeat' split) <;> simp
@[simp] theorem State.doSetCraneParameters_grid (s : State) : (s.doSetCraneParameters.1).grid = s.grid := by unfold State.doSetCraneParameters; (repeat' split) <;> simp
@[simp] theorem State.doSetCraneParameters_reefer (s : State) : (s.doSetCraneParameters.1).reefer = s.reefer := by unfold State.doSetCraneParameters; (repeat' split) <;> simp
@[simp] theorem State.doSetCraneParameters_notice (s : State) : (s.doSetCraneParameters.1).notice = s.notice := by unfold State.doSetCraneParameters; (repeat' split) <;> simp
@[simp] theorem State.doSetCraneParameters_cmd (s : State) : (s.doSetCraneParameters.1).cmd = s.cmd := by unfold State.doSetCraneParameters; (repeat' split) <;> simp
@[simp] theorem State.doSetCraneParameters_mirror (s : State) : (s.doSetCraneParameters.1).mirror = s.mirror := by unfold State.doSetCraneParameters; (repeat' split) <;> simp
@[simp] theorem State.doSetCraneParameters_scratch (s : State) : (s.doSetCraneParameters.1).scratch = s.scratch := by unfold State.doSetCraneParameters; (repeat' split) <;> simp
@[simp] theorem State.doSetCraneParameters_restarts (s : State) : (s.doSetCraneParameters.1).restarts = s.restarts := by unfold State.doSetCraneParameters; (repeat' split) <;> simp
@[simp] theorem State.doSetCraneParameters_pending (s : State) : (s.doSetCraneParameters.1).pending = s.pending := by unfold State.doSetCraneParameters; (repeat' split) <;> simp

@[simp] theorem State.setHold_inReset (s : State) (b : Bool) : ((s.setHold b).1).inReset = s.inReset := by unfold State.setHold; (repeat' split) <;> simp
@[simp] theorem State.setHold_cpb (s : State) (b : Bool) : ((s.setHold b).1).cpb = s.cpb := by unfold State.setHold; (repeat' split) <;> simp
@[simp] theorem State.setHold_cpid (s : State) (b : Bool) : ((s.setHold b).1).cpid = s.cpid := by unfold State.setHold; (repeat' split) <;> simp
@[simp] theorem State.setHold_time (s : State) (b : Bool) : ((s.setHold b).1).time = s.time := by unfold State.setHold; (repeat' split) <;> simp
@[simp] theorem State.setHold_windows (s : State) (b : Bool) : ((s.setHold b).1).windows = s.windows := by unfold State.setHold; (repeat' split) <;> simp
@[simp] theorem State.setHold_intake (s : State) (b : Bool) : ((s.setHold b).1).intake = s.intake := by unfold State.setHold; (repeat' split) <;> simp
@[simp] theorem State.setHold_port (s : State) (b : Bool) : ((s.setHold b).1).port = s.port := by unfold State.setHold; (repeat' split) <;> simp
@[simp] theorem State.setHold_grid (s : State) (b : Bool) : ((s.setHold b).1).grid = s.grid := by unfold State.setHold; (repeat' split) <;> simp
@[simp] theorem State.setHold_reefer (s : State) (b : Bool) : ((s.setHold b).1).reefer = s.reefer := by unfold State.setHold; (repeat' split) <;> simp
@[simp] theorem State.setHold_notice (s : State) (b : Bool) : ((s.setHold b).1).notice = s.notice := by unfold State.setHold; (repeat' split) <;> simp
@[simp] theorem State.setHold_cmd (s : State) (b : Bool) : ((s.setHold b).1).cmd = s.cmd := by unfold State.setHold; (repeat' split) <;> simp
@[simp] theorem State.setHold_mirror (s : State) (b : Bool) : ((s.setHold b).1).mirror = s.mirror := by unfold State.setHold; (repeat' split) <;> simp
@[simp] theorem State.setHold_restarts (s : State) (b : Bool) : ((s.setHold b).1).restarts = s.restarts := by unfold State.setHold; (repeat' split) <;> simp
@[simp] theorem State.setHold_pending (s : State) (b : Bool) : ((s.setHold b).1).pending = s.pending := by unfold State.setHold; (repeat' split) <;> simp

@[simp] theorem State.doSetCell_inReset (s : State) : (s.doSetCell.1).inReset = s.inReset := by unfold State.doSetCell State.placeCell; (repeat' split) <;> simp
@[simp] theorem State.doSetCell_cpb (s : State) : (s.doSetCell.1).cpb = s.cpb := by unfold State.doSetCell State.placeCell; (repeat' split) <;> simp
@[simp] theorem State.doSetCell_cpid (s : State) : (s.doSetCell.1).cpid = s.cpid := by unfold State.doSetCell State.placeCell; (repeat' split) <;> simp
@[simp] theorem State.doSetCell_time (s : State) : (s.doSetCell.1).time = s.time := by unfold State.doSetCell State.placeCell; (repeat' split) <;> simp
@[simp] theorem State.doSetCell_windows (s : State) : (s.doSetCell.1).windows = s.windows := by unfold State.doSetCell State.placeCell; (repeat' split) <;> simp
@[simp] theorem State.doSetCell_intake (s : State) : (s.doSetCell.1).intake = s.intake := by unfold State.doSetCell State.placeCell; (repeat' split) <;> simp
@[simp] theorem State.doSetCell_port (s : State) : (s.doSetCell.1).port = s.port := by unfold State.doSetCell State.placeCell; (repeat' split) <;> simp
@[simp] theorem State.doSetCell_reefer (s : State) : (s.doSetCell.1).reefer = s.reefer := by unfold State.doSetCell State.placeCell; (repeat' split) <;> simp
@[simp] theorem State.doSetCell_cmd (s : State) : (s.doSetCell.1).cmd = s.cmd := by unfold State.doSetCell State.placeCell; (repeat' split) <;> simp
@[simp] theorem State.doSetCell_mirror (s : State) : (s.doSetCell.1).mirror = s.mirror := by unfold State.doSetCell State.placeCell; (repeat' split) <;> simp
@[simp] theorem State.doSetCell_restarts (s : State) : (s.doSetCell.1).restarts = s.restarts := by unfold State.doSetCell State.placeCell; (repeat' split) <;> simp
@[simp] theorem State.doSetCell_pending (s : State) : (s.doSetCell.1).pending = s.pending := by unfold State.doSetCell State.placeCell; (repeat' split) <;> simp

@[simp] theorem State.doClearCell_inReset (s : State) : (s.doClearCell.1).inReset = s.inReset := by unfold State.doClearCell; (repeat' split) <;> simp
@[simp] theorem State.doClearCell_cpb (s : State) : (s.doClearCell.1).cpb = s.cpb := by unfold State.doClearCell; (repeat' split) <;> simp
@[simp] theorem State.doClearCell_cpid (s : State) : (s.doClearCell.1).cpid = s.cpid := by unfold State.doClearCell; (repeat' split) <;> simp
@[simp] theorem State.doClearCell_time (s : State) : (s.doClearCell.1).time = s.time := by unfold State.doClearCell; (repeat' split) <;> simp
@[simp] theorem State.doClearCell_windows (s : State) : (s.doClearCell.1).windows = s.windows := by unfold State.doClearCell; (repeat' split) <;> simp
@[simp] theorem State.doClearCell_intake (s : State) : (s.doClearCell.1).intake = s.intake := by unfold State.doClearCell; (repeat' split) <;> simp
@[simp] theorem State.doClearCell_port (s : State) : (s.doClearCell.1).port = s.port := by unfold State.doClearCell; (repeat' split) <;> simp
@[simp] theorem State.doClearCell_reefer (s : State) : (s.doClearCell.1).reefer = s.reefer := by unfold State.doClearCell; (repeat' split) <;> simp
@[simp] theorem State.doClearCell_cmd (s : State) : (s.doClearCell.1).cmd = s.cmd := by unfold State.doClearCell; (repeat' split) <;> simp
@[simp] theorem State.doClearCell_mirror (s : State) : (s.doClearCell.1).mirror = s.mirror := by unfold State.doClearCell; (repeat' split) <;> simp
@[simp] theorem State.doClearCell_restarts (s : State) : (s.doClearCell.1).restarts = s.restarts := by unfold State.doClearCell; (repeat' split) <;> simp
@[simp] theorem State.doClearCell_pending (s : State) : (s.doClearCell.1).pending = s.pending := by unfold State.doClearCell; (repeat' split) <;> simp

@[simp] theorem State.doSetCoverageParameters_inReset (s : State) : (s.doSetCoverageParameters.1).inReset = s.inReset := by unfold State.doSetCoverageParameters; (repeat' split) <;> simp
@[simp] theorem State.doSetCoverageParameters_cpb (s : State) : (s.doSetCoverageParameters.1).cpb = s.cpb := by unfold State.doSetCoverageParameters; (repeat' split) <;> simp
@[simp] theorem State.doSetCoverageParameters_cpid (s : State) : (s.doSetCoverageParameters.1).cpid = s.cpid := by unfold State.doSetCoverageParameters; (repeat' split) <;> simp
@[simp] theorem State.doSetCoverageParameters_time (s : State) : (s.doSetCoverageParameters.1).time = s.time := by unfold State.doSetCoverageParameters; (repeat' split) <;> simp
@[simp] theorem State.doSetCoverageParameters_windows (s : State) : (s.doSetCoverageParameters.1).windows = s.windows := by unfold State.doSetCoverageParameters; (repeat' split) <;> simp
@[simp] theorem State.doSetCoverageParameters_intake (s : State) : (s.doSetCoverageParameters.1).intake = s.intake := by unfold State.doSetCoverageParameters; (repeat' split) <;> simp
@[simp] theorem State.doSetCoverageParameters_arb (s : State) : (s.doSetCoverageParameters.1).arb = s.arb := by unfold State.doSetCoverageParameters; (repeat' split) <;> simp
@[simp] theorem State.doSetCoverageParameters_port (s : State) : (s.doSetCoverageParameters.1).port = s.port := by unfold State.doSetCoverageParameters; (repeat' split) <;> simp
@[simp] theorem State.doSetCoverageParameters_cranes (s : State) : (s.doSetCoverageParameters.1).cranes = s.cranes := by unfold State.doSetCoverageParameters; (repeat' split) <;> simp
@[simp] theorem State.doSetCoverageParameters_reefer (s : State) : (s.doSetCoverageParameters.1).reefer = s.reefer := by unfold State.doSetCoverageParameters; (repeat' split) <;> simp
@[simp] theorem State.doSetCoverageParameters_notice (s : State) : (s.doSetCoverageParameters.1).notice = s.notice := by unfold State.doSetCoverageParameters; (repeat' split) <;> simp
@[simp] theorem State.doSetCoverageParameters_cmd (s : State) : (s.doSetCoverageParameters.1).cmd = s.cmd := by unfold State.doSetCoverageParameters; (repeat' split) <;> simp
@[simp] theorem State.doSetCoverageParameters_mirror (s : State) : (s.doSetCoverageParameters.1).mirror = s.mirror := by unfold State.doSetCoverageParameters; (repeat' split) <;> simp
@[simp] theorem State.doSetCoverageParameters_scratch (s : State) : (s.doSetCoverageParameters.1).scratch = s.scratch := by unfold State.doSetCoverageParameters; (repeat' split) <;> simp
@[simp] theorem State.doSetCoverageParameters_restarts (s : State) : (s.doSetCoverageParameters.1).restarts = s.restarts := by unfold State.doSetCoverageParameters; (repeat' split) <;> simp
@[simp] theorem State.doSetCoverageParameters_pending (s : State) : (s.doSetCoverageParameters.1).pending = s.pending := by unfold State.doSetCoverageParameters; (repeat' split) <;> simp

@[simp] theorem State.doClearGrid_inReset (s : State) : (s.doClearGrid.1).inReset = s.inReset := by simp [State.doClearGrid]
@[simp] theorem State.doClearGrid_cpb (s : State) : (s.doClearGrid.1).cpb = s.cpb := by simp [State.doClearGrid]
@[simp] theorem State.doClearGrid_cpid (s : State) : (s.doClearGrid.1).cpid = s.cpid := by simp [State.doClearGrid]
@[simp] theorem State.doClearGrid_time (s : State) : (s.doClearGrid.1).time = s.time := by simp [State.doClearGrid]
@[simp] theorem State.doClearGrid_windows (s : State) : (s.doClearGrid.1).windows = s.windows := by simp [State.doClearGrid]
@[simp] theorem State.doClearGrid_intake (s : State) : (s.doClearGrid.1).intake = s.intake := by simp [State.doClearGrid]
@[simp] theorem State.doClearGrid_arb (s : State) : (s.doClearGrid.1).arb = s.arb := by simp [State.doClearGrid]
@[simp] theorem State.doClearGrid_port (s : State) : (s.doClearGrid.1).port = s.port := by simp [State.doClearGrid]
@[simp] theorem State.doClearGrid_cranes (s : State) : (s.doClearGrid.1).cranes = s.cranes := by simp [State.doClearGrid]
@[simp] theorem State.doClearGrid_reefer (s : State) : (s.doClearGrid.1).reefer = s.reefer := by simp [State.doClearGrid]
@[simp] theorem State.doClearGrid_notice (s : State) : (s.doClearGrid.1).notice = s.notice := by simp [State.doClearGrid]
@[simp] theorem State.doClearGrid_cmd (s : State) : (s.doClearGrid.1).cmd = s.cmd := by simp [State.doClearGrid]
@[simp] theorem State.doClearGrid_mirror (s : State) : (s.doClearGrid.1).mirror = s.mirror := by simp [State.doClearGrid]
@[simp] theorem State.doClearGrid_scratch (s : State) : (s.doClearGrid.1).scratch = s.scratch := by simp [State.doClearGrid]
@[simp] theorem State.doClearGrid_restarts (s : State) : (s.doClearGrid.1).restarts = s.restarts := by simp [State.doClearGrid]
@[simp] theorem State.doClearGrid_pending (s : State) : (s.doClearGrid.1).pending = s.pending := by simp [State.doClearGrid]

@[simp] theorem State.doSetCriteria_inReset (s : State) : (s.doSetCriteria.1).inReset = s.inReset := by unfold State.doSetCriteria; (repeat' split) <;> simp
@[simp] theorem State.doSetCriteria_cpb (s : State) : (s.doSetCriteria.1).cpb = s.cpb := by unfold State.doSetCriteria; (repeat' split) <;> simp
@[simp] theorem State.doSetCriteria_cpid (s : State) : (s.doSetCriteria.1).cpid = s.cpid := by unfold State.doSetCriteria; (repeat' split) <;> simp
@[simp] theorem State.doSetCriteria_time (s : State) : (s.doSetCriteria.1).time = s.time := by unfold State.doSetCriteria; (repeat' split) <;> simp
@[simp] theorem State.doSetCriteria_windows (s : State) : (s.doSetCriteria.1).windows = s.windows := by unfold State.doSetCriteria; (repeat' split) <;> simp
@[simp] theorem State.doSetCriteria_intake (s : State) : (s.doSetCriteria.1).intake = s.intake := by unfold State.doSetCriteria; (repeat' split) <;> simp
@[simp] theorem State.doSetCriteria_arb (s : State) : (s.doSetCriteria.1).arb = s.arb := by unfold State.doSetCriteria; (repeat' split) <;> simp
@[simp] theorem State.doSetCriteria_port (s : State) : (s.doSetCriteria.1).port = s.port := by unfold State.doSetCriteria; (repeat' split) <;> simp
@[simp] theorem State.doSetCriteria_cranes (s : State) : (s.doSetCriteria.1).cranes = s.cranes := by unfold State.doSetCriteria; (repeat' split) <;> simp
@[simp] theorem State.doSetCriteria_grid (s : State) : (s.doSetCriteria.1).grid = s.grid := by unfold State.doSetCriteria; (repeat' split) <;> simp
@[simp] theorem State.doSetCriteria_notice (s : State) : (s.doSetCriteria.1).notice = s.notice := by unfold State.doSetCriteria; (repeat' split) <;> simp
@[simp] theorem State.doSetCriteria_cmd (s : State) : (s.doSetCriteria.1).cmd = s.cmd := by unfold State.doSetCriteria; (repeat' split) <;> simp
@[simp] theorem State.doSetCriteria_mirror (s : State) : (s.doSetCriteria.1).mirror = s.mirror := by unfold State.doSetCriteria; (repeat' split) <;> simp
@[simp] theorem State.doSetCriteria_scratch (s : State) : (s.doSetCriteria.1).scratch = s.scratch := by unfold State.doSetCriteria; (repeat' split) <;> simp
@[simp] theorem State.doSetCriteria_restarts (s : State) : (s.doSetCriteria.1).restarts = s.restarts := by unfold State.doSetCriteria; (repeat' split) <;> simp
@[simp] theorem State.doSetCriteria_pending (s : State) : (s.doSetCriteria.1).pending = s.pending := by unfold State.doSetCriteria; (repeat' split) <;> simp

@[simp] theorem State.doEnrolReefer_inReset (s : State) : (s.doEnrolReefer.1).inReset = s.inReset := by unfold State.doEnrolReefer State.enrolTag; dsimp only; (repeat' split) <;> simp
@[simp] theorem State.doEnrolReefer_cpb (s : State) : (s.doEnrolReefer.1).cpb = s.cpb := by unfold State.doEnrolReefer State.enrolTag; dsimp only; (repeat' split) <;> simp
@[simp] theorem State.doEnrolReefer_cpid (s : State) : (s.doEnrolReefer.1).cpid = s.cpid := by unfold State.doEnrolReefer State.enrolTag; dsimp only; (repeat' split) <;> simp
@[simp] theorem State.doEnrolReefer_time (s : State) : (s.doEnrolReefer.1).time = s.time := by unfold State.doEnrolReefer State.enrolTag; dsimp only; (repeat' split) <;> simp
@[simp] theorem State.doEnrolReefer_windows (s : State) : (s.doEnrolReefer.1).windows = s.windows := by unfold State.doEnrolReefer State.enrolTag; dsimp only; (repeat' split) <;> simp
@[simp] theorem State.doEnrolReefer_intake (s : State) : (s.doEnrolReefer.1).intake = s.intake := by unfold State.doEnrolReefer State.enrolTag; dsimp only; (repeat' split) <;> simp
@[simp] theorem State.doEnrolReefer_port (s : State) : (s.doEnrolReefer.1).port = s.port := by unfold State.doEnrolReefer State.enrolTag; dsimp only; (repeat' split) <;> simp
@[simp] theorem State.doEnrolReefer_cranes (s : State) : (s.doEnrolReefer.1).cranes = s.cranes := by unfold State.doEnrolReefer State.enrolTag; dsimp only; (repeat' split) <;> simp
@[simp] theorem State.doEnrolReefer_grid (s : State) : (s.doEnrolReefer.1).grid = s.grid := by unfold State.doEnrolReefer State.enrolTag; dsimp only; (repeat' split) <;> simp
@[simp] theorem State.doEnrolReefer_cmd (s : State) : (s.doEnrolReefer.1).cmd = s.cmd := by unfold State.doEnrolReefer State.enrolTag; dsimp only; (repeat' split) <;> simp
@[simp] theorem State.doEnrolReefer_mirror (s : State) : (s.doEnrolReefer.1).mirror = s.mirror := by unfold State.doEnrolReefer State.enrolTag; dsimp only; (repeat' split) <;> simp
@[simp] theorem State.doEnrolReefer_restarts (s : State) : (s.doEnrolReefer.1).restarts = s.restarts := by unfold State.doEnrolReefer State.enrolTag; dsimp only; (repeat' split) <;> simp
@[simp] theorem State.doEnrolReefer_pending (s : State) : (s.doEnrolReefer.1).pending = s.pending := by unfold State.doEnrolReefer State.enrolTag; dsimp only; (repeat' split) <;> simp

@[simp] theorem State.doRemoveReefer_inReset (s : State) : (s.doRemoveReefer.1).inReset = s.inReset := by unfold State.doRemoveReefer; (repeat' split) <;> simp
@[simp] theorem State.doRemoveReefer_cpb (s : State) : (s.doRemoveReefer.1).cpb = s.cpb := by unfold State.doRemoveReefer; (repeat' split) <;> simp
@[simp] theorem State.doRemoveReefer_cpid (s : State) : (s.doRemoveReefer.1).cpid = s.cpid := by unfold State.doRemoveReefer; (repeat' split) <;> simp
@[simp] theorem State.doRemoveReefer_time (s : State) : (s.doRemoveReefer.1).time = s.time := by unfold State.doRemoveReefer; (repeat' split) <;> simp
@[simp] theorem State.doRemoveReefer_windows (s : State) : (s.doRemoveReefer.1).windows = s.windows := by unfold State.doRemoveReefer; (repeat' split) <;> simp
@[simp] theorem State.doRemoveReefer_intake (s : State) : (s.doRemoveReefer.1).intake = s.intake := by unfold State.doRemoveReefer; (repeat' split) <;> simp
@[simp] theorem State.doRemoveReefer_port (s : State) : (s.doRemoveReefer.1).port = s.port := by unfold State.doRemoveReefer; (repeat' split) <;> simp
@[simp] theorem State.doRemoveReefer_cranes (s : State) : (s.doRemoveReefer.1).cranes = s.cranes := by unfold State.doRemoveReefer; (repeat' split) <;> simp
@[simp] theorem State.doRemoveReefer_grid (s : State) : (s.doRemoveReefer.1).grid = s.grid := by unfold State.doRemoveReefer; (repeat' split) <;> simp
@[simp] theorem State.doRemoveReefer_notice (s : State) : (s.doRemoveReefer.1).notice = s.notice := by unfold State.doRemoveReefer; (repeat' split) <;> simp
@[simp] theorem State.doRemoveReefer_cmd (s : State) : (s.doRemoveReefer.1).cmd = s.cmd := by unfold State.doRemoveReefer; (repeat' split) <;> simp
@[simp] theorem State.doRemoveReefer_mirror (s : State) : (s.doRemoveReefer.1).mirror = s.mirror := by unfold State.doRemoveReefer; (repeat' split) <;> simp
@[simp] theorem State.doRemoveReefer_scratch (s : State) : (s.doRemoveReefer.1).scratch = s.scratch := by unfold State.doRemoveReefer; (repeat' split) <;> simp
@[simp] theorem State.doRemoveReefer_restarts (s : State) : (s.doRemoveReefer.1).restarts = s.restarts := by unfold State.doRemoveReefer; (repeat' split) <;> simp
@[simp] theorem State.doRemoveReefer_pending (s : State) : (s.doRemoveReefer.1).pending = s.pending := by unfold State.doRemoveReefer; (repeat' split) <;> simp

@[simp] theorem State.doSetEnrolmentMode_inReset (s : State) : (s.doSetEnrolmentMode.1).inReset = s.inReset := by unfold State.doSetEnrolmentMode; (repeat' split) <;> simp
@[simp] theorem State.doSetEnrolmentMode_cpb (s : State) : (s.doSetEnrolmentMode.1).cpb = s.cpb := by unfold State.doSetEnrolmentMode; (repeat' split) <;> simp
@[simp] theorem State.doSetEnrolmentMode_cpid (s : State) : (s.doSetEnrolmentMode.1).cpid = s.cpid := by unfold State.doSetEnrolmentMode; (repeat' split) <;> simp
@[simp] theorem State.doSetEnrolmentMode_time (s : State) : (s.doSetEnrolmentMode.1).time = s.time := by unfold State.doSetEnrolmentMode; (repeat' split) <;> simp
@[simp] theorem State.doSetEnrolmentMode_windows (s : State) : (s.doSetEnrolmentMode.1).windows = s.windows := by unfold State.doSetEnrolmentMode; (repeat' split) <;> simp
@[simp] theorem State.doSetEnrolmentMode_intake (s : State) : (s.doSetEnrolmentMode.1).intake = s.intake := by unfold State.doSetEnrolmentMode; (repeat' split) <;> simp
@[simp] theorem State.doSetEnrolmentMode_arb (s : State) : (s.doSetEnrolmentMode.1).arb = s.arb := by unfold State.doSetEnrolmentMode; (repeat' split) <;> simp
@[simp] theorem State.doSetEnrolmentMode_port (s : State) : (s.doSetEnrolmentMode.1).port = s.port := by unfold State.doSetEnrolmentMode; (repeat' split) <;> simp
@[simp] theorem State.doSetEnrolmentMode_cranes (s : State) : (s.doSetEnrolmentMode.1).cranes = s.cranes := by unfold State.doSetEnrolmentMode; (repeat' split) <;> simp
@[simp] theorem State.doSetEnrolmentMode_grid (s : State) : (s.doSetEnrolmentMode.1).grid = s.grid := by unfold State.doSetEnrolmentMode; (repeat' split) <;> simp
@[simp] theorem State.doSetEnrolmentMode_notice (s : State) : (s.doSetEnrolmentMode.1).notice = s.notice := by unfold State.doSetEnrolmentMode; (repeat' split) <;> simp
@[simp] theorem State.doSetEnrolmentMode_cmd (s : State) : (s.doSetEnrolmentMode.1).cmd = s.cmd := by unfold State.doSetEnrolmentMode; (repeat' split) <;> simp
@[simp] theorem State.doSetEnrolmentMode_mirror (s : State) : (s.doSetEnrolmentMode.1).mirror = s.mirror := by unfold State.doSetEnrolmentMode; (repeat' split) <;> simp
@[simp] theorem State.doSetEnrolmentMode_scratch (s : State) : (s.doSetEnrolmentMode.1).scratch = s.scratch := by unfold State.doSetEnrolmentMode; (repeat' split) <;> simp
@[simp] theorem State.doSetEnrolmentMode_restarts (s : State) : (s.doSetEnrolmentMode.1).restarts = s.restarts := by unfold State.doSetEnrolmentMode; (repeat' split) <;> simp
@[simp] theorem State.doSetEnrolmentMode_pending (s : State) : (s.doSetEnrolmentMode.1).pending = s.pending := by unfold State.doSetEnrolmentMode; (repeat' split) <;> simp

@[simp] theorem State.doRefreshMirror_inReset (s : State) : (s.doRefreshMirror.1).inReset = s.inReset := by unfold State.doRefreshMirror; (repeat' split) <;> simp
@[simp] theorem State.doRefreshMirror_cpb (s : State) : (s.doRefreshMirror.1).cpb = s.cpb := by unfold State.doRefreshMirror; (repeat' split) <;> simp
@[simp] theorem State.doRefreshMirror_cpid (s : State) : (s.doRefreshMirror.1).cpid = s.cpid := by unfold State.doRefreshMirror; (repeat' split) <;> simp
@[simp] theorem State.doRefreshMirror_time (s : State) : (s.doRefreshMirror.1).time = s.time := by unfold State.doRefreshMirror; (repeat' split) <;> simp
@[simp] theorem State.doRefreshMirror_windows (s : State) : (s.doRefreshMirror.1).windows = s.windows := by unfold State.doRefreshMirror; (repeat' split) <;> simp
@[simp] theorem State.doRefreshMirror_intake (s : State) : (s.doRefreshMirror.1).intake = s.intake := by unfold State.doRefreshMirror; (repeat' split) <;> simp
@[simp] theorem State.doRefreshMirror_arb (s : State) : (s.doRefreshMirror.1).arb = s.arb := by unfold State.doRefreshMirror; (repeat' split) <;> simp
@[simp] theorem State.doRefreshMirror_port (s : State) : (s.doRefreshMirror.1).port = s.port := by unfold State.doRefreshMirror; (repeat' split) <;> simp
@[simp] theorem State.doRefreshMirror_cranes (s : State) : (s.doRefreshMirror.1).cranes = s.cranes := by unfold State.doRefreshMirror; (repeat' split) <;> simp
@[simp] theorem State.doRefreshMirror_grid (s : State) : (s.doRefreshMirror.1).grid = s.grid := by unfold State.doRefreshMirror; (repeat' split) <;> simp
@[simp] theorem State.doRefreshMirror_reefer (s : State) : (s.doRefreshMirror.1).reefer = s.reefer := by unfold State.doRefreshMirror; (repeat' split) <;> simp
@[simp] theorem State.doRefreshMirror_notice (s : State) : (s.doRefreshMirror.1).notice = s.notice := by unfold State.doRefreshMirror; (repeat' split) <;> simp
@[simp] theorem State.doRefreshMirror_cmd (s : State) : (s.doRefreshMirror.1).cmd = s.cmd := by unfold State.doRefreshMirror; (repeat' split) <;> simp
@[simp] theorem State.doRefreshMirror_scratch (s : State) : (s.doRefreshMirror.1).scratch = s.scratch := by unfold State.doRefreshMirror; (repeat' split) <;> simp
@[simp] theorem State.doRefreshMirror_restarts (s : State) : (s.doRefreshMirror.1).restarts = s.restarts := by unfold State.doRefreshMirror; (repeat' split) <;> simp
@[simp] theorem State.doRefreshMirror_pending (s : State) : (s.doRefreshMirror.1).pending = s.pending := by unfold State.doRefreshMirror; (repeat' split) <;> simp

@[simp] theorem State.doSetTimeParameters_inReset (s : State) : (s.doSetTimeParameters.1).inReset = s.inReset := by unfold State.doSetTimeParameters; (repeat' split) <;> simp
@[simp] theorem State.doSetTimeParameters_cpb (s : State) : (s.doSetTimeParameters.1).cpb = s.cpb := by unfold State.doSetTimeParameters; (repeat' split) <;> simp
@[simp] theorem State.doSetTimeParameters_cpid (s : State) : (s.doSetTimeParameters.1).cpid = s.cpid := by unfold State.doSetTimeParameters; (repeat' split) <;> simp
@[simp] theorem State.doSetTimeParameters_windows (s : State) : (s.doSetTimeParameters.1).windows = s.windows := by unfold State.doSetTimeParameters; (repeat' split) <;> simp
@[simp] theorem State.doSetTimeParameters_intake (s : State) : (s.doSetTimeParameters.1).intake = s.intake := by unfold State.doSetTimeParameters; (repeat' split) <;> simp
@[simp] theorem State.doSetTimeParameters_arb (s : State) : (s.doSetTimeParameters.1).arb = s.arb := by unfold State.doSetTimeParameters; (repeat' split) <;> simp
@[simp] theorem State.doSetTimeParameters_port (s : State) : (s.doSetTimeParameters.1).port = s.port := by unfold State.doSetTimeParameters; (repeat' split) <;> simp
@[simp] theorem State.doSetTimeParameters_cranes (s : State) : (s.doSetTimeParameters.1).cranes = s.cranes := by unfold State.doSetTimeParameters; (repeat' split) <;> simp
@[simp] theorem State.doSetTimeParameters_grid (s : State) : (s.doSetTimeParameters.1).grid = s.grid := by unfold State.doSetTimeParameters; (repeat' split) <;> simp
@[simp] theorem State.doSetTimeParameters_reefer (s : State) : (s.doSetTimeParameters.1).reefer = s.reefer := by unfold State.doSetTimeParameters; (repeat' split) <;> simp
@[simp] theorem State.doSetTimeParameters_notice (s : State) : (s.doSetTimeParameters.1).notice = s.notice := by unfold State.doSetTimeParameters; (repeat' split) <;> simp
@[simp] theorem State.doSetTimeParameters_cmd (s : State) : (s.doSetTimeParameters.1).cmd = s.cmd := by unfold State.doSetTimeParameters; (repeat' split) <;> simp
@[simp] theorem State.doSetTimeParameters_mirror (s : State) : (s.doSetTimeParameters.1).mirror = s.mirror := by unfold State.doSetTimeParameters; (repeat' split) <;> simp
@[simp] theorem State.doSetTimeParameters_scratch (s : State) : (s.doSetTimeParameters.1).scratch = s.scratch := by unfold State.doSetTimeParameters; (repeat' split) <;> simp
@[simp] theorem State.doSetTimeParameters_restarts (s : State) : (s.doSetTimeParameters.1).restarts = s.restarts := by unfold State.doSetTimeParameters; (repeat' split) <;> simp
@[simp] theorem State.doSetTimeParameters_pending (s : State) : (s.doSetTimeParameters.1).pending = s.pending := by unfold State.doSetTimeParameters; (repeat' split) <;> simp

@[simp] theorem State.doStartTime_inReset (s : State) : (s.doStartTime.1).inReset = s.inReset := by unfold State.doStartTime; (repeat' split) <;> simp
@[simp] theorem State.doStartTime_cpb (s : State) : (s.doStartTime.1).cpb = s.cpb := by unfold State.doStartTime; (repeat' split) <;> simp
@[simp] theorem State.doStartTime_cpid (s : State) : (s.doStartTime.1).cpid = s.cpid := by unfold State.doStartTime; (repeat' split) <;> simp
@[simp] theorem State.doStartTime_windows (s : State) : (s.doStartTime.1).windows = s.windows := by unfold State.doStartTime; (repeat' split) <;> simp
@[simp] theorem State.doStartTime_intake (s : State) : (s.doStartTime.1).intake = s.intake := by unfold State.doStartTime; (repeat' split) <;> simp
@[simp] theorem State.doStartTime_arb (s : State) : (s.doStartTime.1).arb = s.arb := by unfold State.doStartTime; (repeat' split) <;> simp
@[simp] theorem State.doStartTime_port (s : State) : (s.doStartTime.1).port = s.port := by unfold State.doStartTime; (repeat' split) <;> simp
@[simp] theorem State.doStartTime_cranes (s : State) : (s.doStartTime.1).cranes = s.cranes := by unfold State.doStartTime; (repeat' split) <;> simp
@[simp] theorem State.doStartTime_grid (s : State) : (s.doStartTime.1).grid = s.grid := by unfold State.doStartTime; (repeat' split) <;> simp
@[simp] theorem State.doStartTime_reefer (s : State) : (s.doStartTime.1).reefer = s.reefer := by unfold State.doStartTime; (repeat' split) <;> simp
@[simp] theorem State.doStartTime_notice (s : State) : (s.doStartTime.1).notice = s.notice := by unfold State.doStartTime; (repeat' split) <;> simp
@[simp] theorem State.doStartTime_cmd (s : State) : (s.doStartTime.1).cmd = s.cmd := by unfold State.doStartTime; (repeat' split) <;> simp
@[simp] theorem State.doStartTime_mirror (s : State) : (s.doStartTime.1).mirror = s.mirror := by unfold State.doStartTime; (repeat' split) <;> simp
@[simp] theorem State.doStartTime_restarts (s : State) : (s.doStartTime.1).restarts = s.restarts := by unfold State.doStartTime; (repeat' split) <;> simp
@[simp] theorem State.doStartTime_pending (s : State) : (s.doStartTime.1).pending = s.pending := by unfold State.doStartTime; (repeat' split) <;> simp

@[simp] theorem State.doStopTime_inReset (s : State) : (s.doStopTime.1).inReset = s.inReset := by unfold State.doStopTime; (repeat' split) <;> simp
@[simp] theorem State.doStopTime_cpb (s : State) : (s.doStopTime.1).cpb = s.cpb := by unfold State.doStopTime; (repeat' split) <;> simp
@[simp] theorem State.doStopTime_cpid (s : State) : (s.doStopTime.1).cpid = s.cpid := by unfold State.doStopTime; (repeat' split) <;> simp
@[simp] theorem State.doStopTime_windows (s : State) : (s.doStopTime.1).windows = s.windows := by unfold State.doStopTime; (repeat' split) <;> simp
@[simp] theorem State.doStopTime_intake (s : State) : (s.doStopTime.1).intake = s.intake := by unfold State.doStopTime; (repeat' split) <;> simp
@[simp] theorem State.doStopTime_arb (s : State) : (s.doStopTime.1).arb = s.arb := by unfold State.doStopTime; (repeat' split) <;> simp
@[simp] theorem State.doStopTime_port (s : State) : (s.doStopTime.1).port = s.port := by unfold State.doStopTime; (repeat' split) <;> simp
@[simp] theorem State.doStopTime_cranes (s : State) : (s.doStopTime.1).cranes = s.cranes := by unfold State.doStopTime; (repeat' split) <;> simp
@[simp] theorem State.doStopTime_grid (s : State) : (s.doStopTime.1).grid = s.grid := by unfold State.doStopTime; (repeat' split) <;> simp
@[simp] theorem State.doStopTime_reefer (s : State) : (s.doStopTime.1).reefer = s.reefer := by unfold State.doStopTime; (repeat' split) <;> simp
@[simp] theorem State.doStopTime_notice (s : State) : (s.doStopTime.1).notice = s.notice := by unfold State.doStopTime; (repeat' split) <;> simp
@[simp] theorem State.doStopTime_cmd (s : State) : (s.doStopTime.1).cmd = s.cmd := by unfold State.doStopTime; (repeat' split) <;> simp
@[simp] theorem State.doStopTime_mirror (s : State) : (s.doStopTime.1).mirror = s.mirror := by unfold State.doStopTime; (repeat' split) <;> simp
@[simp] theorem State.doStopTime_restarts (s : State) : (s.doStopTime.1).restarts = s.restarts := by unfold State.doStopTime; (repeat' split) <;> simp
@[simp] theorem State.doStopTime_pending (s : State) : (s.doStopTime.1).pending = s.pending := by unfold State.doStopTime; (repeat' split) <;> simp

@[simp] theorem State.doSetNoticeEnables_inReset (s : State) : (s.doSetNoticeEnables.1).inReset = s.inReset := by unfold State.doSetNoticeEnables; (try dsimp only); (repeat' split) <;> simp
@[simp] theorem State.doSetNoticeEnables_cpb (s : State) : (s.doSetNoticeEnables.1).cpb = s.cpb := by unfold State.doSetNoticeEnables; (try dsimp only); (repeat' split) <;> simp
@[simp] theorem State.doSetNoticeEnables_cpid (s : State) : (s.doSetNoticeEnables.1).cpid = s.cpid := by unfold State.doSetNoticeEnables; (try dsimp only); (repeat' split) <;> simp
@[simp] theorem State.doSetNoticeEnables_time (s : State) : (s.doSetNoticeEnables.1).time = s.time := by unfold State.doSetNoticeEnables; (try dsimp only); (repeat' split) <;> simp
@[simp] theorem State.doSetNoticeEnables_windows (s : State) : (s.doSetNoticeEnables.1).windows = s.windows := by unfold State.doSetNoticeEnables; (try dsimp only); (repeat' split) <;> simp
@[simp] theorem State.doSetNoticeEnables_intake (s : State) : (s.doSetNoticeEnables.1).intake = s.intake := by unfold State.doSetNoticeEnables; (try dsimp only); (repeat' split) <;> simp
@[simp] theorem State.doSetNoticeEnables_arb (s : State) : (s.doSetNoticeEnables.1).arb = s.arb := by unfold State.doSetNoticeEnables; (try dsimp only); (repeat' split) <;> simp
@[simp] theorem State.doSetNoticeEnables_port (s : State) : (s.doSetNoticeEnables.1).port = s.port := by unfold State.doSetNoticeEnables; (try dsimp only); (repeat' split) <;> simp
@[simp] theorem State.doSetNoticeEnables_cranes (s : State) : (s.doSetNoticeEnables.1).cranes = s.cranes := by unfold State.doSetNoticeEnables; (try dsimp only); (repeat' split) <;> simp
@[simp] theorem State.doSetNoticeEnables_grid (s : State) : (s.doSetNoticeEnables.1).grid = s.grid := by unfold State.doSetNoticeEnables; (try dsimp only); (repeat' split) <;> simp
@[simp] theorem State.doSetNoticeEnables_reefer (s : State) : (s.doSetNoticeEnables.1).reefer = s.reefer := by unfold State.doSetNoticeEnables; (try dsimp only); (repeat' split) <;> simp
@[simp] theorem State.doSetNoticeEnables_cmd (s : State) : (s.doSetNoticeEnables.1).cmd = s.cmd := by unfold State.doSetNoticeEnables; (try dsimp only); (repeat' split) <;> simp
@[simp] theorem State.doSetNoticeEnables_mirror (s : State) : (s.doSetNoticeEnables.1).mirror = s.mirror := by unfold State.doSetNoticeEnables; (try dsimp only); (repeat' split) <;> simp
@[simp] theorem State.doSetNoticeEnables_restarts (s : State) : (s.doSetNoticeEnables.1).restarts = s.restarts := by unfold State.doSetNoticeEnables; (try dsimp only); (repeat' split) <;> simp
@[simp] theorem State.doSetNoticeEnables_pending (s : State) : (s.doSetNoticeEnables.1).pending = s.pending := by unfold State.doSetNoticeEnables; (try dsimp only); (repeat' split) <;> simp

@[simp] theorem State.doSetIrqEnables_inReset (s : State) : (s.doSetIrqEnables.1).inReset = s.inReset := by unfold State.doSetIrqEnables; (try dsimp only); (repeat' split) <;> simp
@[simp] theorem State.doSetIrqEnables_cpb (s : State) : (s.doSetIrqEnables.1).cpb = s.cpb := by unfold State.doSetIrqEnables; (try dsimp only); (repeat' split) <;> simp
@[simp] theorem State.doSetIrqEnables_cpid (s : State) : (s.doSetIrqEnables.1).cpid = s.cpid := by unfold State.doSetIrqEnables; (try dsimp only); (repeat' split) <;> simp
@[simp] theorem State.doSetIrqEnables_time (s : State) : (s.doSetIrqEnables.1).time = s.time := by unfold State.doSetIrqEnables; (try dsimp only); (repeat' split) <;> simp
@[simp] theorem State.doSetIrqEnables_windows (s : State) : (s.doSetIrqEnables.1).windows = s.windows := by unfold State.doSetIrqEnables; (try dsimp only); (repeat' split) <;> simp
@[simp] theorem State.doSetIrqEnables_intake (s : State) : (s.doSetIrqEnables.1).intake = s.intake := by unfold State.doSetIrqEnables; (try dsimp only); (repeat' split) <;> simp
@[simp] theorem State.doSetIrqEnables_arb (s : State) : (s.doSetIrqEnables.1).arb = s.arb := by unfold State.doSetIrqEnables; (try dsimp only); (repeat' split) <;> simp
@[simp] theorem State.doSetIrqEnables_port (s : State) : (s.doSetIrqEnables.1).port = s.port := by unfold State.doSetIrqEnables; (try dsimp only); (repeat' split) <;> simp
@[simp] theorem State.doSetIrqEnables_cranes (s : State) : (s.doSetIrqEnables.1).cranes = s.cranes := by unfold State.doSetIrqEnables; (try dsimp only); (repeat' split) <;> simp
@[simp] theorem State.doSetIrqEnables_grid (s : State) : (s.doSetIrqEnables.1).grid = s.grid := by unfold State.doSetIrqEnables; (try dsimp only); (repeat' split) <;> simp
@[simp] theorem State.doSetIrqEnables_reefer (s : State) : (s.doSetIrqEnables.1).reefer = s.reefer := by unfold State.doSetIrqEnables; (try dsimp only); (repeat' split) <;> simp
@[simp] theorem State.doSetIrqEnables_cmd (s : State) : (s.doSetIrqEnables.1).cmd = s.cmd := by unfold State.doSetIrqEnables; (try dsimp only); (repeat' split) <;> simp
@[simp] theorem State.doSetIrqEnables_mirror (s : State) : (s.doSetIrqEnables.1).mirror = s.mirror := by unfold State.doSetIrqEnables; (try dsimp only); (repeat' split) <;> simp
@[simp] theorem State.doSetIrqEnables_restarts (s : State) : (s.doSetIrqEnables.1).restarts = s.restarts := by unfold State.doSetIrqEnables; (try dsimp only); (repeat' split) <;> simp
@[simp] theorem State.doSetIrqEnables_pending (s : State) : (s.doSetIrqEnables.1).pending = s.pending := by unfold State.doSetIrqEnables; (try dsimp only); (repeat' split) <;> simp

@[simp] theorem State.doClearFlags_inReset (s : State) : (s.doClearFlags.1).inReset = s.inReset := by unfold State.doClearFlags; (try dsimp only); (repeat' split) <;> simp
@[simp] theorem State.doClearFlags_cpb (s : State) : (s.doClearFlags.1).cpb = s.cpb := by unfold State.doClearFlags; (try dsimp only); (repeat' split) <;> simp
@[simp] theorem State.doClearFlags_cpid (s : State) : (s.doClearFlags.1).cpid = s.cpid := by unfold State.doClearFlags; (try dsimp only); (repeat' split) <;> simp
@[simp] theorem State.doClearFlags_time (s : State) : (s.doClearFlags.1).time = s.time := by unfold State.doClearFlags; (try dsimp only); (repeat' split) <;> simp
@[simp] theorem State.doClearFlags_windows (s : State) : (s.doClearFlags.1).windows = s.windows := by unfold State.doClearFlags; (try dsimp only); (repeat' split) <;> simp
@[simp] theorem State.doClearFlags_intake (s : State) : (s.doClearFlags.1).intake = s.intake := by unfold State.doClearFlags; (try dsimp only); (repeat' split) <;> simp
@[simp] theorem State.doClearFlags_arb (s : State) : (s.doClearFlags.1).arb = s.arb := by unfold State.doClearFlags; (try dsimp only); (repeat' split) <;> simp
@[simp] theorem State.doClearFlags_port (s : State) : (s.doClearFlags.1).port = s.port := by unfold State.doClearFlags; (try dsimp only); (repeat' split) <;> simp
@[simp] theorem State.doClearFlags_cranes (s : State) : (s.doClearFlags.1).cranes = s.cranes := by unfold State.doClearFlags; (try dsimp only); (repeat' split) <;> simp
@[simp] theorem State.doClearFlags_grid (s : State) : (s.doClearFlags.1).grid = s.grid := by unfold State.doClearFlags; (try dsimp only); (repeat' split) <;> simp
@[simp] theorem State.doClearFlags_reefer (s : State) : (s.doClearFlags.1).reefer = s.reefer := by unfold State.doClearFlags; (try dsimp only); (repeat' split) <;> simp
@[simp] theorem State.doClearFlags_cmd (s : State) : (s.doClearFlags.1).cmd = s.cmd := by unfold State.doClearFlags; (try dsimp only); (repeat' split) <;> simp
@[simp] theorem State.doClearFlags_mirror (s : State) : (s.doClearFlags.1).mirror = s.mirror := by unfold State.doClearFlags; (try dsimp only); (repeat' split) <;> simp
@[simp] theorem State.doClearFlags_restarts (s : State) : (s.doClearFlags.1).restarts = s.restarts := by unfold State.doClearFlags; (try dsimp only); (repeat' split) <;> simp
@[simp] theorem State.doClearFlags_pending (s : State) : (s.doClearFlags.1).pending = s.pending := by unfold State.doClearFlags; (try dsimp only); (repeat' split) <;> simp

@[simp] theorem State.doReadCounters_inReset (s : State) : (s.doReadCounters.1).inReset = s.inReset := by simp [State.doReadCounters]
@[simp] theorem State.doReadCounters_cpb (s : State) : (s.doReadCounters.1).cpb = s.cpb := by simp [State.doReadCounters]
@[simp] theorem State.doReadCounters_cpid (s : State) : (s.doReadCounters.1).cpid = s.cpid := by simp [State.doReadCounters]
@[simp] theorem State.doReadCounters_time (s : State) : (s.doReadCounters.1).time = s.time := by simp [State.doReadCounters]
@[simp] theorem State.doReadCounters_windows (s : State) : (s.doReadCounters.1).windows = s.windows := by simp [State.doReadCounters]
@[simp] theorem State.doReadCounters_intake (s : State) : (s.doReadCounters.1).intake = s.intake := by simp [State.doReadCounters]
@[simp] theorem State.doReadCounters_port (s : State) : (s.doReadCounters.1).port = s.port := by simp [State.doReadCounters]
@[simp] theorem State.doReadCounters_cranes (s : State) : (s.doReadCounters.1).cranes = s.cranes := by simp [State.doReadCounters]
@[simp] theorem State.doReadCounters_grid (s : State) : (s.doReadCounters.1).grid = s.grid := by simp [State.doReadCounters]
@[simp] theorem State.doReadCounters_reefer (s : State) : (s.doReadCounters.1).reefer = s.reefer := by simp [State.doReadCounters]
@[simp] theorem State.doReadCounters_notice (s : State) : (s.doReadCounters.1).notice = s.notice := by simp [State.doReadCounters]
@[simp] theorem State.doReadCounters_cmd (s : State) : (s.doReadCounters.1).cmd = s.cmd := by simp [State.doReadCounters]
@[simp] theorem State.doReadCounters_mirror (s : State) : (s.doReadCounters.1).mirror = s.mirror := by simp [State.doReadCounters]
@[simp] theorem State.doReadCounters_scratch (s : State) : (s.doReadCounters.1).scratch = s.scratch := by simp [State.doReadCounters]
@[simp] theorem State.doReadCounters_restarts (s : State) : (s.doReadCounters.1).restarts = s.restarts := by simp [State.doReadCounters]
@[simp] theorem State.doReadCounters_pending (s : State) : (s.doReadCounters.1).pending = s.pending := by simp [State.doReadCounters]

@[simp] theorem State.doClearCounters_inReset (s : State) : (s.doClearCounters.1).inReset = s.inReset := by simp [State.doClearCounters]
@[simp] theorem State.doClearCounters_cpb (s : State) : (s.doClearCounters.1).cpb = s.cpb := by simp [State.doClearCounters]
@[simp] theorem State.doClearCounters_cpid (s : State) : (s.doClearCounters.1).cpid = s.cpid := by simp [State.doClearCounters]
@[simp] theorem State.doClearCounters_time (s : State) : (s.doClearCounters.1).time = s.time := by simp [State.doClearCounters]
@[simp] theorem State.doClearCounters_arb (s : State) : (s.doClearCounters.1).arb = s.arb := by simp [State.doClearCounters]
@[simp] theorem State.doClearCounters_port (s : State) : (s.doClearCounters.1).port = s.port := by simp [State.doClearCounters]
@[simp] theorem State.doClearCounters_cranes (s : State) : (s.doClearCounters.1).cranes = s.cranes := by simp [State.doClearCounters]
@[simp] theorem State.doClearCounters_notice (s : State) : (s.doClearCounters.1).notice = s.notice := by simp [State.doClearCounters]
@[simp] theorem State.doClearCounters_cmd (s : State) : (s.doClearCounters.1).cmd = s.cmd := by simp [State.doClearCounters]
@[simp] theorem State.doClearCounters_mirror (s : State) : (s.doClearCounters.1).mirror = s.mirror := by simp [State.doClearCounters]
@[simp] theorem State.doClearCounters_scratch (s : State) : (s.doClearCounters.1).scratch = s.scratch := by simp [State.doClearCounters]
@[simp] theorem State.doClearCounters_restarts (s : State) : (s.doClearCounters.1).restarts = s.restarts := by simp [State.doClearCounters]
@[simp] theorem State.doClearCounters_pending (s : State) : (s.doClearCounters.1).pending = s.pending := by simp [State.doClearCounters]

@[simp] theorem State.restartMirrors_inReset (s : State) : (s.restartMirrors).inReset = s.inReset := by
  unfold State.restartMirrors
  generalize List.finRange 16 = l
  induction l generalizing s with
  | nil => rfl
  | cons i l ih => rw [List.foldl_cons, ih]; split <;> simp
@[simp] theorem State.restartMirrors_cpb (s : State) : (s.restartMirrors).cpb = s.cpb := by
  unfold State.restartMirrors
  generalize List.finRange 16 = l
  induction l generalizing s with
  | nil => rfl
  | cons i l ih => rw [List.foldl_cons, ih]; split <;> simp
@[simp] theorem State.restartMirrors_cpid (s : State) : (s.restartMirrors).cpid = s.cpid := by
  unfold State.restartMirrors
  generalize List.finRange 16 = l
  induction l generalizing s with
  | nil => rfl
  | cons i l ih => rw [List.foldl_cons, ih]; split <;> simp
@[simp] theorem State.restartMirrors_time (s : State) : (s.restartMirrors).time = s.time := by
  unfold State.restartMirrors
  generalize List.finRange 16 = l
  induction l generalizing s with
  | nil => rfl
  | cons i l ih => rw [List.foldl_cons, ih]; split <;> simp
@[simp] theorem State.restartMirrors_windows (s : State) : (s.restartMirrors).windows = s.windows := by
  unfold State.restartMirrors
  generalize List.finRange 16 = l
  induction l generalizing s with
  | nil => rfl
  | cons i l ih => rw [List.foldl_cons, ih]; split <;> simp
@[simp] theorem State.restartMirrors_intake (s : State) : (s.restartMirrors).intake = s.intake := by
  unfold State.restartMirrors
  generalize List.finRange 16 = l
  induction l generalizing s with
  | nil => rfl
  | cons i l ih => rw [List.foldl_cons, ih]; split <;> simp
@[simp] theorem State.restartMirrors_port (s : State) : (s.restartMirrors).port = s.port := by
  unfold State.restartMirrors
  generalize List.finRange 16 = l
  induction l generalizing s with
  | nil => rfl
  | cons i l ih => rw [List.foldl_cons, ih]; split <;> simp
@[simp] theorem State.restartMirrors_cranes (s : State) : (s.restartMirrors).cranes = s.cranes := by
  unfold State.restartMirrors
  generalize List.finRange 16 = l
  induction l generalizing s with
  | nil => rfl
  | cons i l ih => rw [List.foldl_cons, ih]; split <;> simp
@[simp] theorem State.restartMirrors_grid (s : State) : (s.restartMirrors).grid = s.grid := by
  unfold State.restartMirrors
  generalize List.finRange 16 = l
  induction l generalizing s with
  | nil => rfl
  | cons i l ih => rw [List.foldl_cons, ih]; split <;> simp
@[simp] theorem State.restartMirrors_reefer (s : State) : (s.restartMirrors).reefer = s.reefer := by
  unfold State.restartMirrors
  generalize List.finRange 16 = l
  induction l generalizing s with
  | nil => rfl
  | cons i l ih => rw [List.foldl_cons, ih]; split <;> simp
@[simp] theorem State.restartMirrors_notice (s : State) : (s.restartMirrors).notice = s.notice := by
  unfold State.restartMirrors
  generalize List.finRange 16 = l
  induction l generalizing s with
  | nil => rfl
  | cons i l ih => rw [List.foldl_cons, ih]; split <;> simp
@[simp] theorem State.restartMirrors_cmd (s : State) : (s.restartMirrors).cmd = s.cmd := by
  unfold State.restartMirrors
  generalize List.finRange 16 = l
  induction l generalizing s with
  | nil => rfl
  | cons i l ih => rw [List.foldl_cons, ih]; split <;> simp
@[simp] theorem State.restartMirrors_mirror (s : State) : (s.restartMirrors).mirror = s.mirror := by
  unfold State.restartMirrors
  generalize List.finRange 16 = l
  induction l generalizing s with
  | nil => rfl
  | cons i l ih => rw [List.foldl_cons, ih]; split <;> simp
@[simp] theorem State.restartMirrors_restarts (s : State) : (s.restartMirrors).restarts = s.restarts := by
  unfold State.restartMirrors
  generalize List.finRange 16 = l
  induction l generalizing s with
  | nil => rfl
  | cons i l ih => rw [List.foldl_cons, ih]; split <;> simp
@[simp] theorem State.restartMirrors_pending (s : State) : (s.restartMirrors).pending = s.pending := by
  unfold State.restartMirrors
  generalize List.finRange 16 = l
  induction l generalizing s with
  | nil => rfl
  | cons i l ih => rw [List.foldl_cons, ih]; split <;> simp

@[simp] theorem State.restartBlocks_inReset (s : State) : (s.restartBlocks).inReset = s.inReset := by simp [State.restartBlocks]
@[simp] theorem State.restartBlocks_cpb (s : State) : (s.restartBlocks).cpb = s.cpb := by simp [State.restartBlocks]
@[simp] theorem State.restartBlocks_cpid (s : State) : (s.restartBlocks).cpid = s.cpid := by simp [State.restartBlocks]
@[simp] theorem State.restartBlocks_port (s : State) : (s.restartBlocks).port = s.port := by simp [State.restartBlocks]
@[simp] theorem State.restartBlocks_cmd (s : State) : (s.restartBlocks).cmd = s.cmd := by simp [State.restartBlocks]
@[simp] theorem State.restartBlocks_restarts (s : State) : (s.restartBlocks).restarts = s.restarts := by simp [State.restartBlocks]
@[simp] theorem State.restartBlocks_pending (s : State) : (s.restartBlocks).pending = s.pending := by simp [State.restartBlocks]

@[simp] theorem State.abortLong_inReset (s : State) : (s.abortLong).inReset = s.inReset := by unfold State.abortLong; split <;> simp
@[simp] theorem State.abortLong_cpb (s : State) : (s.abortLong).cpb = s.cpb := by unfold State.abortLong; split <;> simp
@[simp] theorem State.abortLong_cpid (s : State) : (s.abortLong).cpid = s.cpid := by unfold State.abortLong; split <;> simp
@[simp] theorem State.abortLong_time (s : State) : (s.abortLong).time = s.time := by unfold State.abortLong; split <;> simp
@[simp] theorem State.abortLong_windows (s : State) : (s.abortLong).windows = s.windows := by unfold State.abortLong; split <;> simp
@[simp] theorem State.abortLong_intake (s : State) : (s.abortLong).intake = s.intake := by unfold State.abortLong; split <;> simp
@[simp] theorem State.abortLong_port (s : State) : (s.abortLong).port = s.port := by unfold State.abortLong; split <;> simp
@[simp] theorem State.abortLong_cranes (s : State) : (s.abortLong).cranes = s.cranes := by unfold State.abortLong; split <;> simp
@[simp] theorem State.abortLong_grid (s : State) : (s.abortLong).grid = s.grid := by unfold State.abortLong; split <;> simp
@[simp] theorem State.abortLong_reefer (s : State) : (s.abortLong).reefer = s.reefer := by unfold State.abortLong; split <;> simp
@[simp] theorem State.abortLong_notice (s : State) : (s.abortLong).notice = s.notice := by unfold State.abortLong; split <;> simp
@[simp] theorem State.abortLong_mirror (s : State) : (s.abortLong).mirror = s.mirror := by unfold State.abortLong; split <;> simp
@[simp] theorem State.abortLong_restarts (s : State) : (s.abortLong).restarts = s.restarts := by unfold State.abortLong; split <;> simp
@[simp] theorem State.abortLong_pending (s : State) : (s.abortLong).pending = s.pending := by unfold State.abortLong; split <;> simp

@[simp] theorem State.doRestart_inReset (s : State) : (s.doRestart.1).inReset = s.inReset := by simp [State.doRestart]
@[simp] theorem State.doRestart_cpb (s : State) : (s.doRestart.1).cpb = s.cpb := by simp [State.doRestart]
@[simp] theorem State.doRestart_cpid (s : State) : (s.doRestart.1).cpid = s.cpid := by simp [State.doRestart]
@[simp] theorem State.doRestart_port (s : State) : (s.doRestart.1).port = s.port := by simp [State.doRestart]
@[simp] theorem State.doRestart_restarts (s : State) : (s.doRestart.1).restarts = s.restarts := by simp [State.doRestart]
@[simp] theorem State.doRestart_pending (s : State) : (s.doRestart.1).pending = s.pending := by simp [State.doRestart]

/-! ## Time passing -/

/-- What one microsecond does: local time rises by 1 up to its maximum, and at a millisecond boundary S takes its step (R1, R12). -/
theorem TimeBase.tick_cases (t : TimeBase) :
    (min (t.lt + 1) ltMax % 1000 ≠ 0 ∧ t.tick = { t with lt := min (t.lt + 1) ltMax }) ∨
      (min (t.lt + 1) ltMax % 1000 = 0 ∧ t.tick = { t with
        lt := min (t.lt + 1) ltMax, oc := clamp64 (t.oc + t.slew.sign), slew := t.slew - t.slew.sign }) := by
  unfold TimeBase.tick TimeBase.slewed
  by_cases h : min (t.lt + 1) ltMax % 1000 = 0
  · exact .inr ⟨h, by simp [h]⟩
  · exact .inl ⟨h, by simp [h]⟩

@[simp] theorem TimeBase.tick_lt (t : TimeBase) : t.tick.lt = min (t.lt + 1) ltMax := by
  obtain ⟨-, h⟩ | ⟨-, h⟩ := t.tick_cases <;> rw [h]

@[simp] theorem TimeBase.tick_sync (t : TimeBase) : t.tick.sync = t.sync := by
  obtain ⟨-, h⟩ | ⟨-, h⟩ := t.tick_cases <;> rw [h]

/-! ## Records in hand at RESTART -/

/-- No record is in hand from an empty queue. -/
@[simp] theorem handOf_nil (draw unit : Nat) : handOf draw unit [] = none := (rfl)

/-- A record in hand is the oldest of its queue. -/
theorem handOf_head {draw unit : Nat} {q : List QueueEntry} {e : QueueEntry} (h : handOf draw unit q = some e) :
    q.head? = some e := by
  cases q with
  | nil => cases h
  | cons x q => unfold handOf at h; split at h <;> simp_all

@[simp] theorem State.pickUp_inReset (s : State) (h : InHand) : (s.pickUp h).inReset = s.inReset := by
  unfold State.pickUp
  generalize hl : (h.uplink.toList ++ h.measure.toList ++ h.reefer.toList ++ h.time.toList) = l
  generalize hu : s.setIntake _ = u
  have : ∀ (l : List QueueEntry) (u : State), (l.foldl State.countTaken u).inReset = u.inReset := by
    intro l
    induction l with
    | nil => intro u; rfl
    | cons e l ih => intro u; rw [List.foldl_cons, ih]; simp
  rw [this, ← hu]; rfl
@[simp] theorem State.pickUp_cpb (s : State) (h : InHand) : (s.pickUp h).cpb = s.cpb := by
  unfold State.pickUp
  generalize hl : (h.uplink.toList ++ h.measure.toList ++ h.reefer.toList ++ h.time.toList) = l
  generalize hu : s.setIntake _ = u
  have : ∀ (l : List QueueEntry) (u : State), (l.foldl State.countTaken u).cpb = u.cpb := by
    intro l
    induction l with
    | nil => intro u; rfl
    | cons e l ih => intro u; rw [List.foldl_cons, ih]; simp
  rw [this, ← hu]; rfl
@[simp] theorem State.pickUp_cpid (s : State) (h : InHand) : (s.pickUp h).cpid = s.cpid := by
  unfold State.pickUp
  generalize hl : (h.uplink.toList ++ h.measure.toList ++ h.reefer.toList ++ h.time.toList) = l
  generalize hu : s.setIntake _ = u
  have : ∀ (l : List QueueEntry) (u : State), (l.foldl State.countTaken u).cpid = u.cpid := by
    intro l
    induction l with
    | nil => intro u; rfl
    | cons e l ih => intro u; rw [List.foldl_cons, ih]; simp
  rw [this, ← hu]; rfl
@[simp] theorem State.pickUp_time (s : State) (h : InHand) : (s.pickUp h).time = s.time := by
  unfold State.pickUp
  generalize hl : (h.uplink.toList ++ h.measure.toList ++ h.reefer.toList ++ h.time.toList) = l
  generalize hu : s.setIntake _ = u
  have : ∀ (l : List QueueEntry) (u : State), (l.foldl State.countTaken u).time = u.time := by
    intro l
    induction l with
    | nil => intro u; rfl
    | cons e l ih => intro u; rw [List.foldl_cons, ih]; simp
  rw [this, ← hu]; rfl
@[simp] theorem State.pickUp_arb (s : State) (h : InHand) : (s.pickUp h).arb = s.arb := by
  unfold State.pickUp
  generalize hl : (h.uplink.toList ++ h.measure.toList ++ h.reefer.toList ++ h.time.toList) = l
  generalize hu : s.setIntake _ = u
  have : ∀ (l : List QueueEntry) (u : State), (l.foldl State.countTaken u).arb = u.arb := by
    intro l
    induction l with
    | nil => intro u; rfl
    | cons e l ih => intro u; rw [List.foldl_cons, ih]; simp
  rw [this, ← hu]; rfl
@[simp] theorem State.pickUp_port (s : State) (h : InHand) : (s.pickUp h).port = s.port := by
  unfold State.pickUp
  generalize hl : (h.uplink.toList ++ h.measure.toList ++ h.reefer.toList ++ h.time.toList) = l
  generalize hu : s.setIntake _ = u
  have : ∀ (l : List QueueEntry) (u : State), (l.foldl State.countTaken u).port = u.port := by
    intro l
    induction l with
    | nil => intro u; rfl
    | cons e l ih => intro u; rw [List.foldl_cons, ih]; simp
  rw [this, ← hu]; rfl
@[simp] theorem State.pickUp_cranes (s : State) (h : InHand) : (s.pickUp h).cranes = s.cranes := by
  unfold State.pickUp
  generalize hl : (h.uplink.toList ++ h.measure.toList ++ h.reefer.toList ++ h.time.toList) = l
  generalize hu : s.setIntake _ = u
  have : ∀ (l : List QueueEntry) (u : State), (l.foldl State.countTaken u).cranes = u.cranes := by
    intro l
    induction l with
    | nil => intro u; rfl
    | cons e l ih => intro u; rw [List.foldl_cons, ih]; simp
  rw [this, ← hu]; rfl
@[simp] theorem State.pickUp_grid (s : State) (h : InHand) : (s.pickUp h).grid = s.grid := by
  unfold State.pickUp
  generalize hl : (h.uplink.toList ++ h.measure.toList ++ h.reefer.toList ++ h.time.toList) = l
  generalize hu : s.setIntake _ = u
  have : ∀ (l : List QueueEntry) (u : State), (l.foldl State.countTaken u).grid = u.grid := by
    intro l
    induction l with
    | nil => intro u; rfl
    | cons e l ih => intro u; rw [List.foldl_cons, ih]; simp
  rw [this, ← hu]; rfl
@[simp] theorem State.pickUp_reefer (s : State) (h : InHand) : (s.pickUp h).reefer = s.reefer := by
  unfold State.pickUp
  generalize hl : (h.uplink.toList ++ h.measure.toList ++ h.reefer.toList ++ h.time.toList) = l
  generalize hu : s.setIntake _ = u
  have : ∀ (l : List QueueEntry) (u : State), (l.foldl State.countTaken u).reefer = u.reefer := by
    intro l
    induction l with
    | nil => intro u; rfl
    | cons e l ih => intro u; rw [List.foldl_cons, ih]; simp
  rw [this, ← hu]; rfl
@[simp] theorem State.pickUp_notice (s : State) (h : InHand) : (s.pickUp h).notice = s.notice := by
  unfold State.pickUp
  generalize hl : (h.uplink.toList ++ h.measure.toList ++ h.reefer.toList ++ h.time.toList) = l
  generalize hu : s.setIntake _ = u
  have : ∀ (l : List QueueEntry) (u : State), (l.foldl State.countTaken u).notice = u.notice := by
    intro l
    induction l with
    | nil => intro u; rfl
    | cons e l ih => intro u; rw [List.foldl_cons, ih]; simp
  rw [this, ← hu]; rfl
@[simp] theorem State.pickUp_cmd (s : State) (h : InHand) : (s.pickUp h).cmd = s.cmd := by
  unfold State.pickUp
  generalize hl : (h.uplink.toList ++ h.measure.toList ++ h.reefer.toList ++ h.time.toList) = l
  generalize hu : s.setIntake _ = u
  have : ∀ (l : List QueueEntry) (u : State), (l.foldl State.countTaken u).cmd = u.cmd := by
    intro l
    induction l with
    | nil => intro u; rfl
    | cons e l ih => intro u; rw [List.foldl_cons, ih]; simp
  rw [this, ← hu]; rfl
@[simp] theorem State.pickUp_mirror (s : State) (h : InHand) : (s.pickUp h).mirror = s.mirror := by
  unfold State.pickUp
  generalize hl : (h.uplink.toList ++ h.measure.toList ++ h.reefer.toList ++ h.time.toList) = l
  generalize hu : s.setIntake _ = u
  have : ∀ (l : List QueueEntry) (u : State), (l.foldl State.countTaken u).mirror = u.mirror := by
    intro l
    induction l with
    | nil => intro u; rfl
    | cons e l ih => intro u; rw [List.foldl_cons, ih]; simp
  rw [this, ← hu]; rfl
@[simp] theorem State.pickUp_scratch (s : State) (h : InHand) : (s.pickUp h).scratch = s.scratch := by
  unfold State.pickUp
  generalize hl : (h.uplink.toList ++ h.measure.toList ++ h.reefer.toList ++ h.time.toList) = l
  generalize hu : s.setIntake _ = u
  have : ∀ (l : List QueueEntry) (u : State), (l.foldl State.countTaken u).scratch = u.scratch := by
    intro l
    induction l with
    | nil => intro u; rfl
    | cons e l ih => intro u; rw [List.foldl_cons, ih]; simp
  rw [this, ← hu]; rfl
@[simp] theorem State.pickUp_restarts (s : State) (h : InHand) : (s.pickUp h).restarts = s.restarts := by
  unfold State.pickUp
  generalize hl : (h.uplink.toList ++ h.measure.toList ++ h.reefer.toList ++ h.time.toList) = l
  generalize hu : s.setIntake _ = u
  have : ∀ (l : List QueueEntry) (u : State), (l.foldl State.countTaken u).restarts = u.restarts := by
    intro l
    induction l with
    | nil => intro u; rfl
    | cons e l ih => intro u; rw [List.foldl_cons, ih]; simp
  rw [this, ← hu]; rfl
@[simp] theorem State.pickUp_pending (s : State) (h : InHand) : (s.pickUp h).pending = s.pending := by
  unfold State.pickUp
  generalize hl : (h.uplink.toList ++ h.measure.toList ++ h.reefer.toList ++ h.time.toList) = l
  generalize hu : s.setIntake _ = u
  have : ∀ (l : List QueueEntry) (u : State), (l.foldl State.countTaken u).pending = u.pending := by
    intro l
    induction l with
    | nil => intro u; rfl
    | cons e l ih => intro u; rw [List.foldl_cons, ih]; simp
  rw [this, ← hu]; rfl

theorem State.handleLater_inReset (s : State) (k : Work) (h : Option QueueEntry) (f : State → List Byte → Nat → State) (hf : ∀ u l a, (f u l a).inReset = u.inReset) : (s.handleLater k h f).inReset = s.inReset := by
  unfold State.handleLater; split <;> simp [hf]
theorem State.handleLater_cpb (s : State) (k : Work) (h : Option QueueEntry) (f : State → List Byte → Nat → State) (hf : ∀ u l a, (f u l a).cpb = u.cpb) : (s.handleLater k h f).cpb = s.cpb := by
  unfold State.handleLater; split <;> simp [hf]
theorem State.handleLater_cpid (s : State) (k : Work) (h : Option QueueEntry) (f : State → List Byte → Nat → State) (hf : ∀ u l a, (f u l a).cpid = u.cpid) : (s.handleLater k h f).cpid = s.cpid := by
  unfold State.handleLater; split <;> simp [hf]
theorem State.handleLater_time (s : State) (k : Work) (h : Option QueueEntry) (f : State → List Byte → Nat → State) (hf : ∀ u l a, (f u l a).time = u.time) : (s.handleLater k h f).time = s.time := by
  unfold State.handleLater; split <;> simp [hf]
theorem State.handleLater_windows (s : State) (k : Work) (h : Option QueueEntry) (f : State → List Byte → Nat → State) (hf : ∀ u l a, (f u l a).windows = u.windows) : (s.handleLater k h f).windows = s.windows := by
  unfold State.handleLater; split <;> simp [hf]
theorem State.handleLater_intake (s : State) (k : Work) (h : Option QueueEntry) (f : State → List Byte → Nat → State) (hf : ∀ u l a, (f u l a).intake = u.intake) : (s.handleLater k h f).intake = s.intake := by
  unfold State.handleLater; split <;> simp [hf]
theorem State.handleLater_port (s : State) (k : Work) (h : Option QueueEntry) (f : State → List Byte → Nat → State) (hf : ∀ u l a, (f u l a).port = u.port) : (s.handleLater k h f).port = s.port := by
  unfold State.handleLater; split <;> simp [hf]
theorem State.handleLater_cranes (s : State) (k : Work) (h : Option QueueEntry) (f : State → List Byte → Nat → State) (hf : ∀ u l a, (f u l a).cranes = u.cranes) : (s.handleLater k h f).cranes = s.cranes := by
  unfold State.handleLater; split <;> simp [hf]
theorem State.handleLater_grid (s : State) (k : Work) (h : Option QueueEntry) (f : State → List Byte → Nat → State) (hf : ∀ u l a, (f u l a).grid = u.grid) : (s.handleLater k h f).grid = s.grid := by
  unfold State.handleLater; split <;> simp [hf]
theorem State.handleLater_reefer (s : State) (k : Work) (h : Option QueueEntry) (f : State → List Byte → Nat → State) (hf : ∀ u l a, (f u l a).reefer = u.reefer) : (s.handleLater k h f).reefer = s.reefer := by
  unfold State.handleLater; split <;> simp [hf]
theorem State.handleLater_cmd (s : State) (k : Work) (h : Option QueueEntry) (f : State → List Byte → Nat → State) (hf : ∀ u l a, (f u l a).cmd = u.cmd) : (s.handleLater k h f).cmd = s.cmd := by
  unfold State.handleLater; split <;> simp [hf]
theorem State.handleLater_mirror (s : State) (k : Work) (h : Option QueueEntry) (f : State → List Byte → Nat → State) (hf : ∀ u l a, (f u l a).mirror = u.mirror) : (s.handleLater k h f).mirror = s.mirror := by
  unfold State.handleLater; split <;> simp [hf]
theorem State.handleLater_restarts (s : State) (k : Work) (h : Option QueueEntry) (f : State → List Byte → Nat → State) (hf : ∀ u l a, (f u l a).restarts = u.restarts) : (s.handleLater k h f).restarts = s.restarts := by
  unfold State.handleLater; split <;> simp [hf]
theorem State.handleLater_pending (s : State) (k : Work) (h : Option QueueEntry) (f : State → List Byte → Nat → State) (hf : ∀ u l a, (f u l a).pending = u.pending) : (s.handleLater k h f).pending = s.pending := by
  unfold State.handleLater; split <;> simp [hf]

@[simp] theorem State.handleInHand_inReset (s : State) (h : InHand) : (s.handleInHand h).inReset = s.inReset := by
  unfold State.handleInHand
  rw [State.handleLater_inReset, State.handleLater_inReset, State.handleLater_inReset] <;> simp
@[simp] theorem State.handleInHand_cpb (s : State) (h : InHand) : (s.handleInHand h).cpb = s.cpb := by
  unfold State.handleInHand
  rw [State.handleLater_cpb, State.handleLater_cpb, State.handleLater_cpb] <;> simp
@[simp] theorem State.handleInHand_cpid (s : State) (h : InHand) : (s.handleInHand h).cpid = s.cpid := by
  unfold State.handleInHand
  rw [State.handleLater_cpid, State.handleLater_cpid, State.handleLater_cpid] <;> simp
@[simp] theorem State.handleInHand_windows (s : State) (h : InHand) : (s.handleInHand h).windows = s.windows := by
  unfold State.handleInHand
  rw [State.handleLater_windows, State.handleLater_windows, State.handleLater_windows] <;> simp
@[simp] theorem State.handleInHand_intake (s : State) (h : InHand) : (s.handleInHand h).intake = s.intake := by
  unfold State.handleInHand
  rw [State.handleLater_intake, State.handleLater_intake, State.handleLater_intake] <;> simp
@[simp] theorem State.handleInHand_port (s : State) (h : InHand) : (s.handleInHand h).port = s.port := by
  unfold State.handleInHand
  rw [State.handleLater_port, State.handleLater_port, State.handleLater_port] <;> simp
@[simp] theorem State.handleInHand_cmd (s : State) (h : InHand) : (s.handleInHand h).cmd = s.cmd := by
  unfold State.handleInHand
  rw [State.handleLater_cmd, State.handleLater_cmd, State.handleLater_cmd] <;> simp
@[simp] theorem State.handleInHand_mirror (s : State) (h : InHand) : (s.handleInHand h).mirror = s.mirror := by
  unfold State.handleInHand
  rw [State.handleLater_mirror, State.handleLater_mirror, State.handleLater_mirror] <;> simp
@[simp] theorem State.handleInHand_restarts (s : State) (h : InHand) : (s.handleInHand h).restarts = s.restarts := by
  unfold State.handleInHand
  rw [State.handleLater_restarts, State.handleLater_restarts, State.handleLater_restarts] <;> simp
@[simp] theorem State.handleInHand_pending (s : State) (h : InHand) : (s.handleInHand h).pending = s.pending := by
  unfold State.handleInHand
  rw [State.handleLater_pending, State.handleLater_pending, State.handleLater_pending] <;> simp

end Sys2Proof.Machine
end

