-- ==== Sys2Proof/Tests/Slice0.lean ====
section
/-! SUPPORT. Tests with results from the spec's worked cases and rules, and, for each statement with hypotheses, a state and operands
that meet them all. -/

namespace Sys2Proof.Tests

set_option Elab.async false

open Sys2Proof.Machine

/-! ## Small states -/

/-- `n` bytes that start with `l`. -/
def padded (n : Nat) (l : List Byte) : Vector Byte n := Vector.ofFn fun i => l.getD i.val 0

/-- `s` with the command of a code and its first arguments offered, with tag 1. -/
def offered (s : State) (code : Nat) (args : List Nat) : State :=
  { s with cmd := { s.cmd with recordCopy := padded 64 ((code :: args).flatMap (leBytes 4)), tagCopy := padded 4 [1],
                               offerMark := true } }

/-- The next state's answer to a question, or false for a fault or a refusal. -/
def nextIs (c : Instr) (s : State) (p : State → Bool) : Bool :=
  match exec c s with
  | .next t => p t
  | _ => false

/-- An in-use window of 4 KiB at address 0x1000_0000 that permits every master. -/
def windowOf (k : WindowKind) : Window :=
  { Window.cleared with inUse := true, kind := some k, base := 0x10000000, size := 4096, writers := 0xFFFFFFFFFFFFFFFF#64 }

/-- The reset state with the window at index 0, and straps that put the page elsewhere. -/
def withWindow (w : Window) : State := { State.reset with cpb := 0x20, cpid := 5, windows := upd State.reset.windows 0 w }

/-- A write of bytes with every strobe set. -/
def allOn (l : List Byte) : List Lane := l.map fun b => ⟨b, true⟩

/-- Crane parameters, with a degrade threshold of 1. -/
def craneParams : CraneParams :=
  { craneId := 7, cadence := 20, early := 5, heartbeat := 100, recover := 3, degrade := 1, cap := 50, segmentLength := 100 }

/-- A LINKED crane in square 9 whose last record arrived at local time 1000. -/
def linkedCrane : Crane :=
  { Crane.cleared with link := .linked, params := craneParams, expected := some 10, prevArrival := some 1000,
                       heartbeat := some 101000, square := some 9, goodCount := 3 }

/-- The same crane with a slot table of 8 slots, slot 1 PENDING with deadline 50000. -/
def downCrane : Crane :=
  { linkedCrane with
    slots := some ((List.replicate 8 Slot.setup).set 1
      { state := .pending, sequence := 3, writeTime := 0, deadline := 50000, lastVerdict := .hold, madeNo := 1 })
    pendingSlots := [1]
    downExpected := some 4
    madeCount := 1 }

/-- A CRANE_DOWN window of 8 slots of 512 bytes for crane 0. -/
def downWindow : Window := { windowOf .craneDown with slotSize := some 512, crane := some 0 }

/-- That window with that crane, at local time 2000. -/
def downState : State :=
  { withWindow downWindow with
    cranes := upd State.reset.cranes 0 downCrane
    time := { State.reset.time with lt := 2000 } }

/-- A queue entry from window 0. -/
def queued (l : List Byte) (arrival : Nat) (crane : Option (Fin 16)) : QueueEntry :=
  { bytes := l, arrival, window := 0, crane, counted := true }

/-! ## The check word, the operands and the queue -/

/-- R47: the check word of the ASCII digits 1 to 9 is 0x29B1. -/
theorem test_checkWord : checkWord [0x31, 0x32, 0x33, 0x34, 0x35, 0x36, 0x37, 0x38, 0x39] = 0x29B1 := by decide +kernel

/-- R20: a transfer starts 16-byte aligned. -/
theorem test_wf_aligned : (Instr.readTransfer 0 8 1).wf = false := by decide +kernel

/-- R20: a transfer has 1 to 16 beats. -/
theorem test_wf_beats : (Instr.readTransfer 0 0 0).wf = false ∧ (Instr.readTransfer 0 0 17).wf = false := by decide +kernel

/-- R20: a transfer does not cross a 4 KiB boundary. -/
theorem test_wf_boundary : (Instr.readTransfer 0 4080 2).wf = false ∧ (Instr.readTransfer 0 4080 1).wf = true := by
  decide +kernel

/-- R20: a write holds whole beats. -/
theorem test_wf_whole_beats : (Instr.writeTransfer 0 0 (allOn [1])).wf = false := by decide +kernel

/-- R150, R153: a write of a ring word has a lane for each of its bytes. -/
theorem test_wf_ring : (Instr.ringBaseWrite 0 (allOn [1])).wf = false ∧
    (Instr.ringLengthWrite 0 (List.replicate 5 silentLane)).wf = false ∧
    (Instr.consumerIndexWrite 0 (allOn [1, 0, 0])).wf = false := by decide +kernel

/-- R20, R160: a write from a beat of the page lies in the page. -/
theorem test_wf_controlPage : (Instr.controlPageWrite 0 256 (allOn (List.replicate 16 1))).wf = false ∧
    (Instr.controlPageWrite 0 255 (allOn (List.replicate 32 1))).wf = false ∧
    (Instr.controlPageWrite 0 4 (allOn [1, 0, 0, 0] ++ List.replicate 12 silentLane)).wf = true := by decide +kernel

/-- Operands that are no transfer by R20 present none. -/
theorem test_illFormed_nothing : nextIs (.readTransfer 0 8 1) State.reset (fun t => t.arb == State.reset.arb && t.port.waiting == []) =
    true := by decide +kernel

/-- No row of the table gives bits. -/
theorem test_decode_none : decodeTableWord 32 0 = none := rfl

/-- A step takes the front command and leaves the rest. -/
theorem test_step_front : (match step { State.reset with pending := [.localTimeAdvance, .slewStep] } with
    | .next t => t.time.lt == 1 && t.pending == [.slewStep]
    | _ => false) = true := by decide +kernel

/-! ## Chapter 1 -/

/-- R1: local time stops at 2^48 − 1. -/
theorem test_localTime_saturates :
    nextIs .localTimeAdvance { State.reset with time := { State.reset.time with lt := 281474976710655 } }
      (fun t => t.time.lt == 281474976710655) = true := by decide +kernel

/-- R12: a negative slew moves OC down by 1 and itself toward 0 as local time rises onto the boundary, and not again behind it. -/
theorem test_slewStep : nextIs .slewStep { State.reset with time := { State.reset.time with lt := 4999, slew := -2, oc := 10 } }
    (fun t => t.time.lt == 5000 && t.time.oc == 9 && t.time.slew == -1 &&
      nextIs .slewStep t fun u => u.time.lt == 5000 && u.time.oc == 9 && u.time.slew == -1) = true := by decide +kernel

/-- R12: "terminal time is level across that microsecond and rises again after it". -/
theorem test_localTime_slews : nextIs .localTimeAdvance
    { State.reset with time := { State.reset.time with lt := 4999, slew := -2, oc := 10 } }
    (fun t => t.time.lt + t.time.oc == 5009 &&
      nextIs .localTimeAdvance t fun u => u.time.lt + u.time.oc == 5010 && u.time.slew == -1) = true := by decide +kernel

/-- A RUNNING time base, 2 s after mark 7 was captured at local time 1,000,000. -/
def pairedTime : TimeBase :=
  { State.reset.time with lt := 3000000, run := .running, capture := some ⟨7, 1000000⟩ }

/-- A VALUE for mark 7: send delay 250 µs, master time 5,000,000 µs. -/
def valueBytes : List Byte :=
  beBytes 1 2 ++ beBytes 1 0 ++ beBytes 2 7 ++ beBytes 4 250 ++ beBytes 8 5000000 ++ beBytes 8 0 ++ beBytes 8 0

def timeState (t : TimeBase) (l : List Byte) (arrival : Nat) : State :=
  { withWindow (windowOf .timeIn) with time := t, intake := { State.reset.intake with time := [queued l arrival none] } }

/-- R7 and R8: the first VALUE sets OC to master time + send delay + link delay − capture time, and SYNCED. -/
theorem test_value_first : nextIs .timeRecordDequeue (timeState pairedTime valueBytes 2000000)
    (fun t => t.time.oc == 4000250 && t.time.sync == .synced && t.time.lastSuccess == some 2000000 &&
      (t.window 0).taken == 1) = true := by decide +kernel

/-- R6: a VALUE that arrives more than 2 × I after the capture is LATE and clears it. -/
theorem test_value_late : nextIs .timeRecordDequeue (timeState pairedTime valueBytes 3000001)
    (fun t => t.time.capture == none && t.time.sync == .unset && t.notice.flags == 0x080#12) = true := by decide +kernel

/-- R13: holdover comes when local time passes the last success + 8 × I. -/
theorem test_holdover : nextIs .holdoverExpiry { State.reset with time := { State.reset.time with
      lt := 8000001
      run := .running
      sync := .synced
      lastSuccess := some 0 } }
    (fun t => t.time.sync == .holdover && t.notice.flags == 0x100#12) = true := by decide +kernel

/-- R14: an interval that is no multiple of 100 is refused. -/
theorem test_setTimeParameters : nextIs .setTimeParameters (offered State.reset 19 [250, 0, 100, 0])
      (fun t => t.cmd.commandReport == ⟨1, .badArgument⟩) = true ∧
    nextIs .setTimeParameters (offered State.reset 19 [200, 7, 100, 1])
      (fun t => t.time.interval == 200 && t.time.linkDelay == 7 && t.time.continuity) = true := by decide +kernel

/-- R15. -/
theorem test_startTime : nextIs .startTime (offered State.reset 20 []) (fun t => t.time.run == .running &&
    t.cmd.commandReport == ⟨1, .done⟩ && t.arb.own.length == 2) = true := by decide +kernel

/-- R16: STOP TIME while STOPPED is refused with STATE. -/
theorem test_stopTime : nextIs .stopTime (offered State.reset 21 [])
    (fun t => t.cmd.commandReport == ⟨1, .state⟩) = true := by decide +kernel


/-! ## Witnesses: the machine and chapter 1 -/

/-- What a next state answers, as an existence. -/
theorem next_of {o : Host.Outcome State Fault Refusal} {p : State → Bool}
    (h : (match o with | .next t => p t | _ => false) = true) : ∃ t, o = .next t ∧ p t = true := by
  cases o with
  | next t => exact ⟨t, rfl, h⟩
  | fault f => cases h
  | refused r => cases h

/-- The same with the command or the step written out. -/
theorem nextIs_of {c : Instr} {s : State} {p : State → Bool} (h : nextIs c s p = true) :
    ∃ t, exec c s = .next t ∧ p t = true := next_of h

/-- The reset state with one command waiting. -/
def waitingState (s : State) : State := { s with pending := [.localTimeAdvance] }

theorem witness_StepHandlesFrontCommand :
    (waitingState State.reset).pending = [.localTimeAdvance] ∧ State.reset.pending = [] := ⟨rfl, rfl⟩

theorem witness_QueueAndStrapsKept : (∃ t, exec .slewStep State.reset = .next t) ∧
    ∀ b m, Instr.slewStep ≠ .powerOnReset b m := ⟨⟨_, rfl⟩, by intro b m; simp⟩

theorem witness_SettledKept : Settled (waitingState State.reset) ∧ ∃ t, step (waitingState State.reset) = .next t :=
  ⟨by unfold Settled; decide +kernel, _, rfl⟩

/-- A state at a local time. -/
def atTime (lt : Nat) : State := { State.reset with time := { State.reset.time with lt := lt, oc := 2 ^ 63 - 2, slew := -1 } }

theorem witness_ClockedEvents : (atTime (2 ^ 48 - 1)).inReset = false ∧ TimeInRange (atTime (2 ^ 48 - 1)).time ∧
    (((atTime 999).time.lt + 1) % 1000 = 0 ∧ TimeInRange (atTime 999).time ∧ (atTime 999).time.lt < 2 ^ 48 - 1 ∧
      (atTime 999).time.slew ≠ 0) ∧
    (0 < (atTime 5000000).time.lt ∧ (atTime 5000000).time.lt % 5000000 = 0 ∧
      (atTime 5000000).grid.aging.startTakenAt ≠ some 5000000) ∧
    (0 < (atTime 10000000).time.lt ∧ (atTime 10000000).time.lt % 10000000 = 0 ∧
      (atTime 10000000).reefer.sweep.startTakenAt ≠ some 10000000) := by
  unfold TimeInRange; decide +kernel

/-- A MARK with number 7. -/
def markBytes : List Byte := beBytes 1 1 ++ beBytes 1 0 ++ beBytes 2 7 ++ List.replicate 28 0

theorem witness_MarkOrDiscardedRecord_discarded :
    Free .timeJob (timeState State.reset.time valueBytes 5) ∧ (timeState State.reset.time valueBytes 5).intake.time ≠ [] ∧
    (timeState State.reset.time valueBytes 5).time.run = .stopped ∧
    Free .timeJob (timeState pairedTime (List.replicate 32 3) 5) ∧ (TimeMessage.read (List.replicate 32 3)).kind = 3 := by
  unfold Free Settled; decide +kernel

theorem witness_MarkOrDiscardedRecord_mark : Free .timeJob (timeState pairedTime markBytes 5) ∧
    (timeState pairedTime markBytes 5).intake.time = [queued markBytes 5 none] ∧
    (timeState pairedTime markBytes 5).time.run = .running ∧ (TimeMessage.read markBytes).kind = 1 := by
  unfold Free Settled; decide +kernel

/-- A time base with the continuity check, TL 3 and mark 7 captured. -/
def continuityTime : TimeBase := { pairedTime with continuity := true, tl := some 3, sync := .synced }

theorem witness_ValueViolation :
    (Free .timeJob (timeState pairedTime valueBytes 3000001) ∧ pairedTime.run = .running ∧
      (TimeMessage.read valueBytes).kind = 2) ∧
    ValueFails { pairedTime with capture := none } (TimeMessage.read valueBytes) 5 .wrongMark ∧
    ValueFails { pairedTime with capture := some ⟨8, 0⟩ } (TimeMessage.read valueBytes) 5 .wrongMark ∧
    ValueFails pairedTime (TimeMessage.read valueBytes) 3000001 .late ∧
    ValueFails continuityTime (TimeMessage.read valueBytes) 3000000 .continuity := by
  refine ⟨by unfold Free Settled; decide +kernel, ?_, ?_, ⟨_, rfl, by decide +kernel⟩, ⟨_, rfl, by decide +kernel⟩⟩
  · intro c h; cases h
  · intro c h; cases h; decide +kernel

theorem witness_ValueAccepted : Free .timeJob (timeState pairedTime valueBytes 3000000) ∧
    (timeState pairedTime valueBytes 3000000).intake.time = [queued valueBytes 3000000 none] ∧
    pairedTime.run = .running ∧ (TimeMessage.read valueBytes).kind = 2 ∧
    ValuePasses pairedTime (TimeMessage.read valueBytes) 3000000 1000000 := by
  unfold Free Settled ValuePasses; decide +kernel

theorem witness_TimeCommandsResult :
    Offered .setTimeParameters (offered State.reset 19 [200, 7, 100, 1]) ∧
    Offered .setTimeParameters (offered (timeState pairedTime [] 0) 19 [200, 7, 100, 1]) ∧
    Offered .startTime (offered State.reset 20 []) ∧ Offered .startTime (offered (timeState pairedTime [] 0) 20 []) ∧
    Offered .stopTime (offered State.reset 21 []) ∧ Offered .stopTime (offered (timeState pairedTime [] 0) 21 []) := by
  unfold Offered Free Settled; decide +kernel

theorem witness_TerminalTimeNeverDecreases :
    (∃ t, exec .slewStep { State.reset with time := continuityTime } = .next t) ∧ continuityTime.sync ≠ .unset ∧
    TimeInRange continuityTime ∧ ∀ b m, Instr.slewStep ≠ .powerOnReset b m :=
  ⟨⟨_, rfl⟩, by decide +kernel, by unfold TimeInRange; decide +kernel, by intro b m; simp⟩

/-! ## Chapter 2 -/

/-- A GUARDED window that permits master 3 alone. -/
def guardedWindow : Window := { windowOf .guarded with writers := 8#64 }

/-- R24: a write by a master outside the writer set is blocked and answered with an error. -/
theorem test_write_blocked :
    nextIs (.writeTransfer 4 0x10000000 (allOn (List.replicate 16 1))) (withWindow guardedWindow)
      (fun t => t.port.responses == [.write 4 .error] && t.arb.passing == [] && (t.window 0).blocked == 1 &&
        t.notice.flags == 1#12) = true := by decide +kernel

/-- R33: a 64-byte record written whole joins its queue, with the local time as arrival. -/
theorem test_write_record :
    nextIs (.writeTransfer 4 0x10000000 (allOn (List.replicate 64 9)))
      { withWindow (windowOf .reeferIn) with time := { State.reset.time with lt := 77 } }
      (fun t => t.intake.reefer == [queued (List.replicate 64 9) 77 none] && t.arb.passing.length == 1) = true := by
  decide +kernel

/-- R62: a payload beat of a PENDING slot whose last verdict is HOLD returns as zeros. -/
theorem test_read_payload : nextIs (.readTransfer 4 0x10000210 1) downState
    (fun t => t.arb.passing == [.read 4 0x10000210 [.zero]]) = true := by decide +kernel

/-- R59, R60: a header beat of a PENDING slot in time passes, and the slot becomes SENT. -/
theorem test_read_header : nextIs (.readTransfer 4 0x10000200 1) downState
    (fun t => t.arb.passing == [.read 4 0x10000200 [.pass]] && ((t.crane 0).slot 1).state == .sent &&
      (t.crane 0).lastPassed == some 3) = true := by decide +kernel

/-- Each clause of the operands that are no transfer, at a boundary value. -/
theorem witness_TransfersPassUnaltered_none :
    ¬((0xFF8#40).toNat % 16 = 0 ∧ 1 ≤ 1 ∧ 1 ≤ 16 ∧ (0xFF8#40).toNat % 4096 + 16 * 1 ≤ 4096) ∧
    ¬((0#40).toNat % 16 = 0 ∧ 1 ≤ 17 ∧ 17 ≤ 16 ∧ (0#40).toNat % 4096 + 16 * 17 ≤ 4096) ∧
    ¬((0xFF0#40).toNat % 16 = 0 ∧ 32 % 16 = 0 ∧ 16 ≤ 32 ∧ 32 ≤ 256 ∧ (0xFF0#40).toNat % 4096 + 32 ≤ 4096) ∧
    ¬(16 % 16 = 0 ∧ 16 ≤ 16 ∧ 16 ≤ 256 ∧ 16 * 256 + 16 ≤ 4096) := by decide +kernel

theorem witness_TransfersPassUnaltered_read :
    ((Transfer.read 4 0x10000FF0 1).wf = true ∧ (withWindow guardedWindow).inReset = false ∧ Settled (withWindow guardedWindow) ∧
      (withWindow guardedWindow).windowAt (0x10000FF0#40).toNat = some 0 ∧
      ∀ i, (withWindow guardedWindow).windowAt (0x10000FF0#40).toNat = some i →
        ((withWindow guardedWindow).window i).kind ≠ some .craneDown) ∧
    (State.reset.windowAt 0 = none ∧ State.reset.pageOffset 0 = some 0) := by
  unfold Settled; decide +kernel

theorem witness_TransfersPassUnaltered_write :
    (Transfer.write 3 0x10000000 (allOn (List.replicate 16 1))).wf = true ∧ Settled (withWindow guardedWindow) ∧
      (withWindow guardedWindow).pageOffset (0x10000000#40).toNat = none ∧
      (withWindow guardedWindow).windowAt (0x10000000#40).toNat = some 0 ∧
      ∀ i, (withWindow guardedWindow).windowAt (0x10000000#40).toNat = some i →
        ((withWindow guardedWindow).window i).kind = some .guarded ∧ ((withWindow guardedWindow).window i).permits 3 = true := by
  unfold Settled; decide +kernel

theorem witness_WritesBlocked_window :
    (Transfer.write 4 0x10000000 (allOn (List.replicate 16 1))).wf = true ∧ Settled (withWindow guardedWindow) ∧
      (withWindow guardedWindow).pageOffset (0x10000000#40).toNat = none ∧
      (withWindow guardedWindow).windowAt (0x10000000#40).toNat = some 0 ∧
      ((withWindow guardedWindow).window 0).kind = some .guarded ∧
      ((withWindow guardedWindow).window 0).writers.getLsbD (4#6).toNat = false ∧
      ((withWindow (windowOf .noticeRing)).window 0).kind = some .noticeRing ∧
      (withWindow (windowOf .noticeRing)).windowAt 0x10000000 = some 0 := by
  unfold Settled; decide +kernel

/-- A transfer of 16 lanes at page offsets 0x40, 0x90, 0x250 and 0x5F0, with its last or first byte in a protected area. -/
theorem witness_WritesBlocked_page :
    (withWindow guardedWindow).pageOffset (0x20000040#40).toNat = some 0x40 ∧
    (withWindow guardedWindow).pageOffset (0x200005F0#40).toNat = some 0x5F0 ∧ (4#6 : BitVec 6) ≠ (withWindow guardedWindow).cpid ∧
    (Transfer.write 4 0x20000040 (allOn [1] ++ List.replicate 15 silentLane)).wf = true ∧
    (∃ j x, (allOn [1] ++ List.replicate 15 silentLane)[j]? = some x ∧ x.strobe = true ∧ 0x40 + j < 0x44) ∧
    (∃ j x, (List.replicate 15 silentLane ++ allOn [1])[j]? = some x ∧ x.strobe = true ∧ 0x400 ≤ 0x5F0 + j ∧
      0x5F0 + j < 0x600) ∧
    PresentsWrite (withWindow guardedWindow) (.controlPageWrite 4 4 (allOn [1] ++ List.replicate 15 silentLane)) 4 0x20000040
      (allOn [1] ++ List.replicate 15 silentLane) :=
  ⟨by decide +kernel, by decide +kernel, by decide +kernel, by decide +kernel, ⟨0, _, rfl, rfl, by decide⟩,
    ⟨15, _, rfl, rfl, by decide, by decide⟩, .inr (.inr ⟨4, by decide, rfl, by decide +kernel⟩)⟩

/-- R26, R160: CONTROL_PAGE_WRITE of the tag word by another master than CPID is blocked, and the tag copy is as it was. -/
theorem test_page_write_blocked :
    nextIs (.controlPageWrite 4 4 (allOn [1] ++ List.replicate 15 silentLane)) (withWindow guardedWindow)
      (fun t => t.port.responses == [.write 4 .error] && t.arb.passing == [] && t.cmd.tag == 0 && !t.cmd.offerMark &&
        t.notice.flags == 1#12) = true := by decide +kernel

theorem witness_IntakeWriteSettles : ∀ k ∈ [WindowKind.craneUp, .reeferIn, .measureIn, .timeIn],
    (Transfer.write 4 0x10000F00 (allOn (List.replicate 256 1))).wf = true ∧ Settled (withWindow (windowOf k)) ∧
      (withWindow (windowOf k)).pageOffset (0x10000F00#40).toNat = none ∧
      (withWindow (windowOf k)).windowAt (0x10000F00#40).toNat = some 0 ∧
      ((withWindow (windowOf k)).window 0).kind = some k ∧ ((withWindow (windowOf k)).window 0).permits 4 = true := by
  unfold Settled; decide +kernel

theorem witness_EveryTouchedPositionSettledOnce :
    (((withWindow (windowOf .timeIn)).intake.queue .timeIn).length ≤ 4) ∧
    ((withWindow (windowOf .timeIn)).settlement 0 .timeIn 32 4 0x10000010 (allOn (List.replicate 48 1))).torn = [0] ∧
    ((withWindow (windowOf .timeIn)).settlement 0 .timeIn 32 4 0x10000010 (allOn (List.replicate 48 1))).queue.length = 1 := by
  decide +kernel

/-- DEFINE WINDOW arguments: index, kind, base low and high, size in pages, slot size, crane, writers low and high. -/
def defineArgs (index kind base pages slot crane : Nat) : List Nat := [index, kind, base, 0, pages, slot, crane, 255, 0]

/-- The state with downWindow's crane attached and a DEFINE WINDOW offered. -/
def defineState (args : List Nat) : State := offered downState 1 args

/-- R28: a GUARDED window in a free entry. -/
theorem test_defineWindow : nextIs .defineWindow (defineState (defineArgs 3 10 0x40000000 2 0 0))
    (fun t => (t.window 3).inUse && (t.window 3).base == 0x40000000 && (t.window 3).size == 8192 &&
      t.cmd.commandReport == ⟨1, .done⟩) = true := by decide +kernel

/-- R29, R164: a mirror window starts its refresh, RUNNING. -/
theorem test_defineWindow_mirror : nextIs .defineWindow (defineState (defineArgs 3 9 0x40000000 1 0 0))
    (fun t => t.cmd.state == .long && t.cmd.longReport == ⟨1, .running⟩ && t.mirror.target == some .crane) = true := by
  decide +kernel

theorem witness_DefineWindowResult_offered : Offered .defineWindow (defineState (defineArgs 32 10 0x40000000 1 0 0)) ∧
    Offered .defineWindow (defineState (defineArgs 31 10 0x40000000 4096 0 0)) := by
  unfold Offered Free Settled; decide +kernel

/-- Each refusal of R27: the index 32, the size 0, a locked entry, an overlap with a window, a DORMANT crane, and a second window of
kind CRANE_DOWN for crane 0. -/
theorem witness_DefineWindowResult_refused :
    DefineRefusal (defineState (defineArgs 32 10 0x40000000 1 0 0)) 32 10 (some .badArgument) ∧
    DefineRefusal (defineState (defineArgs 31 10 0x40000000 0 0 0)) 31 10 (some .badArgument) ∧
    DefineRefusal (offered (withWindow { guardedWindow with lock := .locked }) 1 (defineArgs 0 10 0x40000000 1 0 0)) 0 10
      (some .locked) ∧
    DefineRefusal (defineState (defineArgs 31 10 0xFFFF000 2 0 0)) 31 10 (some .overlap) ∧
    DefineRefusal (defineState (defineArgs 31 2 0x40000000 1 0 15)) 31 2 (some .state) ∧
    DefineRefusal (defineState (defineArgs 31 1 0x40000000 1 512 0)) 31 1 (some .state) := by
  refine ⟨?_, ?_, ?_, ?_, ?_, ?_⟩ <;>
    (unfold DefineRefusal DefineArgsBad AnotherWindow Share; dsimp only; decide +kernel)

/-- An entry of every kind of effect passes: GUARDED, CRANE_DOWN in place of the old one, NOTICE_RING, and a mirror. -/
theorem witness_DefineWindowResult_defined :
    DefineRefusal (defineState (defineArgs 31 10 0x40000000 4096 0 0)) 31 10 none ∧
    DefineRefusal (defineState (defineArgs 0 1 0x40000000 1 512 0)) 0 1 none ∧
    DefineRefusal (defineState (defineArgs 1 6 0x40000000 1 0 0)) 1 6 none ∧
    DefineRefusal (defineState (defineArgs 1 8 0x40000000 2 0 0)) 1 8 none := by
  refine ⟨?_, ?_, ?_, ?_⟩ <;>
    (unfold DefineRefusal DefineArgsBad AnotherWindow Share; dsimp only; decide +kernel)

/-- R30: the entry returns to its cleared values, and crane 0 loses its slot table. -/
theorem test_deleteWindow : nextIs .deleteWindow (offered downState 2 [0])
    (fun t => t.window 0 == Window.cleared && (t.crane 0).slots == none && (t.crane 0).link == .linked) = true := by
  decide +kernel

theorem witness_DeleteWindowResult : Offered .deleteWindow (offered downState 2 [32]) ∧ 31 < (offered downState 2 [32]).arg 1 ∧
    Offered .deleteWindow (offered downState 2 [0]) ∧ (0 : Fin 32).val = (offered downState 2 [0]).arg 1 ∧
    (downState.window 0).inUse = true ∧ (downState.window 0).lock = .openLevel ∧
    Offered .deleteWindow (offered downState 2 [31]) ∧ (31 : Fin 32).val = (offered downState 2 [31]).arg 1 ∧
    (downState.window 31).inUse = false ∧
    Offered .deleteWindow (offered (withWindow { guardedWindow with lock := .tight }) 2 [0]) := by
  unfold Offered Free Settled; decide +kernel

/-- R31, R32. -/
theorem test_lockWindow : nextIs .lockWindow (offered downState 3 [0, 2]) (fun t => (t.window 0).lock == .tight) = true ∧
    nextIs .unlockWindow (offered (withWindow { guardedWindow with lock := .tight }) 4 [0])
      (fun t => (t.window 0).lock == .tight && t.cmd.commandReport == ⟨1, .locked⟩) = true := by decide +kernel

theorem witness_LockAndUnlockWindow : Offered .lockWindow (offered downState 3 [32, 1]) ∧
    Offered .lockWindow (offered downState 3 [0, 3]) ∧ 2 < (offered downState 3 [0, 3]).arg 2 ∧
    Offered .lockWindow (offered downState 3 [0, 1]) ∧ (0 : Fin 32).val = (offered downState 3 [0, 1]).arg 1 ∧
    (offered downState 3 [0, 1]).arg 2 = 1 ∧ Offered .unlockWindow (offered downState 4 [32]) ∧
    31 < (offered downState 4 [32]).arg 1 ∧
    Offered .unlockWindow (offered (withWindow { guardedWindow with lock := .locked }) 4 [0]) ∧
    (0 : Fin 32).val = (offered (withWindow { guardedWindow with lock := .locked }) 4 [0]).arg 1 := by
  unfold Offered Free Settled; decide +kernel

/-- A state whose arbiter holds one of everything. -/
def busyArb : State :=
  { State.reset with arb := {
      passing := [.write 4 0x10000000 (allOn (List.replicate 16 1))]
      own := [⟨0, [1]⟩]
      held := [⟨⟨16, [2]⟩, .command⟩]
      letOut := false
      inFlight := [.passing (.write 4 0 []), .passing (.read 4 0 [.pass, .zero]), .own ⟨0, []⟩] } }

/-- The same with a full own-write queue. -/
def fullArb : State := { busyArb with arb := { busyArb.arb with own := List.replicate 64 ⟨0, [1]⟩ } }

/-- R40: with the queue full, an own write leaves ahead of the passing transfer, and the passing transfer is then next. -/
theorem test_arbiter_full : nextIs .ownWriteIssue fullArb (fun t => t.arb.own.length == 63 && t.arb.letOut) = true ∧
    nextIs .forwardDownstream fullArb (fun t => t.arb.passing.length == 1) = true := by decide +kernel

/-- R62: the second beat of the read returns as zeros. -/
theorem test_readDataReturn : nextIs (.readDataReturn 1 .error (List.replicate 32 7)) busyArb
    (fun t => t.port.responses == [.read 4 .error (List.replicate 16 7 ++ List.replicate 16 0)]) = true := by decide +kernel

theorem witness_PortsMove : busyArb.inReset = false ∧
    (∃ p rest, busyArb.arb.passing = p :: rest) ∧ busyArb.arb.own.length ≠ 64 ∧
    (∃ w rest, fullArb.arb.own = w :: rest) ∧ (fullArb.arb.own.length = 64 ∧ fullArb.arb.letOut = false) ∧
    (∃ h rest, busyArb.arb.held = h :: rest) ∧ busyArb.arb.own.length < 64 ∧
    busyArb.arb.inFlight[0]? = some (.passing (.write 4 0 [])) ∧
    busyArb.arb.inFlight[1]? = some (.passing (.read 4 0 [.pass, .zero])) ∧
    ([List.replicate 16 7, List.replicate 16 7] : List (List Byte)).length = [BeatPlan.pass, .zero].length ∧
    (∀ b ∈ ([List.replicate 16 7, List.replicate 16 7] : List (List Byte)), b.length = 16) ∧
    busyArb.arb.inFlight[2]? = some (.own ⟨0, []⟩) :=
  ⟨rfl, ⟨_, _, rfl⟩, by decide +kernel, ⟨_, _, rfl⟩, by decide +kernel, ⟨_, _, rfl⟩, by decide +kernel, rfl, rfl, rfl,
    by decide +kernel, rfl⟩

theorem onlyWindow (i : Fin 32) : ((waitingState (withWindow guardedWindow)).window i).inUse = true → i = 0 := by
  revert i; decide +kernel

theorem witness_WindowsStayApart : WindowsApart (waitingState (withWindow guardedWindow)) ∧
    (∃ t, step (waitingState (withWindow guardedWindow)) = .next t) := by
  have use : ∀ (i : Fin 32) (a : Nat), ((waitingState (withWindow guardedWindow)).window i).contains a = true → i = 0 := by
    intro i a h
    apply onlyWindow
    simp only [Window.contains, Bool.and_eq_true] at h
    exact h.1.1
  refine ⟨⟨fun i j a hi hj => (use i a hi).trans (use j a hj).symm, fun i a h => ?_⟩, _, rfl⟩
  have h0 := use i a h
  subst h0
  have hw : (waitingState (withWindow guardedWindow)).window 0 = guardedWindow := by decide +kernel
  rw [hw] at h
  have hb : guardedWindow.base = 0x10000000 ∧ guardedWindow.size = 4096 := ⟨rfl, rfl⟩
  simp only [Window.contains, Bool.and_eq_true, decide_eq_true_eq, hb.1, hb.2] at h
  have hp : (waitingState (withWindow guardedWindow)).pageAddr 0 = 0x20000000 := by decide +kernel
  unfold State.pageOffset
  rw [hp, if_neg (by omega)]

theorem witness_TightWindowUnchanged :
    (∃ t, exec .slewStep (withWindow { guardedWindow with lock := .tight }) = .next t) ∧
    (∀ b m, Instr.slewStep ≠ .powerOnReset b m) ∧
    ((withWindow { guardedWindow with lock := .tight }).window 0).inUse = true ∧
    ((withWindow { guardedWindow with lock := .tight }).window 0).lock = .tight :=
  ⟨⟨_, rfl⟩, by intro b m; simp, by decide +kernel, by decide +kernel⟩

/-! ## Chapter 3 -/

theorem fallsInSlots : FallsInSlots downState 0x10000200 0 0 512 ∧ FallsInSlots downState 0x10000210 0 0 512 ∧
    FallsInSlots downState 0x100003F0 0 0 512 ∧ Settled downState ∧ downState.inReset = false ∧
    downState.pageOffset 0x10000200 = none ∧ downState.pageOffset 0x10000210 = none ∧ (downState.window 0).permits 4 = true := by
  unfold FallsInSlots Settled; decide +kernel

/-- The page and window side of the hypotheses is `fallsInSlots`. -/
theorem witness_PayloadBeats : (Transfer.write 4 0x10000210 (allOn (List.replicate 16 1))).wf = true ∧
    (∀ j, 16 * j < (allOn (List.replicate 16 1)).length → (0x10000210 - (downState.window 0).base + 16 * j) % 512 = 0 →
      ∀ x ∈ ((allOn (List.replicate 16 1)).drop (16 * j)).take 16, x.strobe = false) ∧
    (Transfer.write 4 0x10000200 (List.replicate 16 silentLane)).wf = true ∧
    (∀ x ∈ List.replicate 16 silentLane, x.strobe = false) ∧ (Transfer.read 4 0x10000210 15).wf = true ∧
    (∀ j, j < 15 → (0x10000210 - (downState.window 0).base + 16 * j) % 512 ≠ 0) := by
  refine ⟨by decide +kernel, fun j hj h => ?_, by decide +kernel, by decide +kernel, by decide +kernel, by decide +kernel⟩
  have hw : (downState.window 0).base = 0x10000000 := by decide +kernel
  have hl : (allOn (List.replicate 16 1)).length = 16 := by decide +kernel
  rw [hw] at h
  rw [hl] at hj
  have : j = 0 := by omega
  subst this
  omega

/-- A frame for crane 7 with sequence 4 and validity 100 ms, its check word right. -/
def frameBeat : List Byte :=
  let body := beBytes 1 1 ++ beBytes 1 7 ++ beBytes 2 4 ++ beBytes 2 0 ++ beBytes 2 100 ++ beBytes 2 40 ++ beBytes 4 0
  body ++ beBytes 2 (checkWord body)

/-- R51, R52: a good frame makes its slot PENDING with the effective deadline; R54: the PENDING slot it replaces counts. -/
theorem test_write_header : nextIs (.writeTransfer 4 0x10000200 (allOn frameBeat)) downState
    (fun t => (t.crane 0).slot 1 == { state := .pending, sequence := 4, writeTime := 2000, deadline := 102000,
                                      lastVerdict := .hold, madeNo := 2 } &&
      (t.crane 0).overwrites == 1 && (t.crane 0).downExpected == some 5 && (t.window 0).taken == 1) = true := by
  decide +kernel

theorem witness_TornHeaderBeat : (Transfer.write 4 0x10000200 (allOn [1] ++ List.replicate 15 silentLane)).wf = true ∧
    16 * 0 < (allOn [1] ++ List.replicate 15 silentLane).length ∧
    (0x10000200 - (downState.window 0).base + 16 * 0) % 512 = 0 ∧
    (∃ x ∈ ((allOn [1] ++ List.replicate 15 silentLane).drop (16 * 0)).take 16, x.strobe = true) ∧
    (∃ x ∈ ((allOn [1] ++ List.replicate 15 silentLane).drop (16 * 0)).take 16, x.strobe = false) := by
  decide +kernel

theorem witness_FullHeaderBeat : (Transfer.write 4 0x10000200 (allOn frameBeat)).wf = true ∧
    16 * 0 < (allOn frameBeat).length ∧ (0x10000200 - (downState.window 0).base + 16 * 0) % 512 = 0 ∧
    (∀ x ∈ ((allOn frameBeat).drop (16 * 0)).take 16, x.strobe = true) ∧
    WellFormedFrame (FrameOutcome (downState.crane 0) 512 frameBeat) ∧
    ¬WellFormedFrame (FrameOutcome (downState.crane 0) 512 (List.replicate 16 0)) := by
  unfold WellFormedFrame; decide +kernel

/-- Slot 1 passes at local time 2000 and is held for EMPTY at slot 2. -/
theorem witness_HeaderReadVerdict : (Transfer.read 4 0x100001F0 2).wf = true ∧ FallsInSlots downState 0x100001F0 0 0 512 ∧
    (0x100001F0 - (downState.window 0).base + 16 * 1) % 512 = 0 ∧ HoldReason (downState.crane 0) 1 downState.time.lt = none ∧
    (Transfer.read 4 0x10000400 1).wf = true ∧ FallsInSlots downState 0x10000400 0 0 512 ∧
    (0x10000400 - (downState.window 0).base + 16 * 0) % 512 = 0 ∧
    HoldReason (downState.crane 0) 2 downState.time.lt = some 3 := by
  unfold FallsInSlots; decide +kernel

/-- Slot 1 is the one PENDING slot of that crane. -/
theorem downCrane_pending (n : Nat) : (downCrane.slot n).state = .pending ↔ n = 1 := by
  by_cases h : n < 8
  · revert n; decide +kernel
  · have hs : downCrane.slot n = Slot.setup := by
      unfold Crane.slot
      rw [List.getElem?_eq_none (by simp [downCrane, linkedCrane]; omega)]
      rfl
    rw [hs]
    exact ⟨fun hm => absurd hm SlotState.noConfusion, fun hm => absurd hm (by omega)⟩

theorem pendingWf_downCrane : PendingWf downCrane := by
  unfold PendingWf
  refine ⟨?_, by decide +kernel, List.pairwise_singleton _ _, ?_, ?_⟩
  · intro n
    rw [downCrane_pending]
    exact List.mem_singleton
  · intro n hn
    rw [(downCrane_pending n).mp hn]
    decide +kernel
  · intro m n hm hn _
    rw [(downCrane_pending m).mp hm, (downCrane_pending n).mp hn]

theorem pendingWf_cleared : PendingWf Crane.cleared := by
  have hs : ∀ n, (Crane.cleared.slot n).state ≠ .pending := fun n h => by cases h
  unfold PendingWf
  exact ⟨fun n => ⟨fun h => (List.not_mem_nil h).elim, fun h => absurd h (hs n)⟩, List.nodup_nil, List.Pairwise.nil,
    fun n h => absurd h (hs n), fun m _ h => absurd h (hs m)⟩

/-- The down state with one command waiting. -/
theorem pendingWf_downState (i : Fin 16) : PendingWf (downState.crane i) := by
  by_cases h : i = 0
  · subst h; exact pendingWf_downCrane
  · have : downState.crane i = Crane.cleared := by
      revert i; decide +kernel
    rw [this]; exact pendingWf_cleared

theorem tablesFit_downState : TablesFit downState := by
  intro w i size l hu hk hc hs hl
  have hw : w = 0 := by
    clear hk hc hs
    revert w
    decide +kernel
  subst hw
  have hi : i = 0 := by
    have : (some (0 : Fin 16)) = some i := hc
    exact (Option.some.inj this).symm
  have hz : size = 512 := by
    have : some 512 = some size := hs
    exact (Option.some.inj this).symm
  subst hi
  subst hz
  have h8 : (downState.crane 0).slots.map List.length = some 8 := by decide +kernel
  rw [hl] at h8
  have : l.length = 8 := Option.some.inj h8
  rw [this]
  decide +kernel

theorem witness_PendingListsKept : TablesFit (waitingState downState) ∧ (∀ i, PendingWf ((waitingState downState).crane i)) ∧
    ∃ t, step (waitingState downState) = .next t :=
  ⟨tablesFit_downState, pendingWf_downState, _, rfl⟩

/-- An uplink record: kind, crane ID, sequence, position, band, serving cell, level; its check word right. -/
def uplinkBytes (kind crane sequence position band serving level : Nat) : List Byte :=
  let body := beBytes 1 kind ++ beBytes 1 crane ++ beBytes 2 sequence ++ beBytes 2 position ++ beBytes 1 band ++
    beBytes 4 serving ++ beBytes 2 level ++ beBytes 1 0
  body ++ beBytes 2 (checkWord body) ++ List.replicate 112 0

/-- The down state with one uplink record of crane 0 queued. -/
def uplinkState (l : List Byte) (arrival : Nat) : State :=
  { downState with intake := { State.reset.intake with uplink := [queued l arrival (some 0)] } }

/-- A CHECK outcome degrades crane 0, whose PENDING slot 1 stays inside its cap. -/
theorem witness_DegradedEntryCapsDeadlines :
    let s : State := { uplinkState (List.replicate 128 0) 1500 with pending := [.uplinkRecordDequeue] }
    TablesFit s ∧ (∀ j, PendingWf (s.crane j)) ∧ (s.crane 0).link ≠ .degraded ∧
      ∃ t, step s = .next t ∧ ((t.crane 0).link == .degraded && ((t.crane 0).slot 1).state == .pending) = true :=
  ⟨tablesFit_downState, pendingWf_downState, by decide +kernel,
    next_of (p := fun t => (t.crane 0).link == .degraded && ((t.crane 0).slot 1).state == .pending) (by decide +kernel)⟩

/-! ## Chapter 4 -/

/-- ATTACH CRANE arguments with the index and the crane ID given. -/
def craneArgs (index id : Nat) : List Nat := [index, id, 5, 4, 10, 0, 0, 5, 50]

/-- R72: argument 0 of the two counts means 3 and 4. -/
theorem test_attachCrane : nextIs .attachCrane (offered State.reset 5 (craneArgs 15 254))
    (fun t => (t.crane 15).link == .lost && (t.crane 15).params.recover == 3 && (t.crane 15).params.degrade == 4) = true := by
  decide +kernel

/-- R73: another attached crane has the ID. -/
theorem test_setCraneParameters :
    nextIs .setCraneParameters (offered { downState with cranes := upd downState.cranes 1 linkedCrane } 7 (craneArgs 1 7))
      (fun t => t.cmd.commandReport == ⟨1, .overlap⟩) = true := by decide +kernel

theorem witness_CraneParameterCommands :
    Offered .attachCrane (offered downState 5 (craneArgs 16 1)) ∧ 15 < (offered downState 5 (craneArgs 16 1)).arg 1 ∧
    Offered .attachCrane (offered downState 5 (craneArgs 15 254)) ∧ CraneArgsGood (offered downState 5 (craneArgs 15 254)) ∧
    (15 : Fin 16).val = (offered downState 5 (craneArgs 15 254)).arg 1 ∧ (downState.crane 15).link = .dormant ∧
    ¬CraneIdTaken (offered downState 5 (craneArgs 15 254)) 15 ∧ CraneIdTaken (offered downState 5 (craneArgs 15 7)) 15 ∧
    ¬CraneArgsGood (offered downState 5 (craneArgs 15 255)) ∧
    Offered .setCraneParameters (offered downState 7 (craneArgs 0 7)) ∧ (downState.crane 0).link ≠ .dormant ∧
    CraneArgsGood (offered downState 7 (craneArgs 0 7)) ∧ ¬CraneIdTaken (offered downState 7 (craneArgs 0 7)) 0 := by
  and_intros <;> first
    | decide +kernel
    | (unfold CraneArgsGood; decide +kernel)
    | (unfold CraneIdTaken; decide +kernel)

/-- R74: a crane that a window names cannot be detached. -/
theorem test_detachCrane : nextIs .detachCrane (offered downState 6 [0]) (fun t => t.cmd.commandReport == ⟨1, .state⟩) = true ∧
    nextIs .detachCrane (offered { downState with windows := State.reset.windows } 6 [0])
      (fun t => t.crane 0 == Crane.cleared) = true := by decide +kernel

/-- R64, R65. -/
theorem test_holdCrane : nextIs .holdCrane (offered downState 8 [0]) (fun t => (t.crane 0).holdFlag) = true ∧
    nextIs .releaseCrane (offered downState 9 [16]) (fun t => t.cmd.commandReport == ⟨1, .badArgument⟩) = true := by
  decide +kernel

theorem witness_DetachHoldRelease : Offered .detachCrane (offered downState 6 [16]) ∧
    Offered .detachCrane (offered downState 6 [0]) ∧ (0 : Fin 16).val = (offered downState 6 [0]).arg 1 ∧
    CraneNamed downState 0 ∧ ¬CraneNamed { downState with windows := State.reset.windows } 0 ∧
    Offered .holdCrane (offered downState 8 [0]) ∧ (downState.crane 0).holdFlag ≠ true ∧
    Offered .releaseCrane (offered downState 9 [0]) ∧ (downState.crane 0).holdFlag = false ∧
    Offered .holdCrane (offered downState 8 [15]) ∧ (downState.crane 15).link = .dormant := by
  and_intros <;> first
    | decide +kernel
    | (unfold CraneNamed; decide +kernel)

/-- R77 to R82: a record in sequence. Position 250 is segment 2, so square 2 × 4 + 1. -/
theorem test_uplink_used : nextIs .uplinkRecordDequeue (uplinkState (uplinkBytes 1 7 12 250 1 0 65336) 16000)
    (fun t => (t.crane 0).expected == some 13 && (t.crane 0).square == some 9 && (t.crane 0).level == some (-200) &&
      (t.crane 0).errors == [.missing, .missing, .good] && (t.crane 0).link == .degraded &&
      (t.crane 0).heartbeat == some 116000 && t.notice.flags == 0x010#12) = true := by decide +kernel

theorem witness_UnusedUplinkRecord :
    Free .uplinkJob (uplinkState (List.replicate 128 0) 1500) ∧
    (uplinkState (List.replicate 128 0) 1500).intake.uplink = [queued (List.replicate 128 0) 1500 (some 0)] ∧
    (downState.crane 15).link = .dormant ∧ (downState.crane 0).link ≠ .dormant ∧
    UnusedOutcome (downState.crane 0) (List.replicate 128 0) .check ∧
    UnusedOutcome (downState.crane 0) (uplinkBytes 1 7 10 0 4 0 0) .framing ∧
    UnusedOutcome (downState.crane 0) (uplinkBytes 1 7 32778 0 3 0 0) .sequence := by
  refine ⟨by unfold Free Settled; decide +kernel, rfl, by decide +kernel, by decide +kernel, ?_, ?_, ?_⟩
  · unfold UnusedOutcome; decide +kernel
  · unfold UnusedOutcome; decide +kernel
  · exact ⟨by decide +kernel, by decide +kernel, by decide +kernel, by decide +kernel, 10, by decide +kernel, by decide +kernel⟩

theorem witness_UsedUplinkRecord :
    Free .uplinkJob (uplinkState (uplinkBytes 1 7 32777 0 3 11 0) 15999) ∧
    InSequence (downState.crane 0) (uplinkBytes 1 7 32777 0 3 11 0) 32 ∧ InSequence (downState.crane 0) (uplinkBytes 1 7 10 0 0 0 0) 0 ∧
    Early (downState.crane 0) 15999 ∧ ¬Early (downState.crane 0) 16000 := by
  have hp : (downState.crane 0).prevArrival = some 1000 := by decide +kernel
  have hq : (downState.crane 0).params = craneParams := by decide +kernel
  have he : (downState.crane 0).expected = some 10 := by decide +kernel
  refine ⟨by unfold Free Settled; decide +kernel, ?_, ?_, ⟨1000, hp, by rw [hq]; decide⟩, ?_⟩
  · unfold InSequence; rw [he, hq]; decide +kernel
  · unfold InSequence; rw [he, hq]; decide +kernel
  · rintro ⟨p, h, hlt⟩
    rw [hp] at h
    cases h
    rw [hq] at hlt
    exact absurd hlt (by decide)

theorem witness_UsedUplinkRecord_sample : (UplinkHeader.read (uplinkBytes 1 7 32777 0 3 11 0)).serving ≠ 0 ∧
    (UplinkHeader.read (uplinkBytes 1 7 10 0 0 0 0)).serving = 0 := by decide +kernel

/-- Square 9 with cell places 0 and 1 fresh, the second the better, and crane 0 LINKED there through cell 0xB. -/
def coverSquare : Square :=
  { Square.powerOn with
    entries := upd (upd Square.powerOn.entries 0 (.fresh (-800) 0)) 1 (.fresh (-700) 0)
    state := .covered
    best := some 1
    bestEstimate := some (-700) }

def coverState : State :=
  { downState with
    cranes := upd State.reset.cranes 0 { downCrane with serving := 0xB }
    grid := { State.reset.grid with
      cells := upd (upd State.reset.grid.cells 0 (some 0xB)) 1 (some 0xC)
      squares := upd State.reset.grid.squares 9 coverSquare } }

/-- R88: EB − ES is 100, and the margin 12 × 8 is 96. -/
theorem test_steer : (((coverState.steerCheck 0 5000).crane 0).steerHoldoff == some 10005000) = true := by decide +kernel

theorem witness_SteerPostedWhenDue : (coverState.crane 0).link = .linked ∧ (coverState.crane 0).square = some 9 ∧
    coverState.grid.cellIndex (coverState.crane 0).serving = some 0 ∧ (coverState.square 9).entries.get 0 = .fresh (-800) 0 ∧
    (coverState.square 9).best = some 1 ∧ (coverState.square 9).bestEstimate = some (-700) ∧ (1 : Fin 24) ≠ 0 ∧
    (coverState.grid.params.steerMargin : Int) * 8 ≤ -700 - -800 ∧ (coverState.crane 0).steerHoldoff = none ∧
    (coverState.crane 15).link = .dormant := by decide +kernel

theorem witness_SquareChangeJudgesCranes : (coverState.square 9).state = .covered ∧ SquareState.hole ≠ .covered ∧
    (coverState.crane 0).square = some 9 ∧ (coverState.crane 0).link = .linked ∧ (coverState.crane 15).square ≠ some 9 := by
  decide +kernel

/-- Crane 0, with a well-formed pending list, is the only crane in square 9. -/
theorem witness_SquareChangeJudgesCranes_transition : PendingWf (coverState.crane 0) ∧
    (∀ j, j ≠ 0 → (coverState.crane j).square ≠ some 9) ∧
    (coverState.crane 0).errors.countP (· != .good) < (coverState.crane 0).params.degrade := by
  refine ⟨?_, by decide +kernel, by decide +kernel⟩
  have : coverState.crane 0 = { downCrane with serving := 0xB } := by decide +kernel
  rw [this]
  exact pendingWf_downCrane

theorem square_downState (q : Fin 512) : downState.square q = Square.powerOn := by
  simp [State.square, downState, withWindow, State.reset, Grid.powerOn, Vector.get]

theorem witness_NoLinkedCraneInWeakSquareKept : NoLinkedCraneInWeakSquare (waitingState downState) ∧
    (∃ t, step (waitingState downState) = .next t) ∧ ((waitingState downState).crane 0).link = .linked :=
  ⟨fun _ q _ _ => by
      change (downState.square q).state ≠ .hole ∧ (downState.square q).state ≠ .marginal
      rw [square_downState]
      decide, ⟨_, rfl⟩, by decide +kernel⟩

/-- The down state at a local time, with the last success of a RUNNING and SYNCED time base at 0. -/
def expiryState (lt : Nat) : State :=
  { downState with time := { State.reset.time with lt := lt, run := .running, sync := .synced, lastSuccess := some 0 } }

/-- R83: the heartbeat of crane 0 has passed. -/
theorem test_heartbeat : nextIs (.heartbeatExpiry 0) (expiryState 101001)
    (fun t => (t.crane 0).link == .lost && (t.crane 0).heartbeat == none) = true := by decide +kernel

/-- R56. -/
theorem test_slotExpiry : nextIs (.slotExpiry 0) (expiryState 50001)
    (fun t => ((t.crane 0).slot 1).state == .expired && (t.crane 0).unsent == 1 && (t.crane 0).pendingSlots == []) = true ∧
    nextIs (.slotExpiry 0) (expiryState 50000) (fun t => ((t.crane 0).slot 1).state == .pending) = true := by decide +kernel

theorem witness_Expiries : (expiryState 8000001).inReset = false ∧ Settled (expiryState 8000001) ∧
    (expiryState 8000001).time.run = .running ∧ (expiryState 8000001).time.sync = .synced ∧
    (expiryState 8000001).time.lastSuccess = some 0 ∧
    0 + 8 * (1000 * (expiryState 8000001).time.interval) < (expiryState 8000001).time.lt ∧
    ((expiryState 101001).crane 0).link ≠ .dormant ∧ ((expiryState 101001).crane 0).heartbeat = some 101000 ∧
    101000 < (expiryState 101001).time.lt ∧ ((expiryState 50001).crane 0).pendingSlots = [1] ∧
    (((expiryState 50001).crane 0).slot 1).state = .pending ∧
    (((expiryState 50001).crane 0).slot 1).deadline < (expiryState 50001).time.lt := by
  unfold Settled; decide +kernel

theorem summaryFits_powerOn : SummaryFits Square.powerOn := by
  have h : ∀ c : Fin 24, Square.powerOn.entries.get c = .absent := by decide +kernel
  refine ⟨⟨fun _ c e u hc => ?_, fun _ => rfl⟩, fun _ => ⟨rfl, rfl⟩, fun c e hb => ?_⟩
  · rw [h c] at hc; cases hc
  · obtain ⟨u, hu⟩ := hb.1
    rw [h c] at hu; cases hu

/-- One ACTIVE entry at index 0 with tag 5, last sequence 10 and last heard 0, setpoint −18.00 °C and F −18.00 °C. -/
def activeEntry : ReeferEntry :=
  { ReeferEntry.cleared with
    state := .active
    tag := 5
    lastSequence := some 10
    setpoint := some (-1800)
    filtered := some (-1800)
    power := .on }

/-- The reset state with the entry at index 0. -/
def reeferState (e : ReeferEntry) : State :=
  { withWindow (windowOf .reeferIn) with reefer := { State.reset.reefer with entries := upd State.reset.reefer.entries 0 e } }

theorem entry_reeferState (e : ReeferEntry) (n : Fin 4096) :
    (reeferState e).entry n = if n = 0 then e else ReeferEntry.cleared := by
  unfold State.entry reeferState
  rw [upd_get]
  split
  · rfl
  · simp [State.reset, ReeferTable.powerOn, Vector.get]

theorem notHeld_reeferState (e : ReeferEntry) (tag : Nat) (h : e.state = .vacant ∨ e.tag ≠ tag) : NotHeld (reeferState e) tag := by
  intro n
  rw [entry_reeferState]
  split
  · exact h
  · exact .inl rfl

theorem tagsDistinct_reeferState : TagsDistinct (reeferState activeEntry) := by
  refine ⟨fun n h => ?_, fun n m hn hm _ => ?_⟩
  · rw [entry_reeferState] at h ⊢
    split
    · decide +kernel
    · next hn => rw [if_neg hn] at h; exact absurd rfl h
  · have z : ∀ k : Fin 4096, ((reeferState activeEntry).entry k).state ≠ .vacant → k = 0 := by
      intro k hk
      rw [entry_reeferState] at hk
      by_contra h
      rw [if_neg h] at hk
      exact hk rfl
    exact (z n hn).trans (z m hm).symm

theorem witness_TablesConsistentKept : (CraneIdsDistinct (waitingState downState) ∧ LinkedCraneHeard (waitingState downState) ∧
      ∀ q, SummaryFits ((waitingState downState).square q)) ∧ CellsDistinct (waitingState coverState) ∧
    TagsDistinct (waitingState (reeferState activeEntry)) ∧ ∃ t, step (waitingState downState) = .next t := by
  refine ⟨⟨by unfold CraneIdsDistinct; decide +kernel, by unfold LinkedCraneHeard; decide +kernel, fun q => ?_⟩, ?_,
    tagsDistinct_reeferState, _, rfl⟩
  · change SummaryFits (downState.square q)
    rw [square_downState]
    exact summaryFits_powerOn
  · refine ⟨by decide +kernel, fun c d n hc hd => ?_⟩
    have h : ∀ c d : Fin 24, (waitingState coverState).grid.cells.get c = (waitingState coverState).grid.cells.get d →
        (waitingState coverState).grid.cells.get c = none ∨ c = d := by decide +kernel
    rcases h c d (hc.trans hd.symm) with h | h
    · rw [hc] at h; cases h
    · exact h

/-! ## Chapter 5 -/

/-- R93: a new identity goes into an empty place; an identity of another place is refused. -/
theorem test_setCell : nextIs .setCell (offered coverState 10 [2, 0xD]) (fun t => t.grid.cells.get 2 == some 0xD) = true ∧
    nextIs .setCell (offered coverState 10 [2, 0xC]) (fun t => t.cmd.commandReport == ⟨1, .overlap⟩) = true := by decide +kernel

/-- R94. -/
theorem test_clearCell : nextIs .clearCell (offered coverState 11 [2]) (fun t => t.cmd.commandReport == ⟨1, .notFound⟩) = true := by
  decide +kernel

theorem witness_SetAndClearCell : Offered .setCell (offered coverState 10 [24, 1]) ∧ 23 < (offered coverState 10 [24, 1]).arg 1 ∧
    Offered .setCell (offered coverState 10 [1, 0xC]) ∧ (1 : Fin 24).val = (offered coverState 10 [1, 0xC]).arg 1 ∧
    (offered coverState 10 [1, 0xC]).arg 2 ≠ 0 ∧ (∀ d, d ≠ 1 → coverState.grid.cells.get d ≠ some 0xC) ∧
    (∃ d, d ≠ 1 ∧ coverState.grid.cells.get d = some 0xB) ∧ coverState.grid.cells.get 23 = none ∧
    Offered .clearCell (offered coverState 11 [24]) ∧ Offered .clearCell (offered coverState 11 [0]) ∧
    (0 : Fin 24).val = (offered coverState 11 [0]).arg 1 ∧ coverState.grid.cells.get 0 ≠ none := by
  and_intros <;> decide +kernel

/-- The signed argument of a negative value. -/
def negative (n : Nat) : Nat := 4294967296 - n

/-- Coverage arguments in range, at the ends of three ranges. -/
def coverageList : List Nat := [negative 280, negative 100, negative 100, negative 40, 10, 80, 600, 128]

/-- Criteria arguments at ends of their ranges, for an index. -/
def criteriaList (index : Nat) : List Nat := [index, 1000, 0, 4, 100000, 8, 60, 90, 7200]

/-- R106. -/
theorem test_setCoverageParameters : nextIs .setCoverageParameters (offered State.reset 12 coverageList)
      (fun t => t.grid.params.holeEnter == -280 && t.grid.params.segmentCount == 128) = true ∧
    nextIs .setCoverageParameters (offered State.reset 12 (negative 100 :: coverageList.tail))
      (fun t => t.cmd.commandReport == ⟨1, .badArgument⟩) = true := by decide +kernel

/-- R116, R118. -/
theorem test_setCriteria : nextIs .setCriteria (offered State.reset 14 (criteriaList 15))
      (fun t => (t.criteria 15).limit == 100000 && (t.criteria 15).silentLimit == 7200) = true ∧
    nextIs .setEnrolmentMode (offered State.reset 17 [1]) (fun t => t.reefer.mode == .auto) = true := by decide +kernel

theorem witness_SetTableParameters : Offered .setCoverageParameters (offered State.reset 12 coverageList) ∧
    CoverageArgsGood (offered State.reset 12 coverageList) ∧ ¬CoverageArgsGood (offered State.reset 12 []) ∧
    Offered .setCriteria (offered State.reset 14 (criteriaList 15)) ∧ CriteriaArgsGood (offered State.reset 14 (criteriaList 15)) ∧
    (15 : Fin 16).val = (offered State.reset 14 (criteriaList 15)).arg 1 ∧ 15 < (offered State.reset 14 (criteriaList 16)).arg 1 ∧
    ¬CriteriaArgsGood (offered State.reset 14 []) ∧ Offered .setEnrolmentMode (offered State.reset 17 [1]) ∧
    (offered State.reset 17 [1]).arg 1 ≤ 1 ∧ Offered .setEnrolmentMode (offered State.reset 17 [2]) ∧
    1 < (offered State.reset 17 [2]).arg 1 := by
  and_intros <;> first
    | decide +kernel
    | (unfold CoverageArgsGood; decide +kernel)
    | (unfold CriteriaArgsGood; decide +kernel)

/-- Of two equal fresh estimates the lower index is the best (R99). -/
def tieEntries : Vector CellEntry 24 := upd (upd Square.powerOn.entries 3 (.fresh (-700) 0)) 1 (.fresh (-700) 0)

theorem test_bestCell_tie : bestCell tieEntries = some (1, -700) ∧
    (({ Square.powerOn with entries := tieEntries } : Square).summarised Grid.powerOn.params ⟨0, .unset⟩).state = .covered := by
  decide +kernel

theorem witness_SummaryRecomputed : BestOf tieEntries 1 (-700) ∧ (∃ c e u, tieEntries.get c = .fresh e u) ∧
    ∀ c e u, Square.powerOn.entries.get c ≠ .fresh e u := by
  have h : ∀ d : Fin 24, tieEntries.get d = .absent ∨ (tieEntries.get d = .fresh (-700) 0 ∧ 1 ≤ d) := by decide +kernel
  have h0 : ∀ c : Fin 24, Square.powerOn.entries.get c = .absent := by decide +kernel
  refine ⟨⟨⟨0, by decide +kernel⟩, fun d f u hd => ?_⟩, ⟨1, -700, 0, by decide +kernel⟩, fun c e u hc => ?_⟩
  · rcases h d with hh | hh
    · rw [hh] at hd; cases hd
    · rw [hh.1] at hd
      cases hd
      exact .inr ⟨rfl, hh.2⟩
  · rw [h0 c] at hc; cases hc

/-- R98: from −800, a sample of −95 (−760) with weight 2 moves the estimate by 40 ÷ 4 = 10. -/
theorem test_sample : (((coverState.sample 2 1 0xB (-95) 9 (.uplink 0)).square 9).entries.get 0 == .fresh (-790) 9) = true := by
  decide +kernel

/-- R97: an unknown identity counts and takes the lowest place of the limiter. -/
theorem test_sample_unknown : ((coverState.sample 2 1 0xE (-95) 9 (.uplink 0)).grid.unknownCells == 1 &&
    (coverState.sample 2 1 0xE (-95) 9 (.uplink 0)).grid.limiter.get 0 == some ⟨0xE, 2000⟩) = true := by decide +kernel

theorem witness_SampleApplied : coverState.grid.cellIndex 0xB = some 0 ∧ coverState.grid.cellIndex 0xE = none := by decide +kernel

/-- A measurement record with one pair. -/
def measureBytes (kind band segment count cell level : Nat) : List Byte :=
  beBytes 1 kind ++ beBytes 1 band ++ beBytes 2 segment ++ beBytes 4 77 ++ beBytes 1 count ++ List.replicate 7 0 ++
    beBytes 4 cell ++ beBytes 2 level ++ List.replicate 42 0

def measureState (l : List Byte) : State :=
  { coverState with
    windows := (withWindow (windowOf .measureIn)).windows
    intake := { State.reset.intake with measure := [queued l 5 none] } }

/-- R104, R105: segment 200 is clamped to 127, and the record is used. -/
theorem test_measurement : nextIs .measurementRecordDequeue (measureState (measureBytes 1 1 200 1 0xB 65441))
    (fun t => t.grid.measureUsed == 1 && t.grid.measureClamped == 1 &&
      (t.square 509).entries.get 0 == .fresh (-760) 5) = true := by decide +kernel

theorem witness_MeasurementRecordHandled :
    Free .measureJob (measureState (measureBytes 2 4 2 1 0xB 0)) ∧
    (measureState (measureBytes 2 4 2 1 0xB 0)).intake.measure = [queued (measureBytes 2 4 2 1 0xB 0) 5 none] ∧
    (MeasureRecord.read (measureBytes 2 4 2 1 0xB 0)).kind ≠ 1 ∧
    (MeasureRecord.read (measureBytes 1 3 127 1 0xB 65441)).kind = 1 ∧ (MeasureRecord.read (measureBytes 1 3 127 1 0xB 65441)).band ≤ 3 ∧
    (MeasureRecord.read (measureBytes 1 3 127 1 0xB 65441)).pairs.take (min 1 8) = [(0xB, -95)] ∧
    (measureState []).grid.cellIndex 0xB = some 0 := by
  and_intros <;> decide +kernel

/-- The aging pass at square 9, at a local time. -/
def agingState (lt : Nat) : State :=
  { coverState with
    time := { State.reset.time with lt := lt }
    grid := { coverState.grid with aging := { inProgress := true, position := 9, startHeld := false, startTakenAt := none } } }

/-- R102: the entries are older than 600 s; the square becomes UNKNOWN. -/
theorem test_agingVisit : nextIs .agingVisit (agingState 600000001)
      (fun t => (t.square 9).entries.get 0 == .stale (-800) 0 && (t.square 9).state == .unknown && t.grid.aging.position == 10) =
      true ∧
    nextIs .agingVisit (agingState 600000000) (fun t => (t.square 9).entries.get 0 == .fresh (-800) 0) = true := by decide +kernel

theorem witness_AgingVisitAges : Free .agingPass (agingState 600000001) ∧ (agingState 600000001).grid.aging.inProgress = true ∧
    (agingState 600000001).grid.aging.position = (9 : Fin 512).val := by
  and_intros <;> decide +kernel

def clearingState : State :=
  { coverState with
    grid := { coverState.grid with clearing := true, clearPosition := 9 }
    cmd := { coverState.cmd with state := .long, busy := true, longReport := ⟨8, .running⟩ } }

/-- R107. -/
theorem test_clearGridVisit : nextIs .clearGridVisit clearingState
    (fun t => (t.square 9).entries.get 1 == .absent && (t.square 9).state == .unknown && t.grid.clearPosition == 10) = true := by
  decide +kernel

/-- A state whose square 9 is COVERED and has no crane in it. -/
theorem witness_ClearGridVisitClears_empty :
    let s := { clearingState with cranes := State.reset.cranes }
    Free .longOperation s ∧ s.grid.clearing = true ∧ s.grid.clearPosition = (9 : Fin 512).val ∧
      (∀ i, (s.crane i).square ≠ some 9) ∧ (s.square 9).state = .covered := by
  and_intros <;> decide +kernel

theorem witness_ClearGridVisitClears : Free .longOperation clearingState ∧ clearingState.grid.clearing = true ∧
    clearingState.grid.clearPosition = (9 : Fin 512).val := by
  and_intros <;> decide +kernel

theorem witness_RangesKept : TimeInRange (waitingState downState).time ∧
    (∀ q c, EstimateInRange (((waitingState downState).square q).entries.get c)) ∧
    (∀ n, EntryInRange ((waitingState (reeferState activeEntry)).entry n)) ∧
    (∀ i, CriteriaInRange ((waitingState (reeferState activeEntry)).criteria i)) ∧
    ∃ t, step (waitingState downState) = .next t := by
  have h0 : ∀ c : Fin 24, Square.powerOn.entries.get c = .absent := by decide +kernel
  have ha : EntryInRange activeEntry := by
    unfold EntryInRange
    refine ⟨?_, ?_, by decide, by decide, by decide, ?_, by decide, ?_, by decide, by decide, by decide⟩
    · intro f h; cases h; decide
    · intro x h; cases h; decide
    · intro h; cases h
    · intro n h; cases h; decide
  have hc : EntryInRange ReeferEntry.cleared := by
    unfold EntryInRange
    refine ⟨?_, ?_, by decide, by decide, by decide, fun _ => ⟨rfl, rfl⟩, by decide, ?_, by decide, by decide, by decide⟩
    · intro f h; cases h
    · intro x h; cases h
    · intro n h; cases h
  refine ⟨by unfold TimeInRange; decide +kernel, fun q c => ?_, fun n => ?_,
    by unfold CriteriaInRange; decide +kernel, _, rfl⟩
  · change EstimateInRange ((downState.square q).entries.get c)
    rw [square_downState, h0 c]
    trivial
  · change EntryInRange ((reeferState activeEntry).entry n)
    rw [entry_reeferState]
    split
    · exact ha
    · exact hc

/-! ## Chapters 6 and 7 -/

/-- A reefer report: kind, sequence, tag, supply and return temperature, setpoint, power state, alarm codes, serving cell. -/
def reportBytes (kind sequence tag supply returnAir setpoint power : Nat) (alarms : List Nat) (serving : Nat) : List Byte :=
  beBytes 1 kind ++ beBytes 1 0 ++ beBytes 2 sequence ++ beBytes 4 tag ++ beBytes 2 supply ++ beBytes 2 returnAir ++
    beBytes 2 setpoint ++ beBytes 1 power ++ beBytes 1 alarms.length ++
    ((alarms ++ List.replicate 6 0).take 6).flatMap (beBytes 1) ++ beBytes 4 serving ++ List.replicate 38 0

/-- The state with entry 0 and one report queued. -/
def reportState (e : ReeferEntry) (l : List Byte) (arrival : Nat) : State :=
  { reeferState e with intake := { State.reset.intake with reefer := [queued l arrival none] } }

/-- −18.00 °C as a 16-bit field. -/
def minus18 : Nat := 65536 - 1800

/-- The worked case of 6.4: the missed and report counts, the alarm list, the defrost start. -/
theorem test_report_bookkeeping :
    nextIs .reeferReportDequeue (reportState activeEntry (reportBytes 1 12 5 32767 32767 minus18 3 [17, 0, 42] 0) 1200000000)
      (fun t => (t.entry 0).missed == 1 && (t.entry 0).reports == 1 && (t.entry 0).alarms == [17, 42] &&
        (t.entry 0).defrostStart == some 1200000000 && (t.entry 0).lastHeard == 1200000000 &&
        (t.entry 0).state == .active && (t.entry 0).filtered == some (-1800)) = true := by decide +kernel

/-- R136, R138, R139: an excess of 100 for 600 s adds 60,000; F moves by (−1000 − −1800) ÷ 4 = 200, which is in the band. -/
theorem test_report_arithmetic :
    nextIs .reeferReportDequeue
      (reportState { activeEntry with excess := 100, side := .above } (reportBytes 1 11 5 (65536 - 1000) 0 minus18 1 [] 0) 600000000)
      (fun t => (t.entry 0).accumulator == 60000 && (t.entry 0).filtered == some (-1600) && (t.entry 0).side == .inBand &&
        (t.entry 0).inBandCount == 1) = true := by decide +kernel

/-- R117: the first new tag takes entry 0. -/
theorem test_enrolReefer : nextIs .enrolReefer (offered (reeferState activeEntry) 15 [5, 3, 512])
      (fun t => (t.entry 0).criteria == 3 && (t.entry 0).square == some 511 && (t.entry 0).state == .active) = true ∧
    nextIs .enrolReefer (offered State.reset 15 [5, 16, 0]) (fun t => t.cmd.commandReport == ⟨1, .badArgument⟩) = true := by
  decide +kernel

/-- R119. -/
theorem test_removeReefer : nextIs .removeReefer (offered (reeferState activeEntry) 16 [5])
    (fun t => t.entry 0 == ReeferEntry.cleared && t.cmd.commandReport == ⟨1, .done⟩) = true := by decide +kernel

theorem holds_reeferState (e : ReeferEntry) (h : e.state ≠ .vacant) : Holds (reeferState e) 0 e.tag := by
  refine ⟨?_, ?_, fun m hm => absurd hm (Fin.not_lt_zero m)⟩ <;> rw [entry_reeferState, if_pos rfl]
  exact h

/-- Every entry SILENT, or every entry ACTIVE, with tag 5. -/
def allEntries (st : ReeferState) : State :=
  { State.reset with reefer := { State.reset.reefer with
      mode := .auto
      entries := Vector.replicate 4096 { activeEntry with state := st } } }

theorem entry_allEntries (st : ReeferState) (n : Fin 4096) : (allEntries st).entry n = { activeEntry with state := st } := by
  simp [State.entry, allEntries, Vector.get]

theorem place_vacant : PlaceForNewTag State.reset 0 false := by
  refine ⟨?_, fun m hm => absurd hm (Fin.not_lt_zero m)⟩
  simp [State.entry, State.reset, ReeferTable.powerOn, ReeferEntry.cleared, Vector.get]

theorem place_evicted : PlaceForNewTag (allEntries .silent) 0 true := by
  refine ⟨fun m => ?_, ?_, fun m _ => .inr ⟨?_, Fin.zero_le m⟩⟩ <;> simp [entry_allEntries]

theorem notHeld_reset (tag : Nat) : NotHeld State.reset tag := by
  intro n
  left
  simp [State.entry, State.reset, ReeferTable.powerOn, ReeferEntry.cleared, Vector.get]

theorem notHeld_allEntries (st : ReeferState) : NotHeld (allEntries st) 6 := by
  intro n
  rw [entry_allEntries]
  exact .inr (by change (5 : Nat) ≠ 6; decide)

theorem offered_reefer (s : State) (code : Nat) (l : List Nat) : (offered s code l).reefer = s.reefer := by
  dsimp only [offered]

theorem offered_entry (s : State) (code : Nat) (l : List Nat) (n : Fin 4096) : (offered s code l).entry n = s.entry n := by
  unfold State.entry
  rw [offered_reefer]

/-- What holds of the reefer table holds with a command offered. -/
theorem holds_offered {s : State} {n : Fin 4096} {tag : Nat} (code : Nat) (l : List Nat) (h : Holds s n tag) :
    Holds (offered s code l) n tag := by
  unfold Holds at *
  simpa only [offered_entry] using h

theorem notHeld_offered {s : State} {tag : Nat} (code : Nat) (l : List Nat) (h : NotHeld s tag) :
    NotHeld (offered s code l) tag := by
  unfold NotHeld at *
  simpa only [offered_entry] using h

theorem place_offered {s : State} {n : Fin 4096} {b : Bool} (code : Nat) (l : List Nat) (h : PlaceForNewTag s n b) :
    PlaceForNewTag (offered s code l) n b := by
  unfold PlaceForNewTag at *
  simpa only [offered_entry] using h

theorem offered_of {s : State} {k : Command} (code : Nat) (l : List Nat) (h1 : s.inReset = false) (h2 : Settled s)
    (h3 : s.arb.held = []) (h4 : (offered s code l).cmd.tag ≠ s.cmd.lastTaken) (h5 : (offered s code l).cmd.code = k.code)
    (h6 : s.cmd.state = .idle) : Offered k (offered s code l) := by
  unfold Offered Free
  refine ⟨⟨?_, ?_, ?_⟩, ?_, ?_, h5, .inl ?_⟩
  · dsimp only [offered]; exact h1
  · unfold Settled at *; dsimp only [offered]; exact h2
  · dsimp only [offered]; simp [Arbiter.holds, h3]
  · dsimp only [offered]
  · intro h
    apply h4
    rw [h]
    dsimp only [offered]
  · dsimp only [offered]; exact h6

theorem settled_of {s : State} (h1 : s.notice = State.reset.notice) (h2 : s.inReset = false) (h3 : s.scratch = .idle) :
    Settled s := by
  refine ⟨?_, h3⟩
  rw [h1, h2]
  decide +kernel

theorem enrol_offered (s : State) (args : List Nat) (h1 : s.notice = State.reset.notice) (h2 : s.inReset = false)
    (h3 : s.scratch = .idle) (h4 : s.arb = State.reset.arb) (h5 : s.cmd = State.reset.cmd)
    (h6 : (offered State.reset 15 args).cmd.code = 15) : Offered .enrolReefer (offered s 15 args) := by
  have hc : (offered s 15 args).cmd = (offered State.reset 15 args).cmd := by dsimp only [offered]; rw [h5]
  refine offered_of _ _ h2 (settled_of h1 h2 h3) (by rw [h4]; rfl) ?_ ?_ (by rw [h5]; rfl)
  · rw [hc, h5, show (offered State.reset 15 args).cmd.tag = 1 by dsimp only [offered, CommandUnit.tag]; decide +kernel]
    decide +kernel
  · rw [hc]; exact h6

theorem remove_offered (s : State) (args : List Nat) (h1 : s.notice = State.reset.notice) (h2 : s.inReset = false)
    (h3 : s.scratch = .idle) (h4 : s.arb = State.reset.arb) (h5 : s.cmd = State.reset.cmd)
    (h6 : (offered State.reset 16 args).cmd.code = 16) : Offered .removeReefer (offered s 16 args) := by
  have hc : (offered s 16 args).cmd = (offered State.reset 16 args).cmd := by dsimp only [offered]; rw [h5]
  refine offered_of _ _ h2 (settled_of h1 h2 h3) (by rw [h4]; rfl) ?_ ?_ (by rw [h5]; rfl)
  · rw [hc, h5, show (offered State.reset 16 args).cmd.tag = 1 by dsimp only [offered, CommandUnit.tag]; decide +kernel]
    decide +kernel
  · rw [hc]; exact h6

theorem witness_EnrolAndRemoveReefer_held :
    Offered .enrolReefer (offered (reeferState activeEntry) 15 [0, 0, 0]) ∧
    Offered .enrolReefer (offered (reeferState activeEntry) 15 [5, 15, 512]) ∧
    (15 : Fin 16).val = (offered State.reset 15 [5, 15, 512]).arg 2 ∧
    (offered State.reset 15 [5, 15, 512]).arg 3 = (511 : Fin 512).val + 1 ∧
    Holds (offered (reeferState activeEntry) 15 [5, 15, 512]) 0 activeEntry.tag ∧
    Offered .removeReefer (offered (reeferState activeEntry) 16 [5]) ∧
    Holds (offered (reeferState activeEntry) 16 [5]) 0 activeEntry.tag :=
  ⟨enrol_offered _ _ rfl rfl rfl rfl rfl (by decide +kernel), enrol_offered _ _ rfl rfl rfl rfl rfl (by decide +kernel),
    by decide +kernel, by decide +kernel, holds_offered _ _ (holds_reeferState activeEntry (by decide)),
    remove_offered _ _ rfl rfl rfl rfl rfl (by decide +kernel), holds_offered _ _ (holds_reeferState activeEntry (by decide))⟩

theorem witness_EnrolAndRemoveReefer_new :
    (Offered .enrolReefer (offered State.reset 15 [6, 0, 0]) ∧ NotHeld (offered State.reset 15 [6, 0, 0]) 6 ∧
      PlaceForNewTag (offered State.reset 15 [6, 0, 0]) 0 false) ∧
    (Offered .enrolReefer (offered (allEntries .silent) 15 [6, 0, 0]) ∧ NotHeld (offered (allEntries .silent) 15 [6, 0, 0]) 6 ∧
      PlaceForNewTag (offered (allEntries .silent) 15 [6, 0, 0]) 0 true) ∧
    (Offered .enrolReefer (offered (allEntries .active) 15 [6, 0, 0]) ∧ NotHeld (offered (allEntries .active) 15 [6, 0, 0]) 6 ∧
      ∀ n, ((allEntries .active).entry n).state ≠ .vacant ∧ ((allEntries .active).entry n).state ≠ .silent) ∧
    (Offered .removeReefer (offered State.reset 16 [6]) ∧ NotHeld (offered State.reset 16 [6]) 6) ∧
    Offered .removeReefer (offered State.reset 16 [0]) := by
  refine ⟨⟨enrol_offered _ _ rfl rfl rfl rfl rfl (by decide +kernel), notHeld_offered _ _ (notHeld_reset 6),
      place_offered _ _ place_vacant⟩,
    ⟨enrol_offered _ _ rfl rfl rfl rfl rfl (by decide +kernel), notHeld_offered _ _ (notHeld_allEntries _),
      place_offered _ _ place_evicted⟩,
    ⟨enrol_offered _ _ rfl rfl rfl rfl rfl (by decide +kernel), notHeld_offered _ _ (notHeld_allEntries _), fun n => ?_⟩,
    ⟨remove_offered _ _ rfl rfl rfl rfl rfl (by decide +kernel), notHeld_offered _ _ (notHeld_reset 6)⟩,
    remove_offered _ _ rfl rfl rfl rfl rfl (by decide +kernel)⟩
  rw [entry_allEntries]
  decide +kernel

/-- Each kind of unused report: rejected, unknown in MANUAL, dropped in AUTO, duplicate and old. -/
theorem witness_UnusedReeferReport :
    Free .reeferJob (reportState activeEntry (reportBytes 2 0 5 0 0 0 1 [] 0) 5) ∧
    (ReeferReport.read (reportBytes 2 0 5 0 0 0 1 [] 0)).kind ≠ 1 ∧ (ReeferReport.read (reportBytes 1 0 0 0 0 0 1 [] 0)).tag = 0 ∧
    (ReeferReport.read (reportBytes 1 0 6 0 0 0 1 [] 0)).kind = 1 ∧ (ReeferReport.read (reportBytes 1 0 6 0 0 0 1 [] 0)).tag = 6 ∧
    NotHeld (reportState activeEntry (reportBytes 1 0 6 0 0 0 1 [] 0) 5) 6 ∧
    (reportState activeEntry (reportBytes 1 0 6 0 0 0 1 [] 0) 5).reefer.mode = .manual ∧
    NotHeld (allEntries .active) 6 ∧ (allEntries .active).reefer.mode = .auto ∧
    (∀ n, ((allEntries .active).entry n).state ≠ .vacant ∧ ((allEntries .active).entry n).state ≠ .silent) ∧
    Holds (reportState activeEntry (reportBytes 1 10 5 0 0 0 1 [] 0) 5) 0 5 ∧ seqDiff 10 10 = 0 ∧ 32768 ≤ seqDiff 32778 10 := by
  refine ⟨?_, ?_, ?_, ?_, ?_, notHeld_reeferState activeEntry 6 (.inr (by decide +kernel)), rfl, notHeld_allEntries _, rfl,
    fun n => ?_, holds_reeferState activeEntry (by decide), ?_, ?_⟩
  case refine_6 => rw [entry_allEntries]; decide +kernel
  case refine_1 => exact ⟨rfl, by unfold Settled; decide +kernel, by decide +kernel⟩
  all_goals decide +kernel

/-- A report for the held entry, and one that AUTO enrols by eviction. -/
theorem witness_UsedReeferReport :
    Free .reeferJob (reportState activeEntry (reportBytes 1 32777 5 0 0 0 1 [] 0) 5) ∧
    ReportEntry (reportState activeEntry (reportBytes 1 32777 5 0 0 0 1 [] 0) 5)
      (ReeferReport.read (reportBytes 1 32777 5 0 0 0 1 [] 0)) 5 0 activeEntry ∧
    (∀ l, activeEntry.lastSequence = some l → 1 ≤ seqDiff 32777 l ∧ seqDiff 32777 l ≤ 32767) ∧
    ReportEntry (allEntries .silent) (ReeferReport.read (reportBytes 1 0 6 0 0 0 1 [] 0)) 5 0 (EnrolledAs 6 0 none 5) := by
  refine ⟨⟨rfl, by unfold Settled; decide +kernel, by decide +kernel⟩,
    ⟨by decide +kernel, by decide +kernel, .inl ⟨?_, ?_⟩⟩, fun l h => ?_,
    ⟨by decide +kernel, by decide +kernel, .inr ⟨?_, rfl, ⟨true, place_evicted⟩, ?_⟩⟩⟩
  · have : (ReeferReport.read (reportBytes 1 32777 5 0 0 0 1 [] 0)).tag = activeEntry.tag := by decide +kernel
    rw [this]
    exact holds_reeferState activeEntry (by decide)
  · exact ((entry_reeferState activeEntry 0).trans (if_pos rfl)).symm
  · cases h
    decide +kernel
  · have : (ReeferReport.read (reportBytes 1 0 6 0 0 0 1 [] 0)).tag = 6 := by decide +kernel
    rw [this]
    exact notHeld_allEntries _
  · have : (ReeferReport.read (reportBytes 1 0 6 0 0 0 1 [] 0)).tag = 6 := by decide +kernel
    rw [this]

/-- A used report of an entry in square 9 that names serving cell 11. -/
theorem witness_UsedReeferReport_sample :
    let e := { activeEntry with square := some 9 }
    let b := reportBytes 1 32777 5 0 0 0 1 [] 11
    Free .reeferJob (reportState e b 5) ∧ ReportEntry (reportState e b 5) (ReeferReport.read b) 5 0 e ∧
      (ReeferReport.read b).serving ≠ 0 := by
  refine ⟨⟨rfl, by unfold Settled; decide +kernel, by decide +kernel⟩,
    ⟨by decide +kernel, by decide +kernel, .inl ⟨?_, ?_⟩⟩, by decide +kernel⟩
  · have : (ReeferReport.read (reportBytes 1 32777 5 0 0 0 1 [] 11)).tag = 5 := by decide +kernel
    rw [this]
    exact holds_reeferState { activeEntry with square := some 9 } (by decide)
  · exact ((entry_reeferState { activeEntry with square := some 9 } 0).trans (if_pos rfl)).symm

/-- The sweep at entry 0, at a local time. -/
def sweepState (e : ReeferEntry) (lt : Nat) : State :=
  { reeferState e with
    time := { State.reset.time with lt := lt }
    reefer := { (reeferState e).reefer with sweep := { inProgress := true, position := 0, startHeld := true, startTakenAt := none } } }

/-- R127: 1800 s and 1 µs after the last report, in EXCURSION. -/
theorem test_sweepVisit : nextIs .sweepVisit (sweepState { activeEntry with state := .excursion } 1800000001)
      (fun t => (t.entry 0).state == .silent && (t.entry 0).wasInExcursion && t.reefer.sweep.position == 1) = true ∧
    nextIs .sweepVisit (sweepState activeEntry 1800000000) (fun t => (t.entry 0).state == .active) = true := by decide +kernel

theorem witness_SweepVisitSilences : Free .silenceSweep (sweepState activeEntry 1800000001) ∧
    (sweepState activeEntry 1800000001).reefer.sweep.inProgress = true ∧
    (sweepState activeEntry 1800000001).reefer.sweep.position = (0 : Fin 4096).val :=
  ⟨⟨rfl, by unfold Settled; decide +kernel, by decide +kernel⟩, rfl, rfl⟩

/-! ## Chapter 8 -/

/-- A notice of a kind. -/
def noticeKind (k : NoticeKind) : Notice := noticeOf k 0 ⟨0, .unset⟩ 0 0 0

/-- Every kind enabled, and a full queue: 2 CRANE, 20 REEFER and 10 PATH notices, as in the worked case of chapter 8. -/
def fullUnit : NoticeUnit :=
  { State.reset.notice with
    enables := 0x3FFFFFF
    queue := List.replicate 2 (noticeKind .linkUp) ++ List.replicate 20 (noticeKind .silent) ++
      List.replicate 10 (noticeKind .tornRecord)
    ring := .ready
    defBase := 0x10000000
    defLength := 16
    lengthInForce := 16
    baseMark := true
    lengthMark := true
    producer := 1040
    consumer := 1024 }

/-- The worked case: a TIME notice displaces the youngest PATH notice, behind the two CRANE notices; then a PATH notice is dropped. -/
theorem test_take_full : (fullUnit.take (noticeKind .timeViolation)).queue[2]? = some (noticeKind .timeViolation) ∧
    (fullUnit.take (noticeKind .timeViolation)).queue.length = 32 ∧
    (fullUnit.take (noticeKind .timeViolation)).overflow = 16#5 ∧ (fullUnit.take (noticeKind .timeViolation)).flags = 0x200#12 ∧
    (fullUnit.take (noticeKind .writeBlocked)).queue = fullUnit.queue := by decide +kernel

theorem witness_NoticeTaken : QueueOrdered fullUnit.queue ∧ QueueOrdered State.reset.notice.queue ∧
    fullUnit.enables.getLsbD (NoticeKind.linkUp.code - 1) = true ∧ fullUnit.queue.length = 32 ∧
    State.reset.notice.enables.getLsbD (NoticeKind.linkUp.code - 1) = false ∧
    (∃ front, fullUnit.queue = front ++ [noticeKind .tornRecord]) ∧
    NoticeKind.linkUp.cls.code < NoticeKind.tornRecord.cls.code ∧ NoticeKind.tornRecord.cls.code ≤ NoticeKind.writeBlocked.cls.code :=
  ⟨by unfold QueueOrdered; decide +kernel, by unfold QueueOrdered; decide +kernel, by decide +kernel, by decide +kernel,
    by decide +kernel, ⟨fullUnit.queue.dropLast, by decide +kernel⟩, by decide +kernel, by decide +kernel⟩

/-- The worked case's state with room for four notices. -/
def ringState : State :=
  { withWindow (windowOf .noticeRing) with notice := { fullUnit with consumer := 1028 } }

/-- R152: the first post goes to slot 1040 mod 16 = 0 and its record carries the post number in its last word. -/
theorem test_noticePost : nextIs .noticePost ringState
    (fun t => t.notice.producer == 1041 && t.notice.queue.length == 31 && t.arb.own.map (·.addr) == [0x10000000, 0x20000200] &&
      (t.arb.own.map fun w => w.data.drop 28).head? == some [0x10, 0x04, 0, 0]) = true := by decide +kernel

theorem witness_NoticePosted : Free .noticePost ringState ∧ ringState.notice.ring = .ready ∧
    (∃ n rest, ringState.notice.queue = n :: rest) ∧
    (ringState.notice.producer - ringState.notice.consumer).toNat < ringState.notice.defLength :=
  ⟨⟨rfl, by unfold Settled; decide +kernel, by decide +kernel⟩, rfl, ⟨_, _, rfl⟩, by decide +kernel⟩

/-- R147, R156: bit 26 and bit 13 are refused. -/
theorem test_enables : nextIs .setNoticeEnables (offered State.reset 22 [67108864]) (fun t => t.cmd.commandReport == ⟨1, .badArgument⟩) = true ∧
    nextIs .setIrqEnables (offered ringState 23 [4096]) (fun t => t.notice.irqEnables == 4096 && t.notice.irq) = true := by
  decide +kernel

/-- R155: NOTICE_OVERFLOW named empties the overflow set. -/
theorem test_clearFlags : nextIs .clearFlags
    (offered { ringState with notice := { ringState.notice with flags := 0x281, overflow := 16 } } 24 [0x200])
    (fun t => t.notice.flags == 0x081 && t.notice.overflow == 0) = true := by decide +kernel

theorem witness_EnablesAndFlags : Offered .setNoticeEnables (offered State.reset 22 [2 ^ 26]) ∧
    2 ^ 26 ≤ (offered State.reset 22 [2 ^ 26]).arg 1 ∧ Offered .setNoticeEnables (offered State.reset 22 [2 ^ 26 - 1]) ∧
    (offered State.reset 22 [2 ^ 26 - 1]).arg 1 < 2 ^ 26 ∧ Offered .setIrqEnables (offered State.reset 23 [2 ^ 13]) ∧
    Offered .setIrqEnables (offered State.reset 23 [2 ^ 13 - 1]) ∧ Offered .clearFlags (offered State.reset 24 [2 ^ 12]) ∧
    Offered .clearFlags (offered State.reset 24 [2 ^ 12 - 1]) := by
  and_intros <;> decide +kernel

/-- The worked case: 1020 is out of range after the fourth post, and 1028 was in range before. -/
theorem test_consumerIndexWrite :
    nextIs (.consumerIndexWrite 9 (allOn (leBytes 4 1020))) { ringState with notice := { ringState.notice with producer := 1044 } }
      (fun t => t.notice.consumer == 1028 && t.notice.flags == 0x800#12 && t.notice.consumerWord == 1020) = true ∧
    nextIs (.consumerIndexWrite 9 (allOn (leBytes 4 1028))) { ringState with notice := fullUnit }
      (fun t => t.notice.consumer == 1028 && t.arb.passing.length == 1 && t.arb.own == []) = true := by decide +kernel

/-- R150, R151: a ring base write with both marks set makes the ring PARTIAL; the ring length then completes it. -/
theorem test_ringPair : nextIs (.ringBaseWrite 9 (allOn (leBytes 8 0x10000200))) ringState (fun t => t.notice.ring == .incomplete &&
      nextIs (.ringLengthWrite 9 (allOn (leBytes 4 16))) t fun u => u.notice.ring == .ready && u.notice.defBase == 0x10000200 &&
        u.notice.producer == 0 && u.notice.consumer == 0) = true := by decide +kernel

/-- R160, R161: a tag byte written by CPID sets the offer mark. -/
theorem test_controlPageWrite :
    nextIs (.controlPageWrite 5 4 (allOn [9] ++ List.replicate 15 silentLane)) ringState
      (fun t => t.cmd.offerMark && t.cmd.tag == 9) = true ∧
    nextIs (.controlPageWrite 6 4 (allOn [9] ++ List.replicate 15 silentLane)) ringState
      (fun t => !t.cmd.offerMark && t.port.responses == [.write 6 .error]) = true := by decide +kernel

theorem pagePermits (cpid m : BitVec 6) (off : Nat) (l : List Lane)
    (h : (l.zipIdx.all fun x => !x.1.strobe || !pageForbidden (m == cpid) (off + x.2)) = true) :
    ∀ j x, l[j]? = some x → x.strobe = true →
      ¬((off + j < 0x44 ∧ m ≠ cpid) ∨ (0x80 ≤ off + j ∧ off + j < 0xA0) ∨ (0x200 ≤ off + j ∧ off + j < 0x260) ∨
        (0x400 ≤ off + j ∧ off + j < 0x600)) := by
  intro j x hx hs
  have hm : (x, j) ∈ l.zipIdx := by
    rw [List.mem_zipIdx_iff_getElem?]
    exact hx
  have := List.all_eq_true.mp h _ hm
  simp only [hs, Bool.not_true, Bool.false_or, Bool.not_eq_true', pageForbidden, Bool.or_eq_false_iff, Bool.and_eq_false_iff,
    decide_eq_false_iff_not, Bool.not_eq_false', beq_iff_eq] at this
  obtain ⟨⟨⟨h1, h2⟩, h3⟩, h4⟩ := this
  rintro (⟨ha, hb⟩ | ⟨ha, hb⟩ | ⟨ha, hb⟩ | ⟨ha, hb⟩)
  · exact h1.elim (fun h => h ha) hb
  · omega
  · omega
  · omega

theorem witness_PageWritePermitted :
    PresentsWrite ringState (.ringBaseWrite 9 (allOn (leBytes 8 0x10000200))) 9 (BitVec.ofNat 40 (ringState.pageAddr 0x100))
      (allOn (leBytes 8 0x10000200) ++ List.replicate 8 ⟨0, false⟩) ∧
    PresentsWrite ringState (.ringBaseWrite 9 []) 9 (BitVec.ofNat 40 (ringState.pageAddr 0x100)) (List.replicate 16 ⟨0, false⟩) ∧
    PresentsWrite ringState (.ringLengthWrite 9 (allOn (leBytes 4 16))) 9 (BitVec.ofNat 40 (ringState.pageAddr 0x100))
      (List.replicate 8 ⟨0, false⟩ ++ allOn (leBytes 4 16) ++ List.replicate 4 ⟨0, false⟩) ∧
    PresentsWrite ringState (.consumerIndexWrite 9 (allOn (leBytes 4 16))) 9 (BitVec.ofNat 40 (ringState.pageAddr 0x100))
      (List.replicate 12 ⟨0, false⟩ ++ allOn (leBytes 4 16)) ∧
    PresentsWrite ringState (.controlPageWrite 5 4 (allOn [9] ++ List.replicate 15 silentLane)) 5
      (BitVec.ofNat 40 (ringState.pageAddr (16 * 4))) (allOn [9] ++ List.replicate 15 silentLane) ∧
    (Transfer.write 9 (BitVec.ofNat 40 (ringState.pageAddr 0x100)) (List.replicate 12 ⟨0, false⟩ ++ allOn (leBytes 4 16))).wf = true ∧
    ringState.pageOffset (BitVec.ofNat 40 (ringState.pageAddr 0x100)).toNat = some 0x100 ∧ Settled ringState ∧
    (∀ j x, (List.replicate 12 ⟨0, false⟩ ++ allOn (leBytes 4 16))[j]? = some x → x.strobe = true →
      ¬((0x100 + j < 0x44 ∧ (9 : BitVec 6) ≠ ringState.cpid) ∨ (0x80 ≤ 0x100 + j ∧ 0x100 + j < 0xA0) ∨
        (0x200 ≤ 0x100 + j ∧ 0x100 + j < 0x260) ∨ (0x400 ≤ 0x100 + j ∧ 0x100 + j < 0x600))) ∧
    (∀ j x, (allOn [9] ++ List.replicate 15 silentLane)[j]? = some x → x.strobe = true →
      ¬((0x40 + j < 0x44 ∧ (5 : BitVec 6) ≠ ringState.cpid) ∨ (0x80 ≤ 0x40 + j ∧ 0x40 + j < 0xA0) ∨
        (0x200 ≤ 0x40 + j ∧ 0x40 + j < 0x260) ∨ (0x400 ≤ 0x40 + j ∧ 0x40 + j < 0x600))) := by
  have hw : WordLanes 0 8 (allOn (leBytes 8 0x10000200)) (allOn (leBytes 8 0x10000200) ++ List.replicate 8 ⟨0, false⟩) ∧
      WordLanes 0 8 [] (List.replicate 16 ⟨0, false⟩) ∧
      WordLanes 8 4 (allOn (leBytes 4 16)) (List.replicate 8 ⟨0, false⟩ ++ allOn (leBytes 4 16) ++ List.replicate 4 ⟨0, false⟩) ∧
      WordLanes 12 4 (allOn (leBytes 4 16)) (List.replicate 12 ⟨0, false⟩ ++ allOn (leBytes 4 16)) := by
    unfold WordLanes; decide +kernel
  refine ⟨.inr (.inl ⟨rfl, .inl ⟨_, rfl, hw.1⟩⟩), .inr (.inl ⟨rfl, .inl ⟨_, rfl, hw.2.1⟩⟩),
    .inr (.inl ⟨rfl, .inr (.inl ⟨_, rfl, hw.2.2.1⟩)⟩), .inr (.inl ⟨rfl, .inr (.inr ⟨_, rfl, hw.2.2.2⟩)⟩),
    .inr (.inr ⟨4, by decide, rfl, rfl⟩), by decide +kernel, by decide +kernel, by unfold Settled; decide +kernel,
    pagePermits _ _ _ _ (by decide +kernel), pagePermits _ _ _ _ (by decide +kernel)⟩

theorem witness_RingDefinitionKept : RingWf (waitingState ringState) ∧ ∃ t, step (waitingState ringState) = .next t := by
  refine ⟨⟨by decide +kernel, by decide +kernel, fun _ => ?_, by decide +kernel⟩, _, rfl⟩
  have h : ∃ i : Fin 32, ((waitingState ringState).window i).inUse = true ∧
      ((waitingState ringState).window i).kind = some .noticeRing ∧
      ((waitingState ringState).window i).base ≤ (waitingState ringState).notice.defBase ∧
      (waitingState ringState).notice.defBase + 32 * (waitingState ringState).notice.defLength ≤
        ((waitingState ringState).window i).base + ((waitingState ringState).window i).size := ⟨0, by decide +kernel⟩
  unfold RingJudgedOn
  rw [if_pos (by decide +kernel), if_pos ⟨by decide +kernel, by decide +kernel, by decide +kernel, h⟩]
  rfl

/-! ## Chapter 9 -/

/-- The clearing state with a command offered. -/
def busyOffered (code : Nat) (args : List Nat) : State := offered clearingState code args

/-- R161. -/
theorem test_offerJudgement : nextIs .offerJudgement
    { State.reset with cmd := { State.reset.cmd with offerMark := true } } (fun t => !t.cmd.offerMark && t.arb.own == []) = true := by
  decide +kernel

/-- R162: code 28 names no command. -/
theorem test_unknownCommand : nextIs .unknownCommand (offered State.reset 28 [])
    (fun t => t.cmd.commandReport == ⟨1, .unknownCommand⟩ && t.cmd.lastTaken == 1) = true := by decide +kernel

/-- R165: SET CELL in LONG is refused as busy, and the last taken tag keeps its value. -/
theorem test_busyRefusal : nextIs .busyRefusal (busyOffered 10 [2, 0xD])
    (fun t => t.cmd.busyReport == ⟨1, .busy⟩ && t.cmd.lastTaken == 0 && t.grid.cells.get 2 == none) = true := by decide +kernel

theorem witness_OffersJudged :
    Free .command { State.reset with cmd := { State.reset.cmd with offerMark := true } } ∧
    ({ State.reset.cmd with offerMark := true } : CommandUnit).tag = State.reset.cmd.lastTaken ∧
    Free .command (offered State.reset 28 []) ∧ (offered State.reset 28 []).cmd.tag ≠ (offered State.reset 28 []).cmd.lastTaken ∧
    27 < (offered State.reset 28 []).cmd.code ∧ (offered State.reset 0 []).cmd.code = 0 ∧
    Free .command (busyOffered 28 []) ∧ (busyOffered 28 []).cmd.state = .long ∧
    (busyOffered 28 []).cmd.code ∉ [8, 9, 22, 23, 24, 27] ∧ (busyOffered 28 []).cmd.tag ≠ (busyOffered 28 []).cmd.lastTaken := by
  and_intros <;> decide +kernel

/-- The state with a CRANE_MIRROR window, and the refresh of that mirror at a position. -/
def mirrorState (position : Nat) : State :=
  { withWindow (windowOf .craneMirror) with
    mirror := { target := some .crane, position := position }
    cmd := { State.reset.cmd with state := .long, busy := true, longReport := ⟨8, .running⟩, lastTaken := 8 } }

/-- R166: not found without a window, and RUNNING with one. -/
theorem test_refreshMirror : nextIs .refreshMirror (offered State.reset 18 [9]) (fun t => t.cmd.commandReport == ⟨1, .notFound⟩) = true ∧
    nextIs .refreshMirror (offered (withWindow (windowOf .craneMirror)) 18 [9])
      (fun t => t.cmd.busy && t.cmd.commandReport == ⟨1, .running⟩ && t.mirror.target == some .crane) = true := by decide +kernel

/-- R107, R164. -/
theorem test_clearGrid : nextIs .clearGrid (offered State.reset 13 []) (fun t => t.grid.clearing && t.cmd.state == .long &&
    t.arb.own.map (·.addr) == [0x200, 0x80]) = true := by decide +kernel

/-- R166: record 15 goes to the window's base + 15 × 64. -/
theorem test_refreshVisit : nextIs .refreshVisit (mirrorState 15)
    (fun t => t.mirror.position == 16 && t.arb.own.map (·.addr) == [0x100003C0]) = true := by decide +kernel

/-- R164. -/
theorem test_longOperationEnd : nextIs .longOperationEnd (mirrorState 16)
    (fun t => t.mirror.target == none && !t.cmd.busy && t.cmd.longReport == ⟨8, .done⟩ && t.cmd.commandReport == ⟨8, .done⟩ &&
      t.arb.own.map (·.addr) == [0x20000200, 0x20000080]) = true := by decide +kernel

theorem witness_LongOperations : Offered .refreshMirror (offered State.reset 18 [6]) ∧ (offered State.reset 18 [6]).arg 1 = 6 ∧
    Offered .refreshMirror (offered (withWindow (windowOf .craneMirror)) 18 [9]) ∧
    WindowKind.craneMirror.code = (offered (withWindow (windowOf .craneMirror)) 18 [9]).arg 1 ∧
    ((withWindow (windowOf .craneMirror)).window 0).inUse = true ∧
    ((withWindow (windowOf .craneMirror)).window 0).kind = some .craneMirror ∧
    (∀ w, (State.reset.window w).inUse = true → (State.reset.window w).kind ≠ some .craneMirror) ∧
    Offered .clearGrid (offered State.reset 13 []) ∧ Free .longOperation (mirrorState 15) ∧
    (mirrorState 15).mirror.target = some .crane ∧ (mirrorState 15).mirror.position < 16 ∧
    Free .longOperation (mirrorState 16) ∧ (mirrorState 16).cmd.state = .long ∧ (mirrorState 16).mirror.position = 16 := by
  and_intros <;> decide +kernel

/-- A window with its four counters set. -/
def countedWindow : Window := { windowOf .reeferIn with taken := 1, missed := 2, torn := 3, blocked := 4 }

/-- R169: the snapshot starts with entry 0's taken, missed, torn and blocked. -/
theorem test_readCounters : nextIs .readCounters (offered (withWindow countedWindow) 25 []) (fun t =>
    t.arb.own.map (·.addr) == [0x20000400, 0x20000500, 0x20000080] &&
      (t.arb.own.map fun w => w.data.take 16).head? == some [1, 0, 0, 0, 2, 0, 0, 0, 3, 0, 0, 0, 4, 0, 0, 0]) = true := by
  decide +kernel

/-- R170. -/
theorem test_clearCounters : nextIs .clearCounters (offered (withWindow countedWindow) 26 [])
    (fun t => t.window 0 == windowOf .reeferIn && t.arb.own.map (·.addr) == [0x20000080]) = true := by decide +kernel

theorem witness_CounterCommands : Offered .readCounters (offered (withWindow countedWindow) 25 []) ∧
    Offered .clearCounters (offered (withWindow countedWindow) 26 []) := by
  and_intros <;> decide +kernel

/-- R168: the refresh of the worked case, aborted: two result records, the status block between them. -/
theorem test_restart : nextIs .restart (offered { mirrorState 2 with time := pairedTime } 27 [])
    (fun t => t.arb.own.map (·.addr) == [0x20000080, 0x20000200, 0x20000080] && t.cmd.longReport == ⟨8, .aborted⟩ &&
      t.cmd.commandReport == ⟨1, .done⟩ && t.mirror.target == none && t.restarts == 1 && t.time.capture == none) =
    true := by decide +kernel

/-- R19, "RESTART first": a VALUE in hand has counted as taken and fails with WRONG_MARK; the one queued behind it counts as missed. -/
theorem test_restart_inHand :
    let e := queued valueBytes 2000000 none
    let s := offered { timeState pairedTime valueBytes 2000000 with
      intake := { State.reset.intake with time := [e, e] } } 27 []
    let t := (s.restarted ⟨none, none, none, some e⟩).handleInHand ⟨none, none, none, some e⟩
    ((t.window 0).taken == 1 && (t.window 0).missed == 1 && t.time == { pairedTime with capture := none } &&
      t.notice.flags == 0x080#12 && t.intake.time == []) = true := by decide +kernel

theorem witness_RestartResult : Offered .restart (offered (mirrorState 2) 27 []) ∧ Offered .restart (offered downState 27 []) ∧
    (downState.crane 0).link ≠ .dormant ∧ (downState.crane 15).link = .dormant ∧ (downState.crane 15).slots = none := by
  and_intros <;> decide +kernel

/-- A state that could follow a RESTART, with the records that were in hand. -/
theorem witness_RestartResult_inHand :
    let u : State := { timeState { pairedTime with capture := none } [] 0 with intake := State.reset.intake }
    u.inReset = false ∧ Settled u ∧ u.time.capture = none ∧ u.time.run = .running ∧ (TimeMessage.read valueBytes).kind = 2 ∧
    Free .measureJob u ∧ u.intake.measure = [] ∧ Free .reeferJob u ∧ u.intake.reefer = [] ∧
    ({ queued [] 0 none with counted := false } : QueueEntry).counted = false := by
  unfold Free Settled; decide +kernel

/-- R173: a transfer waits in reset and is handled after the release. -/
theorem test_reset : nextIs .resetAssertion busyArb (fun s => s.inReset && s.arb.inFlight == [] &&
    nextIs (.readTransfer 3 0x4000 1) s fun t => t.port.waiting.length == 1 && t.arb.passing == [] &&
      nextIs (.powerOnReset 7 9) t fun u => !u.inReset && u.cpb == 7 && u.cpid == 9 &&
        u.arb.passing == [.read 3 0x4000 [.pass]]) = true := by decide +kernel

/-- The part with RST_N asserted. -/
def resetState : State := { State.reset with inReset := true }

theorem witness_ResetBehaviour : busyArb.inReset = false ∧ (Transfer.read 3 0x4000 1).wf = true ∧ resetState.inReset = true ∧
    ((∀ b m, Instr.slewStep ≠ .powerOnReset b m) ∧ (∀ m a n, Instr.slewStep ≠ .readTransfer m a n) ∧
      (∀ m a l, Instr.slewStep ≠ .writeTransfer m a l) ∧ (∀ m l, Instr.slewStep ≠ .ringBaseWrite m l) ∧
      (∀ m l, Instr.slewStep ≠ .ringLengthWrite m l) ∧ (∀ m l, Instr.slewStep ≠ .consumerIndexWrite m l) ∧
      (∀ m b l, Instr.slewStep ≠ .controlPageWrite m b l)) ∧ resetState.port.waiting = [] ∧
    (PresentsWrite resetState (.ringBaseWrite 9 []) 9 (BitVec.ofNat 40 (resetState.pageAddr 0x100))
      (List.replicate 16 ⟨0, false⟩) ∧
      (Transfer.write 9 (BitVec.ofNat 40 (resetState.pageAddr 0x100)) (List.replicate 16 ⟨0, false⟩)).wf = true) ∧
    ∃ t, exec (.powerOnReset 7 9) { resetState with port := { resetState.port with waiting := [] } } = .next t :=
  ⟨rfl, by decide +kernel, rfl, ⟨by simp, by simp, by simp, by simp, by simp, by simp, by simp⟩, rfl,
    ⟨.inr (.inl ⟨rfl, .inl ⟨_, rfl, by unfold WordLanes; decide +kernel⟩⟩), by decide +kernel⟩, _, rfl⟩

theorem witness_BusyConsistentKept : BusyWf (waitingState clearingState) ∧ BusyWf (waitingState (mirrorState 16)) ∧
    ∃ t, step (waitingState clearingState) = .next t := by
  have h : ∀ s : State, s.cmd.busy = true → s.cmd.longReport.code = .running → s.cmd.state = .long →
      ((s.grid.clearing = true ∧ s.mirror.target = none ∧ s.mirror.position = 0) ∨
        (s.grid.clearing = false ∧ s.mirror.target = some .crane ∧ s.mirror.position ≤ 16)) →
      s.grid.clearPosition ≤ 512 → BusyWf s := by
    rintro s h1 h2 h3 (⟨h4, h5, h6⟩ | ⟨h4, h5, h6⟩) h7
    · exact ⟨by simp [h1, h3], by simp [h2, h3], by simp [h3, h4], by simp [h5], h7, fun _ => h6, by simp [h5]⟩
    · refine ⟨by simp [h1, h3], by simp [h2, h3], by simp [h3, h5], by simp [h4], h7, by simp [h5], fun k hk => ?_⟩
      rw [h5] at hk
      cases hk
      exact h6
  exact ⟨h _ (by decide +kernel) (by decide +kernel) (by decide +kernel) (.inl (by decide +kernel)) (by decide +kernel),
    h _ (by decide +kernel) (by decide +kernel) (by decide +kernel) (.inr (by decide +kernel)) (by decide +kernel), _, rfl⟩

theorem witness_BuffersKept : BuffersWf (waitingState ringState) ∧ ∃ t, step (waitingState ringState) = .next t :=
  ⟨by unfold BuffersWf QueueOrdered; decide +kernel, _, rfl⟩

end Sys2Proof.Tests
end

section
/-! SUPPORT. Rules for the whole of an event or a command: what its end leaves unchanged, the status block it hands, and the report of a
short command. -/

namespace Sys2Proof.Machine

/-! ## The end of an event, as a frame -/

/-- Between events the interrupt line already follows its condition (R156). -/
theorem Free.notice_followed {k : Work} {s : State} (h : Free k s) : s.notice.followed = s.notice := by
  obtain ⟨hr, ⟨hirq, -⟩, -⟩ := h
  rw [hr, Bool.not_false, Bool.true_and] at hirq
  rw [NoticeUnit.followed, ← hirq]

theorem Free.scratch_idle {k : Work} {s : State} (h : Free k s) : s.scratch = .idle := by
  obtain ⟨-, ⟨-, hscratch⟩, -⟩ := h
  exact hscratch

/-- The interrupt line follows its condition at the end of an event (R156). -/
theorem State.finish_notice_followed (s : State) : s.finish.notice = s.notice.followed := rfl

/-- The end of an event touches the own writes by a status block that is due, and nothing else: an interrupt line whose terms are
unchanged stays, and the scratch is idle again. -/
theorem OnlyTouches.finish {k : Work} {l : List Block} {s v : State} (hs : Free k s)
    (hv : OnlyTouches l s (v.setScratch s.scratch)) (harb : .arb ∈ l ∨ v.scratch.statusDue = false) :
    OnlyTouches l s v.finish := by
  obtain ⟨hreset, hcpb, hcpid, hpending, -, hrestarts, htime, hwindows, hintake, ha, hport, hcranes, hgrid, hreefer, hnotice, hcmd,
    hmirror⟩ := hv
  have hn : .notice ∈ l ∨ v.finish.notice = s.notice := by
    refine hnotice.imp_right fun h => ?_
    calc v.finish.notice = v.notice.followed := v.finish_notice_followed
      _ = s.notice.followed := congrArg _ h
      _ = s.notice := hs.notice_followed
  have hw : .arb ∈ l ∨ v.finish.arb = s.arb := by
    refine harb.elim .inl fun hdue => ha.imp_right fun h => ?_
    simpa [State.flushStatus_arb, hdue] using h
  exact ⟨hreset, hcpb, hcpid, hpending, hs.scratch_idle.symm, hrestarts, htime, hwindows, hintake, hw, hport, hcranes, hgrid, hreefer,
    hn, hcmd, hmirror⟩

/-- The stamp is of the Time Base alone (R2). -/
theorem State.stamp_congr {s t : State} (hlt : s.time.lt = t.time.lt) (hoc : s.time.oc = t.time.oc)
    (hsync : s.time.sync = t.time.sync) : s.stamp = t.stamp := by
  rw [State.stamp, State.stamp, hlt, hoc, hsync]

theorem State.finish_stamp (s : State) : s.finish.stamp = s.stamp := rfl

/-! ## Dequeues and the status block -/

theorem State.countTaken_counts (s : State) (e : QueueEntry) : CountsTaken s (s.countTaken e) e := by
  intro i
  unfold State.countTaken
  by_cases hc : e.counted = true ∧ (s.window e.window).inUse = true
  · by_cases hi : i = e.window <;> simp [hc, hi, State.setWindow_window]
  · have hi : ¬(i = e.window ∧ e.counted = true ∧ (s.window i).inUse = true) := by rintro ⟨rfl, h⟩; exact hc h
    simp [hc, hi]

/-- A notice can only add to the sticky flags (R149). -/
theorem NoticeUnit.take_flags_or (u : NoticeUnit) (n : Notice) : ∃ x, (u.take n).flags = u.flags ||| x := by
  obtain h | ⟨h, -⟩ | ⟨last, -, -, -, h⟩ | ⟨h, -⟩ := u.take_cases n
  · exact ⟨0, by simp [h]⟩
  · exact ⟨0, by simp [h]⟩
  · exact ⟨Flag.noticeOverflow.bit, by rw [h]; rfl⟩
  · exact ⟨Flag.noticeOverflow.bit, by rw [h]; rfl⟩

theorem or_eq_left_of_or_or_eq_left {n : Nat} {a b x : BitVec n} (h : a ||| b ||| x = a) : a ||| b = a := by
  calc a ||| b = a ||| b ||| x ||| b := by rw [h]
    _ = a ||| b ||| x := by rw [BitVec.or_assoc, BitVec.or_comm x b, ← BitVec.or_assoc, BitVec.or_assoc a b b, BitVec.or_self]
    _ = a := h

/-- A flag that joins the flags changes them exactly if it was clear. -/
theorem or_flagBit_eq_self_iff (a : BitVec 12) (f : Flag) : a ||| f.bit = a ↔ a.getLsbD f.number = true := by
  have hbit : f.bit = BitVec.twoPow 12 f.number := rfl
  have hlt : f.number < 12 := by cases f <;> decide
  rw [hbit]
  constructor
  · intro h
    rw [← h]
    simp [hlt]
  · intro h
    refine BitVec.eq_of_getLsbD_eq fun i hi => ?_
    by_cases hn : f.number = i
    · rw [← hn, BitVec.getLsbD_or, h, Bool.true_or]
    · simp [BitVec.getLsbD_twoPow, hn]

/-- An event whose gathered status causes are exactly the changes of the flags and of the overflow set ends with that status block and no
other own write (R154). -/
theorem StatusIfFlagged.of_finish {k : Work} {s v : State} (harb : v.arb = s.arb) (hwork : v.scratch.work = k) (hcpb : v.cpb = s.cpb)
    (hdue : v.scratch.statusDue = false ↔ v.notice.flags = s.notice.flags ∧ v.notice.overflow = s.notice.overflow) :
    StatusIfFlagged k s v.finish := by
  unfold StatusIfFlagged
  by_cases h : v.notice.flags = s.notice.flags ∧ v.notice.overflow = s.notice.overflow
  · simp [State.flushStatus_arb, hdue.2 h, h, harb]
  · have hd : v.scratch.statusDue = true := by simpa using mt hdue.1 h
    simp [State.flushStatus_arb, hd, h, harb, hwork, State.pageAddr, hcpb]

/-! ## Short commands -/

/-- The state in which the effect of a command is carried out: its event has begun, and its offer is taken (R161, R162). -/
def State.taking (s : State) : State := (s.beginEvent .command).take

@[simp] theorem State.taking_time (s : State) : s.taking.time = s.time := rfl
@[simp] theorem State.taking_arb (s : State) : s.taking.arb = s.arb := rfl
@[simp] theorem State.taking_arg (s : State) (n : Nat) : s.taking.arg n = s.arg n := rfl
@[simp] theorem State.taking_cmd (s : State) : s.taking.cmd = { s.cmd with offerMark := false, lastTaken := s.cmd.tag } := rfl
@[simp] theorem State.taking_scratch (s : State) : s.taking.scratch = { EventScratch.idle with work := .command } := rfl

/-- A command that is offered is carried out. -/
theorem command_next {k : Command} {s : State} (ho : Offered k s) (f : State → State × ResultCode) :
    command k s f = .next (((f s.taking).1.complete (f s.taking).2).finish) := by
  obtain ⟨⟨hreset, -, hheld⟩, hmark, htag, hcode, hstate⟩ := ho
  have htakes : s.cmd.takes k = true := by simp [CommandUnit.takes, CommandUnit.offers, hmark, htag, hcode, hstate]
  exact event_next hreset htakes hheld

/-- The end of a command touches the Command Unit and the own writes besides what its effect touches. -/
theorem OnlyTouches.complete {k : Work} {l : List Block} {s v : State} (r : ResultCode) (hs : Free k s)
    (hv : OnlyTouches l s (v.setScratch s.scratch)) (hcmd : .cmd ∈ l) (harb : .arb ∈ l) :
    OnlyTouches l s (v.complete r).finish := by
  refine OnlyTouches.finish hs ?_ (.inl harb)
  simpa [OnlyTouches, hcmd, harb] using hv

section
variable {s v : State} {r : ResultCode}

theorem State.complete_of_short (hr : r ≠ .running) : v.complete r =
    (v.flushStatus.setCmd { v.cmd with commandReport := ⟨v.cmd.lastTaken, r⟩ }).writeResult := by
  simp [State.complete, hr]

theorem State.complete_statusBlock (hr : r ≠ .running) : (v.complete r).statusBlock = v.statusBlock := by
  rw [complete_of_short hr]; rfl

/-- A short command hands the status block that its effect has called for, and then its result record (R163, R164). -/
theorem State.complete_finish_arb (hr : r ≠ .running) : (v.complete r).finish.arb =
    (if v.scratch.statusDue then v.arb.hand v.scratch.work ⟨v.pageAddr 0x200, v.statusBlock⟩ else v.arb).hand
      v.scratch.work ⟨v.pageAddr 0x80, (v.complete r).cmd.resultRecord⟩ := by
  rw [complete_of_short hr]
  simp [State.flushStatus_arb, State.writeResult, State.hand, State.pageAddr]

variable (hr : r ≠ .running) (hcmd : v.cmd = s.taking.cmd) (harb : v.arb = s.arb) (hcpb : v.cpb = s.cpb)
include hr hcmd

/-- The Command Unit after a short command whose effect leaves it alone. -/
theorem State.complete_cmd_reported : (v.complete r).finish.cmd = s.cmd.reported r := by
  simp [complete_of_short hr, hcmd, CommandUnit.reported]

include harb hcpb

/-- The end of a short command whose effect has called for no status block and has handed no own write. -/
theorem Reports.of_complete (hscratch : v.scratch = s.taking.scratch) : Reports s (v.complete r).finish r := by
  refine ⟨State.complete_cmd_reported hr hcmd, ?_⟩
  rw [State.complete_finish_arb hr]
  simp [hscratch, harb, State.pageAddr, hcpb, EventScratch.idle]

/-- The end of a short command whose effect has called for the status block and has handed no own write. -/
theorem ReportsWithStatus.of_complete (hscratch : v.scratch = { s.taking.scratch with statusDue := true }) :
    ReportsWithStatus s (v.complete r).finish r := by
  refine ⟨State.complete_cmd_reported hr hcmd, ?_⟩
  rw [State.complete_finish_arb hr]
  simp [hscratch, harb, State.pageAddr, hcpb, State.complete_statusBlock hr]

end

/-- The end of a command whose effect refuses it. -/
theorem Refuses.of_complete {k : Command} {s : State} {r : ResultCode} (ho : Offered k s) (hr : r ≠ .running) :
    Refuses s (s.taking.complete r).finish r := by
  obtain ⟨hfree, -⟩ := ho
  refine ⟨Reports.of_complete hr rfl rfl rfl rfl, OnlyTouches.complete r hfree ?_ (by simp) (by simp)⟩
  simp [OnlyTouches, State.taking]

end Sys2Proof.Machine
end

section
/-! SUPPORT. The time commands (R14 to R16). -/

namespace Sys2Proof.Machine

theorem State.timeArgsGood_iff (s : State) : s.timeArgsGood = true ↔
    100 ≤ s.arg 1 ∧ s.arg 1 ≤ 10000 ∧ s.arg 1 % 100 = 0 ∧ s.arg 2 ≤ 100000 ∧ 100 ≤ s.arg 3 ∧ s.arg 3 ≤ 1000000 ∧ s.arg 4 ≤ 1 := by
  simp [State.timeArgsGood, and_assoc]

theorem State.taking_timeArgsGood (s : State) : s.taking.timeArgsGood = s.timeArgsGood := rfl

/-- A time command whose effect is on the Time Base and the gathered scratch alone touches nothing else but what its report touches. -/
theorem OnlyTouches.of_timeCommand {k : Command} {s v : State} {r : ResultCode} (ho : Offered k s)
    (hv : v.setScratch s.scratch = (s.taking.setTime v.time).setScratch s.scratch) :
    OnlyTouches [.time, .cmd, .arb] s (v.complete r).finish := by
  obtain ⟨hfree, -⟩ := ho
  refine OnlyTouches.complete r hfree ?_ (by simp) (by simp)
  rw [hv]
  simp [OnlyTouches, State.taking]

/-- Settles O8, command by command along the branches of R14 to R16. -/
theorem timeCommandsResult : Obligations.TimeCommandsResult := by
  refine ⟨fun s ho => ⟨_, command_next ho State.doSetTimeParameters, ?parameters⟩,
    fun s ho => ⟨_, command_next ho State.doStartTime, ?start⟩, fun s ho => ⟨_, command_next ho State.doStopTime, ?stop⟩⟩
  case parameters =>
    simp only [State.doSetTimeParameters, State.taking_time, State.taking_timeArgsGood, ← State.timeArgsGood_iff, State.taking_arg]
    by_cases hrun : s.time.run = .running
    · simpa only [hrun, if_true] using Refuses.of_complete ho (r := .state) (by decide)
    by_cases hargs : s.timeArgsGood = true
    · simp only [hrun, hargs, if_true, if_false]
      exact ⟨OnlyTouches.of_timeCommand ho rfl, Reports.of_complete (by decide) rfl rfl rfl rfl, by simp [beq_eq_decide]⟩
    · simpa only [hrun, hargs, if_false, Bool.false_eq_true] using Refuses.of_complete ho (r := .badArgument) (by decide)
  case start =>
    simp only [State.doStartTime, State.taking_time]
    by_cases hrun : s.time.run = .running
    · simpa only [hrun, if_true] using Refuses.of_complete ho (r := .state) (by decide)
    · simp only [hrun, if_false]
      exact ⟨OnlyTouches.of_timeCommand ho rfl, ReportsWithStatus.of_complete (by decide) rfl rfl rfl rfl, by simp⟩
  case stop =>
    simp only [State.doStopTime, State.taking_time]
    by_cases hrun : s.time.run = .stopped
    · simpa only [hrun, if_true] using Refuses.of_complete ho (r := .state) (by decide)
    · simp only [hrun, if_false]
      exact ⟨OnlyTouches.of_timeCommand ho rfl, ReportsWithStatus.of_complete (by decide) rfl rfl rfl rfl,
        by simp [TimeBase.unpaired]⟩

end Sys2Proof.Machine
end

section
/-! SUPPORT. Time records: what their dequeue does besides handling them, and discarded records and MARK (R4, R5). -/

namespace Sys2Proof.Machine

/-! ## The dequeue of a time record (R4, R37) -/

/-- The state in which a time record is handled: it has left its queue and counts as taken. -/
def State.timeTaken (s : State) (e : QueueEntry) (rest : List QueueEntry) : State :=
  ((s.beginEvent .timeJob).setIntake { s.intake with time := rest }).countTaken e

section
variable (s : State) (e : QueueEntry) (rest : List QueueEntry)

@[simp] theorem State.timeTaken_time : (s.timeTaken e rest).time = s.time := by simp [State.timeTaken]
@[simp] theorem State.timeTaken_arb : (s.timeTaken e rest).arb = s.arb := by simp [State.timeTaken]
@[simp] theorem State.timeTaken_notice : (s.timeTaken e rest).notice = s.notice := by simp [State.timeTaken]
@[simp] theorem State.timeTaken_cpb : (s.timeTaken e rest).cpb = s.cpb := by simp [State.timeTaken]
@[simp] theorem State.timeTaken_intake : (s.timeTaken e rest).intake = { s.intake with time := rest } := by simp [State.timeTaken]
@[simp] theorem State.timeTaken_scratch : (s.timeTaken e rest).scratch = { EventScratch.idle with work := .timeJob } := by
  simp [State.timeTaken]

theorem State.timeTaken_onlyTouches : OnlyTouches [.intake, .windows] s ((s.timeTaken e rest).setScratch s.scratch) := by
  simp [OnlyTouches, State.timeTaken]

theorem State.timeTaken_counts : CountsTaken s (s.timeTaken e rest) e :=
  State.countTaken_counts _ e

end

section
variable {s : State} {e : QueueEntry} {rest : List QueueEntry}

/-- The oldest time record is handled once it has left its queue and been counted. -/
theorem timeRecordDequeue_next (hs : Free .timeJob s) (hq : s.intake.time = e :: rest) :
    exec .timeRecordDequeue s = .next ((s.timeTaken e rest).timeRecord e.bytes e.arrival).finish := by
  obtain ⟨hreset, -, hheld⟩ := hs
  have harm : exec .timeRecordDequeue s = execTimeRecordDequeue s := rfl
  rw [harm, execTimeRecordDequeue, event_next hreset (by simp [hq]) hheld]
  simp [hq, State.timeTaken]

/-- Whatever a time record brings about, its dequeue takes it from its queue and counts it, and touches no other block than the Time
Base, the notices and the own writes. -/
theorem timeRecord_finish_frame (hs : Free .timeJob s) :
    let t := ((s.timeTaken e rest).timeRecord e.bytes e.arrival).finish
    OnlyTouches [.intake, .windows, .time, .notice, .arb] s t ∧ t.intake = { s.intake with time := rest } ∧ CountsTaken s t e := by
  refine ⟨OnlyTouches.finish hs ?_ (.inl (by simp)), by simp, fun i => ?_⟩
  · simp [OnlyTouches, State.timeTaken]
  · rw [← State.timeTaken_counts s e rest i]
    simp [State.window]

end

/-! ## The handling of a time record, and violations (R4, R5, R11) -/

theorem State.timeRecord_discards {s : State} {bytes : List Byte}
    (h : s.time.run = .stopped ∨ ((TimeMessage.read bytes).kind ≠ 1 ∧ (TimeMessage.read bytes).kind ≠ 2)) (arrival : Nat) :
    s.timeRecord bytes arrival = s := by
  simp only [State.timeRecord]
  obtain hstopped | ⟨hmark, hvalue⟩ := h
  · simp [hstopped]
  · simp [hmark, hvalue]

theorem State.timeRecord_mark {s : State} {bytes : List Byte} (hrun : s.time.run = .running)
    (hkind : (TimeMessage.read bytes).kind = 1) (arrival : Nat) :
    s.timeRecord bytes arrival = s.markMessage (TimeMessage.read bytes) arrival := by
  simp [State.timeRecord, hrun, hkind]

theorem State.timeRecord_value {s : State} {bytes : List Byte} (hrun : s.time.run = .running)
    (hkind : (TimeMessage.read bytes).kind = 2) (arrival : Nat) :
    s.timeRecord bytes arrival = s.valueMessage (TimeMessage.read bytes) arrival := by
  simp [State.timeRecord, hrun, hkind]

/-- A violation calls for a status block exactly if it changes the flags or the overflow set (R11, R154). -/
theorem State.violation_statusDue {s : State} (hidle : s.scratch.statusDue = false) (v : Violation) (mark : Nat)
    (captured : Option Capture) : (s.violation v mark captured).scratch.statusDue = false ↔
      (s.violation v mark captured).notice.flags = s.notice.flags ∧
        (s.violation v mark captured).notice.overflow = s.notice.overflow := by
  have hflags : ∃ x, (s.violation v mark captured).notice.flags = s.notice.flags ||| Flag.timeViolation.bit ||| x :=
    NoticeUnit.take_flags_or _ _
  have hdue : (s.violation v mark captured).scratch.statusDue = false ↔
      s.notice.flags ||| Flag.timeViolation.bit = s.notice.flags ∧
        (s.violation v mark captured).notice.overflow = s.notice.overflow ∧
        (s.violation v mark captured).notice.flags = s.notice.flags ||| Flag.timeViolation.bit := by
    simp [State.violation, State.raise_scratch, State.setFlag_scratch, hidle, or_flagBit_eq_self_iff, and_assoc]
  rw [hdue]
  constructor
  · rintro ⟨hset, hoverflow, hsame⟩
    exact ⟨hsame.trans hset, hoverflow⟩
  · rintro ⟨hsame, hoverflow⟩
    obtain ⟨x, hx⟩ := hflags
    have hset := or_eq_left_of_or_or_eq_left (hx.symm.trans hsame)
    exact ⟨hset, hoverflow, hsame.trans hset.symm⟩

@[simp] theorem State.violation_work (s : State) (v : Violation) (mark : Nat) (captured : Option Capture) :
    (s.violation v mark captured).scratch.work = s.scratch.work := rfl

/-- The end of an event that has done nothing but a violation to the notices and the own writes. -/
theorem StatusIfFlagged.of_violation {k : Work} {s u : State} {v : Violation} {mark : Nat} {captured : Option Capture}
    (harb : u.arb = s.arb) (hnotice : u.notice = s.notice) (hcpb : u.cpb = s.cpb) (hwork : u.scratch.work = k)
    (hidle : u.scratch.statusDue = false) : StatusIfFlagged k s (u.violation v mark captured).finish := by
  refine StatusIfFlagged.of_finish (by simp [harb]) (by simp [hwork]) (by simp [hcpb]) ?_
  rw [← hnotice]
  exact State.violation_statusDue hidle v mark captured

theorem State.violation_notice (s : State) (v : Violation) (mark : Nat) (captured : Option Capture) :
    (s.violation v mark captured).notice = ({ s.notice with flags := s.notice.flags ||| 0x080#12 } : NoticeUnit).take
      { kind := .timeViolation, subject := 0, stamp := s.stamp, value1 := word v.code, value2 := word mark,
        value3 := word (captured.elim 65536 Capture.mark) } := by
  cases captured <;> rfl

theorem State.markMessage_time (s : State) (m : TimeMessage) (arrival : Nat) :
    (s.markMessage m arrival).time = { s.time with capture := some ⟨m.mark, arrival⟩ } := by
  unfold State.markMessage
  dsimp only
  split <;> simp

/-- A MARK where no capture is present changes the capture alone. -/
theorem State.markMessage_first {s : State} (h : s.time.capture = none) (m : TimeMessage) (arrival : Nat) :
    s.markMessage m arrival = s.setTime { s.time with capture := some ⟨m.mark, arrival⟩ } := by
  simp [State.markMessage, h]

/-- A MARK where a capture is present is a REMARK violation besides. -/
theorem State.markMessage_again {s : State} {c : Capture} (h : s.time.capture = some c) (m : TimeMessage) (arrival : Nat) :
    s.markMessage m arrival =
      (s.setTime { s.time with capture := some ⟨m.mark, arrival⟩ }).violation .remark m.mark (some c) := by
  simp [State.markMessage, h]

/-- Settles O5, by whether the record is discarded, and a MARK by whether a capture was present. -/
theorem markOrDiscardedRecord : Obligations.MarkOrDiscardedRecord := by
  refine ⟨fun s e rest hs hq hdiscard => ⟨_, timeRecordDequeue_next hs hq, ?discarded⟩,
    fun s e rest hs hq hrun hkind => ⟨_, timeRecordDequeue_next hs hq, ?mark⟩⟩
  case discarded =>
    obtain ⟨-, hintake, hcounts⟩ := timeRecord_finish_frame (rest := rest) (e := e) hs
    refine ⟨?_, hintake, hcounts⟩
    rw [State.timeRecord_discards (by simpa using hdiscard)]
    exact OnlyTouches.finish hs (s.timeTaken_onlyTouches e rest) (.inr (by simp [EventScratch.idle]))
  case mark =>
    obtain ⟨htouches, hintake, hcounts⟩ := timeRecord_finish_frame (rest := rest) (e := e) hs
    have hmark := State.timeRecord_mark (s := s.timeTaken e rest) (by simpa using hrun) hkind e.arrival
    refine ⟨htouches, hintake, hcounts, by simp [hmark, State.markMessage_time], ?_⟩
    rw [hmark]
    cases hcapture : s.time.capture with
    | none =>
      rw [State.markMessage_first (by simpa using hcapture)]
      refine ⟨StatusIfFlagged.of_finish (by simp) (by simp) (by simp) (by simp [EventScratch.idle]), ?_⟩
      rw [State.finish_notice_followed, State.setTime_notice, State.timeTaken_notice]
      exact hs.notice_followed
    | some c =>
      rw [State.markMessage_again (by simpa using hcapture)]
      refine ⟨StatusIfFlagged.of_violation (by simp) (by simp) (by simp) (by simp) (by simp [EventScratch.idle]), ?_⟩
      have hstamp : ((s.timeTaken e rest).setTime
          { (s.timeTaken e rest).time with capture := some ⟨(TimeMessage.read e.bytes).mark, e.arrival⟩ }).stamp = s.stamp :=
        State.stamp_congr (by simp) (by simp) (by simp)
      rw [State.finish_notice_followed, State.violation_notice, hstamp, State.setTime_notice, State.timeTaken_notice]
      rfl

end Sys2Proof.Machine
end

section
/-! SUPPORT. An accepted VALUE (R6 to R9, R11). -/

namespace Sys2Proof.Machine

/-- A VALUE that passes every check of R6 is accepted with the capture's local time. -/
theorem State.valueMessage_accepts {s : State} {m : TimeMessage} {arrival ltm : Nat} (h : ValuePasses s.time m arrival ltm) :
    s.valueMessage m arrival = s.acceptValue m ltm arrival := by
  obtain ⟨hcapture, harrival, hcontinuity⟩ := h
  have hlate : ¬(2000 * s.time.interval : Int) < (arrival : Int) - ltm := by omega
  have hpair : ¬(s.time.continuity ∧ s.time.tl ≠ none ∧ s.time.tl ≠ some m.previousTime) := by
    rintro ⟨hon, hsome, hother⟩
    exact (hcontinuity hon).elim hsome hother
  have hjudge : s.time.judgeValue m arrival = none := by
    simp only [TimeBase.judgeValue, hcapture, ne_eq, not_true_eq_false, if_false, hlate]
    exact if_neg hpair
  simp [State.valueMessage, hjudge, hcapture]

/-- OC and S by R8: a jump onto the target offset while UNSET or beyond the threshold, and else a slew by the correction. -/
theorem TimeBase.accepted_eq (t : TimeBase) (m : TimeMessage) (ltm arrival : Nat) : t.accepted m ltm arrival = { t with
    oc := if t.sync = .unset ∨ (t.threshold : Int) < t.correction m ltm then t.targetOffset m ltm else t.oc
    slew := if t.sync = .unset ∨ (t.threshold : Int) < t.correction m ltm then 0 else t.correction m ltm
    tl := some m.masterTime
    capture := none
    lastSuccess := some arrival
    sync := .synced } := by
  by_cases hunset : t.sync = .unset
  · simp [TimeBase.accepted, TimeBase.corrected, hunset]
  · by_cases hstep : (t.threshold : Int) < t.correction m ltm <;> simp [TimeBase.accepted, TimeBase.corrected, hunset, hstep]

/-- A notice keeps the work of the event, and a status block that is due stays due. -/
theorem State.raise_keeps_due {s : State} {k : NoticeKind} {n : Nat} {v1 v2 v3 : Word} (h : s.scratch.statusDue = true) :
    (s.raise k n v1 v2 v3).scratch.work = s.scratch.work ∧ (s.raise k n v1 v2 v3).scratch.statusDue = true :=
  ⟨rfl, by simp [State.raise_scratch, h]⟩

/-- Everything the correction's notice can be: none, or one notice. -/
theorem State.correctionNotice_cases (s : State) (t : TimeBase) (m : TimeMessage) (ltm : Nat) :
    s.correctionNotice t m ltm = s ∨ ∃ k v1 v2 v3, s.correctionNotice t m ltm = s.raise k 0 v1 v2 v3 := by
  simp only [State.correctionNotice]
  split_ifs
  · exact .inl rfl
  · exact .inr ⟨_, _, _, _, rfl⟩
  · exact .inr ⟨_, _, _, _, rfl⟩
  · exact .inl rfl

/-- An accepted VALUE calls for the status block (R9, R154). -/
theorem State.acceptValue_due (s : State) (m : TimeMessage) (ltm arrival : Nat) :
    (s.acceptValue m ltm arrival).scratch.work = s.scratch.work ∧ (s.acceptValue m ltm arrival).scratch.statusDue = true := by
  have hcorrection (u : State) (hdue : u.scratch.statusDue = true) :
      (u.correctionNotice s.time m ltm).scratch.work = u.scratch.work ∧
        (u.correctionNotice s.time m ltm).scratch.statusDue = true := by
    obtain h | ⟨k, v1, v2, v3, h⟩ := u.correctionNotice_cases s.time m ltm
    · rw [h]; exact ⟨rfl, hdue⟩
    · rw [h]; exact State.raise_keeps_due hdue
  obtain ⟨hwork, hdue⟩ := hcorrection (s.setTime (s.time.accepted m ltm arrival)).callStatus rfl
  simp only [State.acceptValue]
  split_ifs
  · exact ⟨hwork, hdue⟩
  · obtain ⟨hwork', hdue'⟩ := State.raise_keeps_due hdue
    exact ⟨hwork'.trans hwork, hdue'⟩

/-- The step or backward notice of R8 as a list: the first part of `SyncNotices`. -/
def TimeBase.correctionNotices (t : TimeBase) (stamp : Stamp) (m : TimeMessage) (d : Int) : List Notice :=
  if t.sync = .unset then []
  else if (t.threshold : Int) < d then [⟨.timeStep, 0, stamp, wordI (clamp32 d), word m.mark, word t.threshold⟩]
  else if d < -(t.threshold : Int) then [⟨.timeBackward, 0, stamp, wordI (clamp32 d), word m.mark, word t.threshold⟩]
  else []

theorem SyncNotices_eq (t : TimeBase) (stamp : Stamp) (m : TimeMessage) (d : Int) :
    SyncNotices t stamp m d = t.correctionNotices stamp m d ++
      if t.sync = .synced then [] else [⟨.timeSynced, 0, stamp, word t.sync.code, word m.mark, word 0⟩] := by
  cases hsync : t.sync <;> simp [SyncNotices, TimeBase.correctionNotices, hsync, word, wordI, SyncState.code]

theorem State.correctionNotice_notice (s : State) (t : TimeBase) (m : TimeMessage) (ltm : Nat) :
    (s.correctionNotice t m ltm).notice =
      (t.correctionNotices s.stamp m (t.correction m ltm)).foldl NoticeUnit.take s.notice := by
  simp only [State.correctionNotice, TimeBase.correctionNotices]
  split_ifs <;> rfl

theorem State.correctionNotice_stamp (s : State) (t : TimeBase) (m : TimeMessage) (ltm : Nat) :
    (s.correctionNotice t m ltm).stamp = s.stamp :=
  State.stamp_congr (by simp) (by simp) (by simp)

/-- The notices of an accepted VALUE, with stamps taken after the change: the correction's, and the completion's where the state was not
SYNCED (R8, R9, R11). -/
theorem State.acceptValue_notice (s : State) (m : TimeMessage) (ltm arrival : Nat) :
    (s.acceptValue m ltm arrival).notice =
      (SyncNotices s.time (s.acceptValue m ltm arrival).stamp m (s.time.correction m ltm)).foldl NoticeUnit.take s.notice := by
  have hstamp : (s.acceptValue m ltm arrival).stamp = (s.setTime (s.time.accepted m ltm arrival)).callStatus.stamp :=
    State.stamp_congr (by simp) (by simp) (by simp)
  rw [hstamp, SyncNotices_eq, List.foldl_append]
  by_cases hsync : s.time.sync = .synced
  · simp [State.acceptValue, hsync, State.correctionNotice_notice]
  · simp [State.acceptValue, hsync, State.correctionNotice_notice, State.correctionNotice_stamp]

/-- Settles O7: the handling of the record by `State.acceptValue`, whose time, status block and notices are the lemmas above. -/
theorem valueAccepted : Obligations.ValueAccepted := by
  intro s e rest ltm hs hq hrun hkind hpasses m ot d
  obtain ⟨htouches, hintake, hcounts⟩ := timeRecord_finish_frame (rest := rest) (e := e) hs
  have htime := s.timeTaken_time e rest
  have haccepts : (s.timeTaken e rest).timeRecord e.bytes e.arrival = (s.timeTaken e rest).acceptValue m ltm e.arrival := by
    rw [State.timeRecord_value (by rw [htime]; exact hrun) hkind, State.valueMessage_accepts (by rw [htime]; exact hpasses)]
  refine ⟨_, timeRecordDequeue_next hs hq, htouches, hintake, hcounts, ?_⟩
  rw [haccepts]
  refine ⟨?time, ?status, ?notices⟩
  case time =>
    rw [State.finish_time, State.acceptValue_time, htime, TimeBase.accepted_eq]
    rfl
  case status =>
    obtain ⟨hwork, hdue⟩ := (s.timeTaken e rest).acceptValue_due m ltm e.arrival
    simp [State.flushStatus_arb, hdue, hwork, State.pageAddr]
  case notices =>
    rw [State.finish_notice_followed, State.acceptValue_notice, htime, State.timeTaken_notice, State.finish_stamp]
    rfl

end Sys2Proof.Machine
end

section
/-! SUPPORT. LOCK_WINDOW and UNLOCK_WINDOW (R31, R32). -/

namespace Sys2Proof.Machine

/-! ## An argument that names an entry of a table -/

@[simp] theorem asIndex_val {n : Nat} (i : Fin n) : asIndex n i.val = some i := by
  simp [asIndex]

theorem asIndex_eq_none {n v : Nat} (h : n ≤ v) : asIndex n v = none := by
  simp [asIndex, Nat.not_lt.2 h]

/-! ## A command whose effect is one window's new definition -/

@[simp] theorem State.taking_window (s : State) (i : Fin 32) : s.taking.window i = s.window i := rfl

/-- The end of a command that has given window i the value w and nothing else. -/
theorem setWindow_complete_done {k : Command} {s : State} (ho : Offered k s) (i : Fin 32) (w : Window) :
    let t := ((s.taking.setWindow i w).complete .done).finish
    OnlyTouches [.windows, .cmd, .arb] s t ∧ Reports s t .done ∧ t.windows = upd s.windows i w := by
  obtain ⟨hfree, -⟩ := ho
  refine ⟨OnlyTouches.complete .done hfree ?_ (by simp) (by simp), Reports.of_complete (by decide) rfl rfl rfl rfl, ?_⟩
  · simp [OnlyTouches, State.taking]
  · simp [State.taking]

/-! ## The tables of R31 and R32 -/

section
variable {s : State} {i : Fin 32}

theorem State.lockAt_notFound (huse : (s.window i).inUse = false) (level : LockLevel) :
    s.lockAt i level = (s, .notFound) := by
  simp [State.lockAt, huse]

/-- The lock level rises from OPEN, and from LOCKED to TIGHT (R31). -/
theorem State.lockAt_done {level : LockLevel} (huse : (s.window i).inUse = true) (hlevel : level ≠ .openLevel)
    (hrise : (s.window i).lock = .openLevel ∨ (s.window i).lock = .locked ∧ level = .tight) :
    s.lockAt i level = (s.setWindow i { s.window i with lock := level }, .done) := by
  obtain hopen | ⟨hlocked, rfl⟩ := hrise
  · cases level with
    | openLevel => exact absurd rfl hlevel
    | locked | tight => simp [State.lockAt, huse, hopen]
  · simp [State.lockAt, huse, hlocked]

theorem State.lockAt_state {level : LockLevel} (huse : (s.window i).inUse = true)
    (hrise : ¬((s.window i).lock = .openLevel ∨ (s.window i).lock = .locked ∧ level = .tight)) :
    s.lockAt i level = (s, .state) := by
  cases hlock : (s.window i).lock with
  | openLevel => exact absurd (.inl hlock) hrise
  | locked =>
    cases level with
    | openLevel | locked => simp [State.lockAt, huse, hlock]
    | tight => exact absurd (.inr ⟨hlock, rfl⟩) hrise
  | tight => simp [State.lockAt, huse, hlock]

theorem State.doLockWindow_badArgument (h : 31 < s.arg 1 ∨ s.arg 2 < 1 ∨ 2 < s.arg 2) :
    s.doLockWindow = (s, .badArgument) := by
  obtain hindex | hlevel := h
  · simp [State.doLockWindow, asIndex_eq_none hindex]
  · have hlocked : s.arg 2 ≠ 1 := by omega
    have htight : s.arg 2 ≠ 2 := by omega
    unfold State.doLockWindow
    split <;> simp [hlocked, htight]

theorem State.doLockWindow_eq_lockAt (hi : i.val = s.arg 1) (hlevel : s.arg 2 = 1 ∨ s.arg 2 = 2) :
    s.doLockWindow = s.lockAt i (if s.arg 2 = 1 then .locked else .tight) := by
  obtain h | h := hlevel <;> simp [State.doLockWindow, ← hi, h]

theorem State.doUnlockWindow_badArgument (h : 31 < s.arg 1) : s.doUnlockWindow = (s, .badArgument) := by
  simp [State.doUnlockWindow, asIndex_eq_none h]

theorem State.doUnlockWindow_notFound (hi : i.val = s.arg 1) (huse : (s.window i).inUse = false) :
    s.doUnlockWindow = (s, .notFound) := by
  simp [State.doUnlockWindow, ← hi, huse]

/-- The result by the level that an in-use entry stands at (R32). -/
theorem State.doUnlockWindow_inUse (hi : i.val = s.arg 1) (huse : (s.window i).inUse = true) :
    s.doUnlockWindow = match (s.window i).lock with
      | .tight => (s, .locked)
      | .openLevel => (s, .state)
      | .locked => (s.setWindow i { s.window i with lock := .openLevel }, .done) := by
  cases hlock : (s.window i).lock <;> simp [State.doUnlockWindow, ← hi, huse, hlock]

/-! ## The two commands -/

theorem lockWindow_result (ho : Offered .lockWindow s) (hi : i.val = s.arg 1) (hlevel : s.arg 2 = 1 ∨ s.arg 2 = 2) :
    ∃ t, exec .lockWindow s = .next t ∧
      if (s.window i).inUse = false then Refuses s t .notFound
      else if (s.window i).lock = .openLevel ∨ ((s.window i).lock = .locked ∧ s.arg 2 = 2) then
        OnlyTouches [.windows, .cmd, .arb] s t ∧ Reports s t .done ∧
          t.windows = upd s.windows i { s.window i with lock := if s.arg 2 = 1 then .locked else .tight }
      else Refuses s t .state := by
  refine ⟨_, command_next ho State.doLockWindow, ?_⟩
  rw [State.doLockWindow_eq_lockAt (s := s.taking) hi hlevel, State.taking_arg]
  have htight : (if s.arg 2 = 1 then LockLevel.locked else .tight) = .tight ↔ s.arg 2 = 2 := by
    obtain h | h := hlevel <;> simp [h]
  cases huse : (s.window i).inUse with
  | false =>
    rw [State.lockAt_notFound (s := s.taking) huse]
    simpa using Refuses.of_complete ho (r := .notFound) (by decide)
  | true =>
    by_cases hrise : (s.window i).lock = .openLevel ∨ (s.window i).lock = .locked ∧ s.arg 2 = 2
    · rw [State.lockAt_done (s := s.taking) huse (by split <;> decide) (by simpa [htight] using hrise)]
      simpa only [hrise, if_true, if_false, Bool.true_eq_false, State.taking_window] using setWindow_complete_done ho i _
    · rw [State.lockAt_state (s := s.taking) huse (by simpa [htight] using hrise)]
      simpa only [hrise, if_false, Bool.true_eq_false] using Refuses.of_complete ho (r := .state) (by decide)

theorem unlockWindow_result (ho : Offered .unlockWindow s) (hi : i.val = s.arg 1) :
    ∃ t, exec .unlockWindow s = .next t ∧
      if (s.window i).inUse = false then Refuses s t .notFound
      else if (s.window i).lock = .tight then Refuses s t .locked
      else if (s.window i).lock = .openLevel then Refuses s t .state
      else OnlyTouches [.windows, .cmd, .arb] s t ∧ Reports s t .done ∧
        t.windows = upd s.windows i { s.window i with lock := .openLevel } := by
  refine ⟨_, command_next ho State.doUnlockWindow, ?_⟩
  cases huse : (s.window i).inUse with
  | false =>
    rw [State.doUnlockWindow_notFound (s := s.taking) hi huse]
    simpa using Refuses.of_complete ho (r := .notFound) (by decide)
  | true =>
    rw [State.doUnlockWindow_inUse (s := s.taking) hi huse, State.taking_window]
    cases hlock : (s.window i).lock with
    | openLevel => simpa using Refuses.of_complete ho (r := .state) (by decide)
    | locked => simpa using setWindow_complete_done ho i _
    | tight => simpa using Refuses.of_complete ho (r := .locked) (by decide)

end

/-- Settles O17: an argument out of range is refused, and an entry's result is the one its use and its lock level give. -/
theorem lockAndUnlockWindow : Obligations.LockAndUnlockWindow := by
  refine ⟨fun s ho => ⟨fun hbad => ⟨_, command_next ho State.doLockWindow, ?_⟩, fun i hi hlevel => lockWindow_result ho hi hlevel⟩,
    fun s ho => ⟨fun hbad => ⟨_, command_next ho State.doUnlockWindow, ?_⟩, fun i hi => unlockWindow_result ho hi⟩⟩
  · rw [State.doLockWindow_badArgument (s := s.taking) hbad]
    exact Refuses.of_complete ho (r := .badArgument) (by decide)
  · rw [State.doUnlockWindow_badArgument (s := s.taking) hbad]
    exact Refuses.of_complete ho (r := .badArgument) (by decide)

end Sys2Proof.Machine
end

section
/-! SUPPORT. Reads in a CRANE_DOWN window: a transfer as one event (R20), the verdict on a header beat (R59 to R61) and the plan of the
beats around it (R62). -/

namespace Sys2Proof.Machine

/-! ## A read transfer as one event (R20, R23) -/

/-- Outside RST_N, an event of no work can always take its step. -/
theorem Free.of_settled {s : State} (hreset : s.inReset = false) (hs : Settled s) : Free .other s := ⟨hreset, hs, rfl⟩

theorem readTransfer_next {m : MasterId} {a : Address} {beats : Nat} {s : State} (hwf : (Transfer.read m a beats).wf = true)
    (hs : Free .other s) : exec (.readTransfer m a beats) s = .next (s.passRead m a beats).finish := by
  have hidle : s.setScratch .idle = s := by rw [← hs.scratch_idle]; rfl
  obtain ⟨hreset, -⟩ := hs
  show present (.read m a beats) s = _
  simp [present, hwf, hreset, State.takeTransfer, hidle]

/-- A transfer of R20 holds at most 16 beats, which is no more than the smallest slot. -/
theorem Transfer.read_beats_le {m : MasterId} {a : Address} {beats : Nat} (hwf : (Transfer.read m a beats).wf = true) :
    16 * beats ≤ 256 := by
  simp only [Transfer.wf, spanWf, Bool.and_eq_true, decide_eq_true_eq] at hwf
  omega

/-- A forwarded transfer's event whose gathered status causes are exactly the changes of the flags and of the overflow set ends with
that status block behind the transfer (R154). -/
theorem ForwardsWithStatus.of_finish {p : Passing} {s u : State} (harb : u.arb = s.arb) (hwork : u.scratch.work = .other)
    (hcpb : u.cpb = s.cpb)
    (hdue : u.scratch.statusDue = false ↔ u.notice.flags = s.notice.flags ∧ u.notice.overflow = s.notice.overflow) :
    ForwardsWithStatus p s (u.forward p).finish :=
  StatusIfFlagged.of_finish (s := s.forward p) (by simp [State.forward, harb]) (by simpa using hwork) (by simpa using hcpb)
    (by simpa using hdue)

/-- A notice raised in an event that has called for no status block calls for one exactly if it changes the flags or the overflow set
(R149, R154). -/
theorem State.raise_statusDue_iff {s : State} (hidle : s.scratch.statusDue = false) (k : NoticeKind) (n : Nat) (v1 v2 v3 : Word) :
    (s.raise k n v1 v2 v3).scratch.statusDue = false ↔
      (s.raise k n v1 v2 v3).notice.flags = s.notice.flags ∧ (s.raise k n v1 v2 v3).notice.overflow = s.notice.overflow := by
  rw [State.raise_scratch]
  simp [hidle, and_comm]

/-- A read at an address of a slot table's window is judged beat by beat, from its offset in the window on (R58, R62). -/
theorem State.passRead_fallsInSlots {s : State} {a : Address} {w : Fin 32} {i : Fin 16} {size : Nat}
    (hfall : FallsInSlots s a.toNat w i size) (m : MasterId) (beats : Nat) :
    s.passRead m a beats = (s.readBeats i size (a.toNat - (s.window w).base) beats).1.forward
      (.read m a (s.readBeats i size (a.toNat - (s.window w).base) beats).2) := by
  obtain ⟨hat, hkind, hcrane, hsize, -, htable⟩ := hfall
  have hdown : s.downWindow (s.window w) = some (i, size) := by
    simp [State.downWindow, hkind, hcrane, hsize, Option.isSome_iff_ne_none, htable]
  simp [State.passRead, hat, hdown]

/-! ## Slot records and the payload (R45, R62) -/

theorem Crane.setSlot_slot_other {c : Crane} {n k : Nat} (h : k ≠ n) (x : Slot) : (c.setSlot n x).slot k = c.slot k := by
  cases htable : c.slots with
  | none => simp [Crane.slot, Crane.setSlot, htable]
  | some l => simp [Crane.slot, Crane.setSlot, htable, List.getElem?_set_ne h.symm]

theorem Crane.payloadPlan_congr {c d : Crane} {n : Nat} (h : c.slot n = d.slot n) : c.payloadPlan n = d.payloadPlan n := by
  rw [Crane.payloadPlan, Crane.payloadPlan, h]

theorem Crane.payloadPlan_eq_pass_iff (c : Crane) (n : Nat) : c.payloadPlan n = .pass ↔ PayloadPasses c n := by
  unfold Crane.payloadPlan PayloadPasses
  split <;> simp_all

theorem Crane.payloadPlan_pass_or_zero (c : Crane) (n : Nat) : c.payloadPlan n = .pass ∨ c.payloadPlan n = .zero := by
  unfold Crane.payloadPlan
  split <;> simp

/-! ## The verdict on a header beat (R59 to R61) -/

/-- The code tries the conditions of R59 in the order of the table. -/
theorem Crane.holdReason_eq (c : Crane) (n t : Nat) : c.holdReason n t = HoldReason c n t := by
  unfold Crane.holdReason HoldReason
  split
  · rfl
  · split
    · rfl
    · cases (c.slot n).state with
      | faulted f => cases f <;> rfl
      | _ => rfl

/-- The crane after PASS, field by field (R60). -/
theorem Crane.passRead_eq (c : Crane) (n : Nat) : c.passRead n = { c with
    slots := c.slots.map fun l => l.set n { c.slot n with state := .sent, lastVerdict := .pass }
    pendingSlots := c.pendingSlots.filter (· != n)
    lastPassed := some (c.slot n).sequence
    lastCraneVerdict := .pass } := rfl

/-- The crane after HOLD, field by field (R60, R63). -/
theorem Crane.holdRead_eq (c : Crane) (n : Nat) : c.holdRead n = { c with
    slots := c.slots.map fun l => l.set n { c.slot n with lastVerdict := .hold }
    heldReads := min (c.heldReads + 1) 4294967295
    lastCraneVerdict := .hold } := rfl

/-- The crane after the verdict on slot n at local time t (R60). -/
def Crane.afterRead (c : Crane) (n t : Nat) : Crane :=
  match HoldReason c n t with
  | none => c.passRead n
  | some _ => c.holdRead n

/-- A verdict changes no record but that of its own slot. -/
theorem Crane.afterRead_slot_other {c : Crane} {n t k : Nat} (h : k ≠ n) : (c.afterRead n t).slot k = c.slot k := by
  unfold Crane.afterRead
  split <;> exact Crane.setSlot_slot_other h _

section
variable {s : State} {i : Fin 16} {n : Nat}

theorem State.headerRead_of_pass (h : HoldReason (s.crane i) n s.time.lt = none) :
    s.headerRead i n = (s.setCrane i ((s.crane i).passRead n), .pass) := by
  simp [State.headerRead, Crane.holdReason_eq, h]

theorem State.headerRead_of_hold {reason : Nat} (h : HoldReason (s.crane i) n s.time.lt = some reason) :
    s.headerRead i n =
      (if (s.crane i).lastCraneVerdict = .pass then
          (s.setCrane i ((s.crane i).holdRead n)).raise .frameHeld i.val (word reason) (word n) (word ((s.crane i).holdSequence n))
        else s.setCrane i ((s.crane i).holdRead n),
        .hold (holdFrame (s.crane i).params.craneId ((s.crane i).holdSequence n) reason s.stamp32)) := by
  simp [State.headerRead, Crane.holdReason_eq, h]

theorem State.headerRead_cranes : (s.headerRead i n).1.cranes = upd s.cranes i ((s.crane i).afterRead n s.time.lt) := by
  unfold Crane.afterRead
  cases h : HoldReason (s.crane i) n s.time.lt with
  | none => rw [headerRead_of_pass h]; rfl
  | some reason =>
    rw [headerRead_of_hold h]
    dsimp only
    split <;> rfl

theorem State.headerRead_crane : (s.headerRead i n).1.crane i = (s.crane i).afterRead n s.time.lt := by
  rw [State.crane, headerRead_cranes, upd_get_self]

theorem State.headerRead_crane_other {d : Fin 16} (h : d ≠ i) : (s.headerRead i n).1.crane d = s.crane d := by
  rw [State.crane, headerRead_cranes, upd_get_other _ _ _ _ h]
  rfl

/-- The event of a header-beat read keeps its work, and calls for the status block exactly if its notice has changed the flags or the
overflow set (R149, R154). -/
theorem State.headerRead_status (hidle : s.scratch.statusDue = false) :
    (s.headerRead i n).1.scratch.work = s.scratch.work ∧
      ((s.headerRead i n).1.scratch.statusDue = false ↔ (s.headerRead i n).1.notice.flags = s.notice.flags ∧
        (s.headerRead i n).1.notice.overflow = s.notice.overflow) := by
  cases hv : HoldReason (s.crane i) n s.time.lt with
  | none => simp [headerRead_of_pass hv, hidle]
  | some reason =>
    rw [headerRead_of_hold hv]
    dsimp only
    split
    · exact ⟨rfl, State.raise_statusDue_iff hidle ..⟩
    · simp [hidle]

end

/-! ## The beats of a read (R58, R62) -/

theorem State.readBeat_header (s : State) (i : Fin 16) {size off : Nat} (h : off % size = 0) :
    s.readBeat i size off = s.headerRead i (off / size) := if_pos h

theorem State.readBeat_payload (s : State) (i : Fin 16) {size off : Nat} (h : off % size ≠ 0) :
    s.readBeat i size off = (s, (s.crane i).payloadPlan (off / size)) := if_neg h

theorem State.readBeats_succ (s : State) (i : Fin 16) (size off k : Nat) :
    s.readBeats i size off (k + 1) =
      (((s.readBeat i size off).1.readBeats i size (off + 16) k).1,
        (s.readBeat i size off).2 :: ((s.readBeat i size off).1.readBeats i size (off + 16) k).2) := rfl

/-- A read of payload beats alone changes nothing, and each beat goes by its slot's record (R62). -/
theorem State.readBeats_payload (s : State) (i : Fin 16) {size k off : Nat} (h : ∀ b < k, (off + 16 * b) % size ≠ 0) :
    s.readBeats i size off k = (s, (List.range k).map fun b => (s.crane i).payloadPlan ((off + 16 * b) / size)) := by
  induction k generalizing off with
  | zero => rfl
  | succ k ih =>
    have hmove : ∀ b, off + 16 * (b + 1) = off + 16 + 16 * b := fun b => by ring
    have htail : ∀ b < k, (off + 16 + 16 * b) % size ≠ 0 := fun b hb => hmove b ▸ h (b + 1) (by omega)
    have hfirst : off % size ≠ 0 := h 0 (by omega)
    rw [State.readBeats_succ, State.readBeat_payload s i hfirst, ih htail, List.range_succ_eq_map]
    simp [Function.comp_def, hmove]

/-- Less than a slot beyond a header beat stands no header beat. -/
theorem add_mod_ne_zero {x d size : Nat} (hx : x % size = 0) (hpos : 0 < d) (hlt : d < size) : (x + d) % size ≠ 0 := by
  rw [Nat.add_mod, hx, Nat.zero_add, Nat.mod_mod, Nat.mod_eq_of_lt hlt]
  omega

/-- The beats before a header beat are those of an earlier slot. -/
theorem div_ne_div_of_header {x d size : Nat} (hz : (x + d) % size = 0) (hpos : 0 < d) : x / size ≠ (x + d) / size := by
  have hx : x < size * ((x + d) / size) := by
    rw [Nat.mul_div_cancel' (Nat.dvd_of_mod_eq_zero hz)]
    omega
  exact (Nat.div_lt_of_lt_mul hx).ne

/-- What happens to beat b of a read from `off` on whose beat j is a header beat: the verdict to that beat, and to any other the
judgement of its slot's record after the verdict (R62). -/
def State.headerPlan (s : State) (i : Fin 16) (size off j b : Nat) : BeatPlan :=
  let verdict := s.headerRead i ((off + 16 * j) / size)
  if b = j then verdict.2 else (verdict.1.crane i).payloadPlan ((off + 16 * b) / size)

/-- Taking the first beat off a read moves its header beat one beat to the front. -/
theorem State.headerPlan_succ (s : State) (i : Fin 16) (size off j b : Nat) :
    s.headerPlan i size off (j + 1) (b + 1) = s.headerPlan i size (off + 16) j b := by
  have hmove : ∀ x, off + 16 * (x + 1) = off + 16 + 16 * x := fun x => by ring
  simp [State.headerPlan, hmove]

/-- A read of no more than one slot's bytes whose beat j is a header beat: the one verdict changes the state. The beats before it are
of another slot, whose record it leaves as it was, so they too are judged as after it. -/
theorem State.readBeats_header (s : State) (i : Fin 16) {size k off j : Nat} (hj : j < k) (hk : 16 * k ≤ size)
    (hz : (off + 16 * j) % size = 0) :
    s.readBeats i size off k =
      ((s.headerRead i ((off + 16 * j) / size)).1, (List.range k).map (s.headerPlan i size off j)) := by
  induction k generalizing off j with
  | zero => omega
  | succ k ih =>
    have hmove : ∀ b, off + 16 * (b + 1) = off + 16 + 16 * b := fun b => by ring
    rw [State.readBeats_succ, List.range_succ_eq_map, List.map_cons, List.map_map]
    cases j with
    | zero =>
      have hrest : ∀ b < k, (off + 16 + 16 * b) % size ≠ 0 := fun b hb => by
        rw [Nat.add_assoc]
        exact add_mod_ne_zero hz (by omega) (by omega)
      have hfirst : off % size = 0 := hz
      rw [State.readBeat_header s i hfirst, State.readBeats_payload _ i hrest]
      simp [State.headerPlan, Function.comp_def, hmove]
    | succ j =>
      have hfirst : off % size ≠ 0 := fun h => add_mod_ne_zero h (by omega) (by omega) hz
      have hslot : off / size ≠ (off + 16 * (j + 1)) / size := div_ne_div_of_header hz (by omega)
      have hplan : s.headerPlan i size off (j + 1) 0 = (s.crane i).payloadPlan (off / size) := by
        simp only [State.headerPlan, Nat.mul_zero, Nat.add_zero, if_neg (Nat.zero_ne_add_one j), State.headerRead_crane]
        exact Crane.payloadPlan_congr (Crane.afterRead_slot_other hslot)
      rw [hmove] at hz
      rw [State.readBeat_payload s i hfirst, ih (by omega) (by omega) hz, hplan, hmove]
      simp only [Function.comp_def, State.headerPlan_succ]

section
variable {m : MasterId} {a : Address} {beats : Nat} {s : State} {w : Fin 32} {i : Fin 16} {size j : Nat}

/-- A read transfer with a header beat in a slot table's window comes to the one verdict and the plan of the beats around it. -/
theorem readTransfer_header_next (hwf : (Transfer.read m a beats).wf = true) (hs : Free .other s)
    (hfall : FallsInSlots s a.toNat w i size) (hj : j < beats)
    (hz : (a.toNat - (s.window w).base + 16 * j) % size = 0) :
    exec (.readTransfer m a beats) s =
      .next ((s.headerRead i ((a.toNat - (s.window w).base + 16 * j) / size)).1.forward
        (.read m a ((List.range beats).map (s.headerPlan i size (a.toNat - (s.window w).base) j)))).finish := by
  have hsize : 16 * beats ≤ size := by
    obtain ⟨-, -, -, -, hmem, -⟩ := hfall
    have hbeats := Transfer.read_beats_le hwf
    fin_cases hmem <;> omega
  rw [readTransfer_next hwf hs, State.passRead_fallsInSlots hfall, State.readBeats_header s i hj hsize hz]

end

/-! ## The end of a header-beat read -/

theorem State.forward_finish_crane (s : State) (p : Passing) (d : Fin 16) : (s.forward p).finish.crane d = s.crane d := by
  simp [State.crane]

section
variable {s : State} {i : Fin 16} {n : Nat} (hs : Free .other s) (p : Passing)
include hs

theorem State.headerRead_finish_frame : OnlyTouches [.cranes, .notice, .arb] s ((s.headerRead i n).1.forward p).finish := by
  refine OnlyTouches.finish hs ?_ (.inl (by simp))
  simp [OnlyTouches]

theorem State.headerRead_pass_finish (hv : HoldReason (s.crane i) n s.time.lt = none) :
    let t := ((s.headerRead i n).1.forward p).finish
    t.notice = s.notice ∧ t.arb = { s.arb with passing := s.arb.passing ++ [p] } ∧ t.crane i = (s.crane i).passRead n := by
  have hnotice := hs.notice_followed
  have hidle := hs.scratch_idle
  rw [headerRead_of_pass hv]
  refine ⟨hnotice, ?_, ?_⟩
  · simp [State.flushStatus_arb, State.forward, hidle, EventScratch.idle]
  · rw [forward_finish_crane, setCrane_crane_self]

theorem State.headerRead_hold_finish {reason : Nat} (hv : HoldReason (s.crane i) n s.time.lt = some reason) :
    let t := ((s.headerRead i n).1.forward p).finish
    t.crane i = (s.crane i).holdRead n ∧ ForwardsWithStatus p s t ∧
      t.notice = if (s.crane i).lastCraneVerdict = .pass then
        (s.notice.take (noticeOf .frameHeld i.val s.stamp reason n ((s.crane i).holdSequence n))).followed else s.notice := by
  have hidle := hs.scratch_idle
  obtain ⟨hwork, hdue⟩ := s.headerRead_status (i := i) (n := n) (by rw [hidle]; rfl)
  refine ⟨?_, ForwardsWithStatus.of_finish (headerRead_arb ..) (by rw [hwork, hidle]; rfl) (headerRead_cpb ..) hdue, ?_⟩
  · rw [forward_finish_crane, headerRead_crane, Crane.afterRead, hv]
  · rw [finish_notice_followed, forward_notice, headerRead_of_hold hv]
    split
    · rfl
    · exact hs.notice_followed

end

/-- Settles O24: the read's plan is `State.headerPlan`, whose payload beats are judged after the one verdict, and each of the verdict's
two cases gives the crane, the notice and the own writes. -/
theorem headerReadVerdict : Obligations.HeaderReadVerdict := by
  intro m a beats s w i size j hwf hreset hsettled hfall hj hz c n x sequence
  have hs : Free .other s := Free.of_settled hreset hsettled
  let plan := (List.range beats).map (s.headerPlan i size (a.toNat - (s.window w).base) j)
  have hplan : ∀ b < beats, plan[b]? = some (s.headerPlan i size (a.toNat - (s.window w).base) j b) := fun b hb => by
    simp [plan, hb]
  refine ⟨_, plan, readTransfer_header_next hwf hs hfall hj hz, State.headerRead_finish_frame hs _, ?others, by simp [plan],
    ?payload, ?verdict⟩
  case others =>
    intro d hd
    rw [State.forward_finish_crane, State.headerRead_crane_other hd]
  case payload =>
    intro b hb hne
    rw [hplan b hb, State.headerPlan, if_neg hne, State.forward_finish_crane, Option.some_inj, Option.some_inj]
    exact ⟨Crane.payloadPlan_eq_pass_iff _ _, Crane.payloadPlan_pass_or_zero _ _⟩
  case verdict =>
    have hverdict : plan[j]? = some (s.headerRead i n).2 := by rw [hplan j hj, State.headerPlan, if_pos rfl]
    cases hv : HoldReason c n s.time.lt with
    | none =>
      obtain ⟨hnotice, harb, hcrane⟩ := State.headerRead_pass_finish hs (.read m a plan) hv
      exact ⟨by rw [hverdict, State.headerRead_of_pass hv], hnotice, harb, hcrane.trans (c.passRead_eq n)⟩
    | some reason =>
      obtain ⟨hcrane, hforwards, hnotice⟩ := State.headerRead_hold_finish hs (.read m a plan) hv
      exact ⟨by rw [hverdict, State.headerRead_of_hold hv]; rfl, hcrane.trans (c.holdRead_eq n), hforwards, hnotice⟩

end Sys2Proof.Machine
end

section
/-! SUPPORT. Summaries of squares (R99), and the effects of their changes in order (R100). -/

namespace Sys2Proof.Machine

/-! ## States that differ in the call for a status block

R100's effects read neither the call for a status block nor anything made from it, so they are the same in two such states. -/

/-- t is s but for whether the event has called for a status block (R154). -/
def SameButDue (s t : State) : Prop := ∃ due, t = s.setScratch { s.scratch with statusDue := due }

namespace SameButDue

section
variable {s t : State}

theorem cranes (h : SameButDue s t) : t.cranes = s.cranes := by
  obtain ⟨due, rfl⟩ := h
  rfl

theorem notice (h : SameButDue s t) : t.notice = s.notice := by
  obtain ⟨due, rfl⟩ := h
  rfl

theorem arb (h : SameButDue s t) : t.arb = s.arb := by
  obtain ⟨due, rfl⟩ := h
  rfl

theorem setCrane (h : SameButDue s t) (i : Fin 16) (c : Crane) : SameButDue (s.setCrane i c) (t.setCrane i c) := by
  obtain ⟨due, rfl⟩ := h
  exact ⟨due, rfl⟩

theorem raise (h : SameButDue s t) (k : NoticeKind) (n : Nat) (v1 v2 v3 : Word) :
    SameButDue (s.raise k n v1 v2 v3) (t.raise k n v1 v2 v3) := by
  obtain ⟨due, rfl⟩ := h
  exact ⟨_, rfl⟩

theorem writeCraneMirror (h : SameButDue s t) (i : Fin 16) : SameButDue (s.writeCraneMirror i) (t.writeCraneMirror i) := by
  obtain ⟨due, rfl⟩ := h
  unfold State.writeCraneMirror
  by_cases hd : s.scratch.deferred = some i
  · simp only [State.setScratch_scratch, if_pos hd]
    exact ⟨due, rfl⟩
  · simp only [State.setScratch_scratch, if_neg hd]
    exact ⟨due, rfl⟩

theorem expireSlot (h : SameButDue s t) (i : Fin 16) (n : Nat) : SameButDue (s.expireSlot i n) (t.expireSlot i n) := by
  obtain ⟨due, rfl⟩ := h
  exact ⟨_, rfl⟩

theorem passedHead (h : SameButDue s t) (i : Fin 16) : t.passedHead i = s.passedHead i := by
  obtain ⟨due, rfl⟩ := h
  rfl

theorem expirePassed (h : SameButDue s t) (i : Fin 16) (k : Nat) :
    SameButDue (s.expirePassed i k) (t.expirePassed i k) := by
  induction k generalizing s t with
  | zero => exact h
  | succ k ih =>
    simp only [State.expirePassed, h.passedHead i]
    split
    · exact ih (h.expireSlot i _)
    · exact h

theorem enterDegraded (h : SameButDue s t) (i : Fin 16) : SameButDue (s.enterDegraded i) (t.enterDegraded i) := by
  have h' := h
  obtain ⟨due, rfl⟩ := h'
  exact (((h.setCrane i _).raise _ _ _ _ _).expirePassed i _).writeCraneMirror i

theorem enterLinked (h : SameButDue s t) (i : Fin 16) (k : NoticeKind) :
    SameButDue (s.enterLinked i k) (t.enterLinked i k) := by
  have h' := h
  obtain ⟨due, rfl⟩ := h'
  exact ((h.setCrane i _).raise _ _ _ _ _).writeCraneMirror i

theorem crane (h : SameButDue s t) (i : Fin 16) : t.crane i = s.crane i := by rw [State.crane, State.crane, h.cranes]

theorem judgeOnSquare (h : SameButDue s t) (i : Fin 16) (before after : SquareState) :
    SameButDue (s.judgeOnSquare i before after) (t.judgeOnSquare i before after) := by
  simp only [State.judgeOnSquare, h.crane i]
  cases (s.crane i).link with
  | linked =>
    dsimp only
    split
    · exact h.enterDegraded i
    · exact h
  | degraded =>
    dsimp only
    split
    · exact h.enterLinked i _
    · exact h
  | lost => exact h
  | dormant => exact h

theorem reportSquare (h : SameButDue s t) (q : Fin 512) (before after : SquareState) :
    SameButDue (s.reportSquare q before after) (t.reportSquare q before after) := by
  unfold State.reportSquare
  induction List.finRange 16 generalizing s t with
  | nil => exact h
  | cons i l ih =>
    simp only [List.foldl_cons, h.crane i]
    split
    · exact ih (h.judgeOnSquare i before after)
    · exact ih h

end

end SameButDue

/-! ## The best cell (R99) -/

/-- A candidate for best cell is the best fresh entry of the places of `l`, or there is none and none of them is fresh (R99). -/
def BestAmong (entries : Vector CellEntry 24) (l : List (Fin 24)) : Option (Fin 24 × Int) → Prop
  | none => ∀ c ∈ l, ∀ e u, entries.get c ≠ .fresh e u
  | some (c, e) => (∃ u, entries.get c = .fresh e u) ∧ c ∈ l ∧
      ∀ d ∈ l, ∀ f u, entries.get d = .fresh f u → f < e ∨ (f = e ∧ c ≤ d)

section
variable {entries : Vector CellEntry 24}

theorem betterCell_fresh_none (c : Fin 24) (e : Int) (u : Nat) : betterCell none c (.fresh e u) = some (c, e) := rfl

theorem betterCell_fresh_some (b : Fin 24) (f : Int) (c : Fin 24) (e : Int) (u : Nat) :
    betterCell (some (b, f)) c (.fresh e u) = if f < e then some (c, e) else some (b, f) := rfl

theorem betterCell_of_not_fresh (best : Option (Fin 24 × Int)) (c : Fin 24) {x : CellEntry} (h : ∀ e u, x ≠ .fresh e u) :
    betterCell best c x = best := by
  cases x with
  | fresh e u => exact absurd rfl (h e u)
  | absent => rfl
  | stale e u => rfl

/-- A later place takes over only with a greater estimate, so a tie stays with the lower index. -/
theorem BestAmong.betterCell {l : List (Fin 24)} {best : Option (Fin 24 × Int)} (h : BestAmong entries l best) {c : Fin 24}
    (hc : ∀ d ∈ l, d < c) : BestAmong entries (l ++ [c]) (betterCell best c (entries.get c)) := by
  by_cases hfresh : ∃ e u, entries.get c = .fresh e u
  · obtain ⟨e, u, he⟩ := hfresh
    have hself : ∀ f v, entries.get c = .fresh f v → f = e := fun f v hf => (CellEntry.fresh.inj (hf.symm.trans he)).1
    rw [he]
    cases best with
    | none =>
      rw [betterCell_fresh_none]
      exact ⟨⟨u, he⟩, by simp, List.forall_mem_append.2 ⟨fun d hd f v hf => absurd hf (h d hd f v),
        List.forall_mem_singleton.2 fun f v hf => .inr ⟨hself f v hf, le_rfl⟩⟩⟩
    | some b =>
      obtain ⟨b, g⟩ := b
      obtain ⟨hb, hmem, hbest⟩ := h
      rw [betterCell_fresh_some]
      split
      · next hlt =>
        refine ⟨⟨u, he⟩, by simp, List.forall_mem_append.2 ⟨fun d hd f v hf => ?_,
          List.forall_mem_singleton.2 fun f v hf => .inr ⟨hself f v hf, le_rfl⟩⟩⟩
        have := hbest d hd f v hf
        omega
      · next hge =>
        refine ⟨hb, by simp [hmem], List.forall_mem_append.2 ⟨hbest, List.forall_mem_singleton.2 fun f v hf => ?_⟩⟩
        have := hself f v hf
        have := hc b hmem
        omega
  · have hstays : ∀ e u, entries.get c ≠ .fresh e u := fun e u he => hfresh ⟨e, u, he⟩
    rw [betterCell_of_not_fresh _ _ hstays]
    cases best with
    | none => exact List.forall_mem_append.2 ⟨h, List.forall_mem_singleton.2 hstays⟩
    | some b =>
      obtain ⟨hb, hmem, hbest⟩ := h
      exact ⟨hb, by simp [hmem], List.forall_mem_append.2 ⟨hbest,
        List.forall_mem_singleton.2 fun f v hf => absurd hf (hstays f v)⟩⟩

theorem bestCell_bestAmong (entries : Vector CellEntry 24) : BestAmong entries (List.finRange 24) (bestCell entries) := by
  have hsorted : (List.finRange 24).Pairwise (· < ·) := List.pairwise_lt_finRange 24
  unfold bestCell
  generalize List.finRange 24 = places at hsorted ⊢
  induction places using List.reverseRecOn with
  | nil => simp [BestAmong]
  | append_singleton l c ih =>
    obtain ⟨hl, -, hc⟩ := List.pairwise_append.1 hsorted
    rw [List.foldl_append]
    exact (ih hl).betterCell fun d hd => hc d hd c (by simp)

theorem BestOf.unique {c d : Fin 24} {e f : Int} (hc : BestOf entries c e) (hd : BestOf entries d f) : c = d ∧ e = f := by
  obtain ⟨⟨u, hu⟩, hcbest⟩ := hc
  obtain ⟨⟨v, hv⟩, hdbest⟩ := hd
  have h1 := hcbest d f v hv
  have h2 := hdbest c e u hu
  omega

theorem bestCell_cases (entries : Vector CellEntry 24) :
    (bestCell entries = none ∧ ∀ c e u, entries.get c ≠ .fresh e u) ∨
      ∃ c e, bestCell entries = some (c, e) ∧ BestOf entries c e := by
  have h := bestCell_bestAmong entries
  cases hb : bestCell entries with
  | none =>
    rw [hb] at h
    exact .inl ⟨rfl, fun c => h c (List.mem_finRange c)⟩
  | some b =>
    rw [hb] at h
    obtain ⟨hfresh, -, hbest⟩ := h
    exact .inr ⟨b.1, b.2, rfl, hfresh, fun d => hbest d (List.mem_finRange d)⟩

theorem bestCell_eq_none (h : ∀ c e u, entries.get c ≠ .fresh e u) : bestCell entries = none := by
  obtain ⟨hnone, -⟩ | ⟨c, e, -, ⟨u, hu⟩, -⟩ := bestCell_cases entries
  · exact hnone
  · exact absurd hu (h c e u)

theorem bestCell_eq_some {c : Fin 24} {e : Int} (h : BestOf entries c e) : bestCell entries = some (c, e) := by
  obtain ⟨-, hstale⟩ | ⟨d, f, hsome, hbest⟩ := bestCell_cases entries
  · obtain ⟨⟨u, hu⟩, -⟩ := h
    exact absurd hu (hstale c e u)
  · obtain ⟨rfl, rfl⟩ := h.unique hbest
    exact hsome

theorem exists_bestOf (h : ∃ c e u, entries.get c = .fresh e u) : ∃ c e, BestOf entries c e := by
  obtain ⟨-, hstale⟩ | ⟨c, e, -, hbest⟩ := bestCell_cases entries
  · obtain ⟨c, e, u, hu⟩ := h
    exact absurd hu (hstale c e u)
  · exact ⟨c, e, hbest⟩

end

/-! ## The summary (R99) -/

/-- The code's table of states, with the thresholds × 8, is that of R99. -/
theorem nextSquareState_eq (p : CoverageParams) (before : SquareState) (b : Int) :
    nextSquareState p before b = StateAfter p before b := by
  cases before <;> simp [nextSquareState, StateAfter, mul_comm]

section
variable (x : Square) (p : CoverageParams) (now : Stamp)

theorem Square.summarised_unknown (h : ∀ c e u, x.entries.get c ≠ .fresh e u) :
    (x.summarised p now).state = .unknown ∧ (x.summarised p now).best = none ∧ (x.summarised p now).bestEstimate = none := by
  simp [Square.summarised, bestCell_eq_none h]

theorem Square.summarised_best {c : Fin 24} {e : Int} (h : BestOf x.entries c e) :
    (x.summarised p now).best = some c ∧ (x.summarised p now).bestEstimate = some e ∧
      (x.summarised p now).state = StateAfter p x.state e := by
  simp [Square.summarised, bestCell_eq_some h, nextSquareState_eq]

theorem Square.summarised_lastChange :
    (x.summarised p now).lastChange = if (x.summarised p now).state = x.state then x.lastChange else some now := rfl

end

/-! ## The effects of a change (R100) -/

/-- The mirror record of square q goes to the own writes at its place in the window in use, if there is one (R109). -/
theorem State.writeGridMirror_arb (s : State) (q : Fin 512) : (s.writeGridMirror q).arb =
    match s.mirrorBase .gridMirror with
    | some b => s.arb.hand s.scratch.work ⟨b + 16 * q.val, (s.square q).mirrorRecord s.grid.cells⟩
    | none => s.arb := by
  cases h : s.mirrorBase .gridMirror <;> simp [State.writeGridMirror, State.handMirror, h]

theorem State.raise_square (s : State) (k : NoticeKind) (n : Nat) (v1 v2 v3 : Word) (q : Fin 512) :
    (s.raise k n v1 v2 v3).square q = s.square q := rfl

section
variable {s : State} {q : Fin 512} {old : Square}

/-- A change of the best cell alone is written to the mirror, and no other change has an effect without a change of state. -/
theorem State.afterRecompute_of_kept (h : (s.square q).state = old.state) :
    s.afterRecompute q old = if (s.square q).best = old.best then s else s.writeGridMirror q := by
  simp [State.afterRecompute, h]

/-- A change of state has all three effects, the judgement last. -/
theorem State.afterRecompute_of_changed (h : (s.square q).state ≠ old.state) :
    s.afterRecompute q old =
      ((s.raise .squareState q.val (word old.state.code) (word (s.square q).state.code)
        (wordI ((s.square q).bestEstimate.getD 0))).writeGridMirror q).reportSquare q old.state (s.square q).state := by
  simp [State.afterRecompute, h]

end

/-- R100's effects in their order. After a change of state the judgement begins in a state that differs from the one written out in
`SquareChanged` in the call for a status block alone, which SQUARE_STATE may have made. -/
theorem State.changeSquare_changes (s : State) (q : Fin 512) (entries : Vector CellEntry 24) :
    SquareChanged s (s.changeSquare q entries) q entries := by
  simp only [SquareChanged, State.changeSquare]
  generalize s.square q = old
  generalize ({ old with entries := entries } : Square).summarised s.grid.params s.stamp = new
  have hsquare : (s.setSquare q new).square q = new := s.setSquare_square_self q new
  by_cases hstate : new.state = old.state
  · rw [State.afterRecompute_of_kept (by rw [hsquare, hstate]), hsquare]
    by_cases hbest : new.best = old.best
    · simp only [hstate, hbest, and_self, if_true]
      exact ⟨rfl, rfl, rfl, rfl⟩
    · simp only [hstate, hbest, and_false, if_true, if_false]
      refine ⟨rfl, rfl, rfl, ?_⟩
      rw [State.writeGridMirror_arb, hsquare]
      rfl
  · rw [State.afterRecompute_of_changed (by rw [hsquare]; exact hstate), hsquare]
    simp only [hstate, false_and, if_false]
    refine ⟨by simp, SameButDue.cranes (.reportSquare ?before ..), SameButDue.notice (.reportSquare ?before ..),
      SameButDue.arb (.reportSquare ?before ..)⟩
    rw [State.writeGridMirror, State.raise_square, hsquare]
    exact ⟨_, rfl⟩

/-- Settles O38: the effects are the three cases of `State.afterRecompute`, and the summary is that of the best cell's two cases. -/
theorem summaryRecomputed : Obligations.SummaryRecomputed :=
  ⟨State.changeSquare_changes, fun x p now => ⟨rfl, x.summarised_unknown p now, fun _ _ => x.summarised_best p now, exists_bestOf,
    x.summarised_lastChange p now⟩⟩

end Sys2Proof.Machine
end

section
/-! SUPPORT. Samples (R97, R98): the entry one moves, the place it is of, and the limiter for unknown identities. -/

namespace Sys2Proof.Machine

/-! ## The lowest index that meets a condition -/

section
variable {α : Type} {n : Nat} {v : Vector α n} {p : α → Bool}

theorem firstIndex_some {i : Fin n} (h : firstIndex v p = some i) : p (v.get i) = true ∧ ∀ j < i, p (v.get j) = false := by
  unfold firstIndex at h
  split at h
  · next k hk =>
    obtain ⟨hlt, hmeets, hbefore⟩ := List.findIdx?_eq_some_iff_getElem.1 hk
    split at h
    · obtain rfl := Option.some.inj h
      exact ⟨hmeets, fun j hj => Bool.eq_false_iff.2 (hbefore j.val hj)⟩
    · cases h
  · cases h

theorem firstIndex_none (h : firstIndex v p = none) (i : Fin n) : p (v.get i) = false := by
  unfold firstIndex at h
  split at h
  · next k hk =>
    obtain ⟨hlt, -⟩ := List.findIdx?_eq_some_iff_getElem.1 hk
    have hk : k < n := by simpa using hlt
    simp [hk] at h
  · next hk =>
    exact List.findIdx?_eq_none_iff.1 hk _ (Vector.mem_toList_iff.2 (Vector.getElem_mem i.isLt))

end

/-! ## The limiter (R97) -/

/-- A pass over places in index order that starts at the first of all and moves on to a strictly smaller time alone ends at the smallest
time, ties at the lower place. -/
theorem foldl_oldest {n : Nat} (time : Fin n → Nat) {places : List (Fin n)} (hsorted : places.Pairwise (· < ·)) {first : Fin n}
    (hfirst : ∀ q, first ≤ q) :
    let oldest := places.foldl (fun best p => if time p < time best then p else best) first
    (oldest = first ∨ oldest ∈ places) ∧ ∀ q ∈ places, time oldest < time q ∨ (time oldest = time q ∧ oldest ≤ q) := by
  induction places using List.reverseRecOn with
  | nil => simp
  | append_singleton places p ih =>
    obtain ⟨hplaces, -, hp⟩ := List.pairwise_append.1 hsorted
    obtain ⟨hmem, hleast⟩ := ih hplaces
    rw [List.foldl_append]
    generalize places.foldl _ first = best at hmem hleast ⊢
    have hbest : best ≤ p := hmem.elim (fun h => h ▸ hfirst p) fun h => (hp best h p (by simp)).le
    simp only [List.foldl_cons, List.foldl_nil]
    split
    · refine ⟨by simp, List.forall_mem_append.2 ⟨fun q hq => ?_, List.forall_mem_singleton.2 (.inr ⟨rfl, le_rfl⟩)⟩⟩
      have := hleast q hq
      omega
    · refine ⟨hmem.imp_right (by simp +contextual), List.forall_mem_append.2 ⟨hleast, List.forall_mem_singleton.2 ?_⟩⟩
      omega

/-- A new identity takes a free place, or, when there is none, the place of the oldest time, ties to the lower place. -/
theorem limiterPlace_rule (l : Vector (Option LimiterPlace) 8) :
    l.get (limiterPlace l) = none ∨ ((∀ q, l.get q ≠ none) ∧
      ∀ x q y, l.get (limiterPlace l) = some x → l.get q = some y →
        x.time < y.time ∨ (x.time = y.time ∧ limiterPlace l ≤ q)) := by
  unfold limiterPlace
  split
  · next p hp =>
    obtain ⟨hfree, -⟩ := firstIndex_some hp
    exact .inl (by simpa using hfree)
  · next hfull =>
    have hfull : ∀ q, ∃ x, l.get q = some x := fun q => Option.isSome_iff_exists.1 (by simpa using firstIndex_none hfull q)
    choose held hheld using hfull
    simp only [hheld]
    obtain ⟨-, holdest⟩ := foldl_oldest (fun p => (held p).time) (List.pairwise_lt_finRange 8) (first := 0) Fin.zero_le
    refine .inr ⟨by simp, fun x q y hx hy => ?_⟩
    obtain rfl := Option.some.inj hx
    obtain rfl := Option.some.inj hy
    exact holdest q (List.mem_finRange q)

theorem consultLimiter_rule (l : Vector (Option LimiterPlace) 8) (identity t : Nat) :
    LimiterRule l (consultLimiter l identity t).2 identity t (consultLimiter l identity t).1 := by
  unfold consultLimiter
  split
  · next p hp =>
    obtain ⟨hholds, hbefore⟩ := firstIndex_some hp
    obtain ⟨x, hx, hid⟩ : ∃ x, l.get p = some x ∧ x.identity = identity := by simpa using hholds
    refine ⟨fun p' x' hx' hid' hbefore' => ?_, fun hnone => absurd hid (hnone p x hx)⟩
    obtain rfl : p' = p := by
      obtain hlt | heq | hlt := lt_trichotomy p' p
      · simpa [hx', hid'] using hbefore p' hlt
      · exact heq
      · exact absurd hid (hbefore' p hlt x hx)
    obtain rfl := Option.some.inj (hx.symm.trans hx')
    simp only [hx, Nat.add_comm x.time]
    split <;> exact ⟨rfl, rfl⟩
  · next hnone =>
    refine ⟨fun p x hx hid _ => ?_, fun _ => ⟨rfl, limiterPlace l, rfl, limiterPlace_rule l⟩⟩
    simpa [hx, hid] using firstIndex_none hnone p

/-! ## The entry of a sample (R98) -/

/-- The estimate e that a sample with this target and weight gives an entry (R98): an entry that was not fresh takes the target, and a
fresh one moves toward it by the difference divided by 2^weight, truncated and at least one. -/
def SampleGives (target : Int) (weight : Nat) (e : Int) : CellEntry → Prop
  | .fresh old _ =>
    let step := Int.tdiv (target - old) (2 ^ weight)
    e = if step ≠ 0 then old + step else if old < target then old + 1 else if target < old then old - 1 else old
  | .stale _ _ => e = target
  | .absent => e = target

/-- The at-least-one rule moves toward the target by one where the division gives 0. -/
theorem add_filterStep (target old : Int) (weight : Nat) : old + filterStep (target - old) weight =
    if Int.tdiv (target - old) (2 ^ weight) ≠ 0 then old + Int.tdiv (target - old) (2 ^ weight)
    else if old < target then old + 1 else if target < old then old - 1 else old := by
  simp only [filterStep, ne_eq, ite_not]
  split
  · obtain hlt | rfl | hgt := lt_trichotomy old target
    · simp [hlt, Int.sign_eq_one_of_pos (sub_pos.2 hlt)]
    · simp
    · rw [Int.sign_eq_neg_one_of_neg (sub_neg.2 hgt), if_neg hgt.not_gt, if_pos hgt, sub_eq_add_neg]
  · rfl

theorem CellEntry.sampled_fresh (x : CellEntry) (level : Int) (weight arrival : Nat) :
    ∃ e, x.sampled level weight arrival = .fresh e arrival ∧ SampleGives (8 * max (-280) (min (-40) level)) weight e x := by
  have htarget : 8 * max (-280) (min (-40) level) = clamp (-280) (-40) level * 8 := mul_comm ..
  rw [htarget]
  cases x with
  | fresh old u => exact ⟨_, rfl, add_filterStep _ old weight⟩
  | stale old u => exact ⟨_, rfl, rfl⟩
  | absent => exact ⟨_, rfl, rfl⟩

/-! ## One sample (R97, R98) -/

section
variable {s : State} {identity : Nat} (segment band : Nat) (level : Int) (arrival : Nat) (src : SampleSource)

theorem State.sample_known {c : Fin 24} (h : s.grid.cellIndex identity = some c) :
    s.sample segment band identity level arrival src =
      let q := squareIndex (s.grid.params.clampSegment segment) band
      s.changeSquare q (upd (s.square q).entries c (((s.square q).entries.get c).sampled level src.weight arrival)) := by
  simp [State.sample, h]

theorem State.sample_unknown (h : s.grid.cellIndex identity = none) :
    s.sample segment band identity level arrival src =
      s.unknownSample (squareIndex (s.grid.params.clampSegment segment) band) identity src := by
  simp [State.sample, h]

end

/-- The grid after an unknown identity: one more is counted, and the limiter has been consulted (R97). -/
theorem State.unknownSample_grid (s : State) (q : Fin 512) (identity : Nat) (src : SampleSource) :
    (s.unknownSample q identity src).grid = { s.grid with
      unknownCells := min (s.grid.unknownCells + 1) 4294967295
      limiter := (consultLimiter s.grid.limiter identity s.time.lt).2 } := by
  unfold State.unknownSample
  dsimp only
  split <;> rfl

theorem State.unknownSample_notice (s : State) (q : Fin 512) (identity : Nat) (src : SampleSource) :
    (s.unknownSample q identity src).notice =
      if (consultLimiter s.grid.limiter identity s.time.lt).1 = true then
        s.notice.take (noticeOf .unknownCell q.val s.stamp identity src.code src.subject)
      else s.notice := by
  unfold State.unknownSample
  dsimp only
  split <;> rfl

/-- Settles O39: a known identity's square takes the sampled entry, and an unknown one consults the limiter. -/
theorem sampleApplied : Obligations.SampleApplied := by
  intro s segment band identity arrival level src seg q t target weight source subject
  refine ⟨fun c hknown => ?known, fun hunknown => ?unknown⟩
  case known =>
    obtain ⟨e, hfresh, hgives⟩ := ((s.square q).entries.get c).sampled_fresh level src.weight arrival
    have ht : t = s.changeSquare q (upd (s.square q).entries c (.fresh e arrival)) := by
      rw [← hfresh]
      exact State.sample_known segment band level arrival src hknown
    rw [ht]
    exact ⟨by simp, fun p hp => by rw [State.changeSquare_square, if_neg hp], e,
      by rw [State.changeSquare_square, if_pos rfl], rfl, hgives⟩
  case unknown =>
    have ht : t = s.unknownSample q identity src := State.sample_unknown segment band level arrival src hunknown
    have hgrid := s.unknownSample_grid q identity src
    rw [ht]
    refine ⟨_, ?_, ?_, by simp, by simp, s.unknownSample_notice q identity src⟩
    · rw [hgrid]
      exact consultLimiter_rule ..
    · rw [hgrid]

end Sys2Proof.Machine
end

section
/-! SUPPORT. SET_NOTICE_ENABLES, SET_IRQ_ENABLES and CLEAR_FLAGS (R147, R154 to R156). -/

namespace Sys2Proof.Machine

@[simp] theorem State.taking_notice (s : State) : s.taking.notice = s.notice := rfl

/-! ## A command by the result of its effect -/

section
variable {k : Command} {s : State} {f : State → State × ResultCode}

/-- A command whose effect refuses it. -/
theorem Refuses.of_effect {r : ResultCode} (ho : Offered k s) (hr : r ≠ .running) (hf : f s.taking = (s.taking, r)) :
    Refuses s ((f s.taking).1.complete (f s.taking).2).finish r := by
  rw [hf]
  exact Refuses.of_complete ho hr

/-- A command that gives the Notice Unit the value u, whatever it gathers in the scratch e: the interrupt line follows (R156), and nothing
else is touched but what the report touches. -/
theorem setNotice_complete_frame (ho : Offered k s) (u : NoticeUnit) (e : EventScratch) :
    let t := (((s.taking.setNotice u).setScratch e).complete .done).finish
    OnlyTouches [.notice, .cmd, .arb] s t ∧ t.notice = u.followed := by
  obtain ⟨hfree, -⟩ := ho
  refine ⟨OnlyTouches.complete .done hfree ?_ (by simp) (by simp), ?_⟩
  · simp [OnlyTouches, State.taking]
  · rw [State.finish_notice_followed, State.complete_notice]
    rfl

variable {u : NoticeUnit}

theorem setNotice_done (ho : Offered k s) (hf : f s.taking = (s.taking.setNotice u, .done)) :
    let t := ((f s.taking).1.complete (f s.taking).2).finish
    OnlyTouches [.notice, .cmd, .arb] s t ∧ Reports s t .done ∧ t.notice = u.followed := by
  rw [hf]
  obtain ⟨htouches, hnotice⟩ := setNotice_complete_frame ho u s.taking.scratch
  exact ⟨htouches, Reports.of_complete (r := .done) (by decide) rfl rfl rfl rfl, hnotice⟩

/-- The same for an effect that calls for the status block (R154). -/
theorem setNotice_callStatus_done (ho : Offered k s) (hf : f s.taking = ((s.taking.setNotice u).callStatus, .done)) :
    let t := ((f s.taking).1.complete (f s.taking).2).finish
    OnlyTouches [.notice, .cmd, .arb] s t ∧ ReportsWithStatus s t .done ∧ t.notice = u.followed := by
  rw [hf]
  obtain ⟨htouches, hnotice⟩ := setNotice_complete_frame ho u { s.taking.scratch with statusDue := true }
  exact ⟨htouches, ReportsWithStatus.of_complete (r := .done) (by decide) rfl rfl rfl rfl, hnotice⟩

end

/-! ## The effects of the three commands -/

/-- Which notices are enabled is no term of the interrupt line's condition, so the line stays (R156). -/
theorem Free.setEnables_followed {k : Work} {s : State} (h : Free k s) (e : BitVec 26) :
    ({ s.notice with enables := e } : NoticeUnit).followed = { s.notice with enables := e } :=
  congrArg (fun u : NoticeUnit => { u with enables := e }) h.notice_followed

/-- NOTICE_OVERFLOW is bit 9 of the word of CLEAR FLAGS (R155). -/
theorem NoticeUnit.clearFlags_ofNat (u : NoticeUnit) (x : Nat) : u.clearFlags (BitVec.ofNat 12 x) =
    { u with
      flags := u.flags &&& ~~~BitVec.ofNat 12 x
      overflow := if x.testBit 9 = true then 0 else u.overflow } := by
  have hbit : (BitVec.ofNat 12 x).getLsbD Flag.noticeOverflow.number = x.testBit 9 := by
    rw [BitVec.getLsbD_ofNat]
    rfl
  rw [NoticeUnit.clearFlags, hbit]

section
variable {s : State}

theorem State.doSetNoticeEnables_badArgument (h : 2 ^ 26 ≤ s.arg 1) : s.doSetNoticeEnables = (s, .badArgument) := by
  norm_num at h
  simp [State.doSetNoticeEnables, h]

theorem State.doSetNoticeEnables_done (h : s.arg 1 < 2 ^ 26) : s.doSetNoticeEnables =
    ((s.setNotice { s.notice with enables := BitVec.ofNat 26 (s.arg 1) }).callStatus, .done) := by
  norm_num at h
  simp [State.doSetNoticeEnables, h]

theorem State.doSetIrqEnables_badArgument (h : 2 ^ 13 ≤ s.arg 1) : s.doSetIrqEnables = (s, .badArgument) := by
  norm_num at h
  simp [State.doSetIrqEnables, h]

theorem State.doSetIrqEnables_done (h : s.arg 1 < 2 ^ 13) : s.doSetIrqEnables =
    ((s.setNotice { s.notice with irqEnables := BitVec.ofNat 13 (s.arg 1) }).callStatus, .done) := by
  norm_num at h
  simp [State.doSetIrqEnables, h]

theorem State.doClearFlags_badArgument (h : 2 ^ 12 ≤ s.arg 1) : s.doClearFlags = (s, .badArgument) := by
  norm_num at h
  simp [State.doClearFlags, h]

/-- CLEAR FLAGS calls for the status block exactly if a flag or the overflow set changes (R154, R155). -/
theorem State.doClearFlags_done {u : NoticeUnit} (h : s.arg 1 < 2 ^ 12)
    (hu : s.notice.clearFlags (BitVec.ofNat 12 (s.arg 1)) = u) : s.doClearFlags =
    (if u.flags = s.notice.flags ∧ u.overflow = s.notice.overflow then s.setNotice u else (s.setNotice u).callStatus, .done) := by
  norm_num at h
  simp [State.doClearFlags, h, hu]

end

/-! ## The three commands -/

/-- Settles O50, command by command: a word with a bit beyond the last is refused, and any other word takes effect. -/
theorem enablesAndFlags : Obligations.EnablesAndFlags := by
  refine ⟨fun s ho => ⟨_, command_next ho State.doSetNoticeEnables,
      fun hbad => Refuses.of_effect ho (by decide) (State.doSetNoticeEnables_badArgument hbad), fun hgood => ?notice⟩,
    fun s ho => ⟨_, command_next ho State.doSetIrqEnables,
      fun hbad => Refuses.of_effect ho (by decide) (State.doSetIrqEnables_badArgument hbad), fun hgood => ?irq⟩,
    fun s ho => ⟨_, command_next ho State.doClearFlags,
      fun hbad => Refuses.of_effect ho (by decide) (State.doClearFlags_badArgument hbad), fun hgood => ?flags⟩⟩
  case notice =>
    obtain ⟨htouches, hreport, hnotice⟩ := setNotice_callStatus_done ho (State.doSetNoticeEnables_done (s := s.taking) hgood)
    obtain ⟨hfree, -⟩ := ho
    exact ⟨htouches, hreport, hnotice.trans (hfree.setEnables_followed _)⟩
  case irq => exact setNotice_callStatus_done ho (State.doSetIrqEnables_done hgood)
  case flags =>
    rw [← NoticeUnit.clearFlags_ofNat]
    generalize hu : s.notice.clearFlags (BitVec.ofNat 12 (s.arg 1)) = u
    have heffect := State.doClearFlags_done (s := s.taking) hgood hu
    rw [State.taking_notice] at heffect
    by_cases hsame : u.flags = s.notice.flags ∧ u.overflow = s.notice.overflow
    · rw [if_pos hsame] at heffect
      obtain ⟨htouches, hreport, hnotice⟩ := setNotice_done ho heffect
      rw [hnotice]
      exact ⟨htouches, rfl, fun _ => hreport, fun hchanged => absurd hsame hchanged⟩
    · rw [if_neg hsame] at heffect
      obtain ⟨htouches, hreport, hnotice⟩ := setNotice_callStatus_done ho heffect
      rw [hnotice]
      exact ⟨htouches, rfl, fun hkept => absurd hkept hsame, fun _ => hreport⟩

end Sys2Proof.Machine
end

section
/-! SUPPORT. READ_COUNTERS and CLEAR_COUNTERS (R169, R170). -/

namespace Sys2Proof.Machine

/-! ## The counter snapshot (R169) -/

/-- A table as the list of its entries in index order. -/
theorem toList_eq_map_get {α : Type} {n : Nat} (v : Vector α n) : v.toList = (List.finRange n).map v.get := by
  have hget : (fun i : Fin n => v[i.val]) = v.get := rfl
  rw [← List.ofFn_eq_map, ← hget, ← Vector.toList_ofFn, Vector.ofFn_getElem]

theorem leBytes_zero (k : Nat) : leBytes k 0 = List.replicate k 0 := by
  induction k with
  | zero => rfl
  | succ k ih => rw [leBytes, Nat.zero_div, ih]; rfl

/-- An entry not in use reads as four zeros, sixteen bytes. -/
theorem Window.counterBytes_eq (w : Window) : w.counterBytes =
    if w.inUse = true then leBytes 4 w.taken ++ leBytes 4 w.missed ++ leBytes 4 w.torn ++ leBytes 4 w.blocked
    else List.replicate 16 0 := by
  rw [Window.counterBytes, leBytes_zero]

/-- The snapshot is taken entry by entry in index order. -/
theorem State.counterSnapshot_eq (s : State) : s.counterSnapshot = (List.finRange 32).flatMap fun i =>
    if (s.window i).inUse = true then
      leBytes 4 (s.window i).taken ++ leBytes 4 (s.window i).missed ++ leBytes 4 (s.window i).torn ++ leBytes 4 (s.window i).blocked
    else List.replicate 16 0 := by
  rw [State.counterSnapshot, toList_eq_map_get, List.flatMap_map]
  exact List.flatMap_congr fun i _ => (s.window i).counterBytes_eq

/-! ## READ_COUNTERS -/

/-- The end of a command whose effect has handed the own writes v and w, in this order, and nothing else. -/
theorem handTwice_complete_done {k : Command} {s : State} (ho : Offered k s) (v w : OwnWrite) :
    let t := (((s.taking.hand v.addr v.data).hand w.addr w.data).complete .done).finish
    OnlyTouches [.cmd, .arb] s t ∧ t.cmd = s.cmd.reported .done ∧
      t.arb = ((s.arb.hand .command v).hand .command w).hand .command ⟨s.pageAddr 0x80, t.cmd.resultRecord⟩ := by
  obtain ⟨hfree, -⟩ := ho
  refine ⟨OnlyTouches.complete .done hfree ?_ (by simp) (by simp), State.complete_cmd_reported (by decide) rfl, ?_⟩
  · simp [OnlyTouches, State.taking]
  · rw [State.complete_finish_arb (by decide)]
    rfl

/-! ## CLEAR_COUNTERS -/

@[simp] theorem State.taking_entry (s : State) (n : Fin 4096) : s.taking.entry n = s.entry n := rfl

section
variable (v : State) (r : ResultCode)

/-! The end of a command leaves the blocks that hold counts as the effect has made them. -/

theorem State.complete_finish_intake : (v.complete r).finish.intake = v.intake := by simp
theorem State.complete_finish_grid : (v.complete r).finish.grid = v.grid := by simp
theorem State.complete_finish_reefer : (v.complete r).finish.reefer = v.reefer := by simp
theorem State.complete_finish_window (i : Fin 32) : (v.complete r).finish.window i = v.window i := by simp [State.window]
theorem State.complete_finish_entry (n : Fin 4096) : (v.complete r).finish.entry n = v.entry n := by simp [State.entry]

end

section
variable (s : State)

theorem State.doClearCounters_window (i : Fin 32) : s.doClearCounters.1.window i = (s.window i).zeroed :=
  ofFn_get _ i

theorem State.doClearCounters_intake : s.doClearCounters.1.intake = s.intake.uncountAll := rfl

theorem State.doClearCounters_grid : s.doClearCounters.1.grid =
    { s.grid with unknownCells := 0, measureUsed := 0, measureRejected := 0, measureClamped := 0 } := rfl

theorem State.doClearCounters_reefer : s.doClearCounters.1.reefer =
    { s.reefer with unknownTags := 0, dropped := 0, rejected := 0, entries := s.doClearCounters.1.reefer.entries } := rfl

theorem State.doClearCounters_entry (n : Fin 4096) :
    s.doClearCounters.1.entry n = { s.entry n with reports := 0, missed := 0, duplicates := 0 } :=
  ofFn_get _ n

end

/-- The end of CLEAR COUNTERS, whose effect calls for no status block and hands no own write. -/
theorem clearCounters_complete_frame {s : State} (ho : Offered .clearCounters s) :
    let t := (s.taking.doClearCounters.1.complete .done).finish
    OnlyTouches [.windows, .intake, .grid, .reefer, .cmd, .arb] s t ∧ Reports s t .done := by
  obtain ⟨hfree, -⟩ := ho
  refine ⟨OnlyTouches.complete .done hfree ?_ (by simp) (by simp),
    Reports.of_complete (by decide) s.taking.doClearCounters_cmd s.taking.doClearCounters_arb s.taking.doClearCounters_cpb
      s.taking.doClearCounters_scratch⟩
  simp [OnlyTouches, State.taking]

/-! ## The two commands -/

/-- Settles O55: READ COUNTERS hands the two halves of the snapshot before its result record, and CLEAR COUNTERS ends with every block
that holds counts as its effect has left it. -/
theorem counterCommands : Obligations.CounterCommands := by
  refine ⟨fun s ho => ⟨_, command_next ho State.doReadCounters, ?read⟩,
    fun s ho => ⟨_, command_next ho State.doClearCounters, ?clear⟩⟩
  case read =>
    rw [← s.counterSnapshot_eq]
    exact handTwice_complete_done ho ⟨s.pageAddr 0x400, s.counterSnapshot.take 256⟩
      ⟨s.pageAddr 0x500, s.counterSnapshot.drop 256⟩
  case clear =>
    obtain ⟨htouches, hreports⟩ := clearCounters_complete_frame ho
    have hintake := (State.complete_finish_intake _ .done).trans s.taking.doClearCounters_intake
    refine ⟨htouches, hreports, fun i => ?windows, congrArg Intake.uplink hintake, congrArg Intake.reefer hintake,
      congrArg Intake.measure hintake, congrArg Intake.time hintake, ?grid, ?reefer, fun n => ?entries⟩
    case windows => exact (State.complete_finish_window ..).trans (s.taking.doClearCounters_window i)
    case grid => exact (State.complete_finish_grid ..).trans s.taking.doClearCounters_grid
    case reefer =>
      rw [State.complete_finish_reefer]
      exact s.taking.doClearCounters_reefer
    case entries => exact (State.complete_finish_entry ..).trans (s.taking.doClearCounters_entry n)

end Sys2Proof.Machine
end

section
/-! SUPPORT. What a whole command can touch, command by command: each invariant of the steps is then a matter of the commands that touch its
blocks. -/

namespace Sys2Proof.Machine

/-! ## Frames of whole commands -/

/-- Every block outside `l` is the same in both states, and so are the straps and the queue of commands. The scratch, the reset line and
the count of RESTARTs are left open. -/
def Frames (l : List Block) (s t : State) : Prop :=
  t.cpb = s.cpb ∧ t.cpid = s.cpid ∧ t.pending = s.pending ∧
  (.time ∈ l ∨ t.time = s.time) ∧ (.windows ∈ l ∨ t.windows = s.windows) ∧ (.intake ∈ l ∨ t.intake = s.intake) ∧
  (.arb ∈ l ∨ t.arb = s.arb) ∧ (.port ∈ l ∨ t.port = s.port) ∧ (.cranes ∈ l ∨ t.cranes = s.cranes) ∧
  (.grid ∈ l ∨ t.grid = s.grid) ∧ (.reefer ∈ l ∨ t.reefer = s.reefer) ∧ (.notice ∈ l ∨ t.notice = s.notice) ∧
  (.cmd ∈ l ∨ t.cmd = s.cmd) ∧ (.mirror ∈ l ∨ t.mirror = s.mirror)

theorem Frames.refl (l : List Block) (s : State) : Frames l s s := by simp [Frames]

section
variable {l : List Block} {s t : State}

theorem Frames.straps (h : Frames l s t) : t.cpb = s.cpb ∧ t.cpid = s.cpid := ⟨h.1, h.2.1⟩

theorem Frames.pending (h : Frames l s t) : t.pending = s.pending := h.2.2.1

theorem Frames.time (h : Frames l s t) (hl : .time ∉ l) : t.time = s.time := by
  obtain ⟨-, -, -, ht, -⟩ := h
  exact ht.resolve_left hl

theorem Frames.windows (h : Frames l s t) (hl : .windows ∉ l) : t.windows = s.windows := by
  obtain ⟨-, -, -, -, hw, -⟩ := h
  exact hw.resolve_left hl

theorem Frames.intake (h : Frames l s t) (hl : .intake ∉ l) : t.intake = s.intake := by
  obtain ⟨-, -, -, -, -, hi, -⟩ := h
  exact hi.resolve_left hl

theorem Frames.cranes (h : Frames l s t) (hl : .cranes ∉ l) : t.cranes = s.cranes := by
  obtain ⟨-, -, -, -, -, -, -, -, hc, -⟩ := h
  exact hc.resolve_left hl

theorem Frames.grid (h : Frames l s t) (hl : .grid ∉ l) : t.grid = s.grid := by
  obtain ⟨-, -, -, -, -, -, -, -, -, hg, -⟩ := h
  exact hg.resolve_left hl

theorem Frames.reefer (h : Frames l s t) (hl : .reefer ∉ l) : t.reefer = s.reefer := by
  obtain ⟨-, -, -, -, -, -, -, -, -, -, hr, -⟩ := h
  exact hr.resolve_left hl

theorem Frames.cmd (h : Frames l s t) (hl : .cmd ∉ l) : t.cmd = s.cmd := by
  obtain ⟨-, -, -, -, -, -, -, -, -, -, -, -, hc, -⟩ := h
  exact hc.resolve_left hl

theorem Frames.mirror (h : Frames l s t) (hl : .mirror ∉ l) : t.mirror = s.mirror := by
  obtain ⟨-, -, -, -, -, -, -, -, -, -, -, -, -, hm⟩ := h
  exact hm.resolve_left hl

end

/-- An event touches the own writes and the interrupt line besides what its effect touches. -/
theorem event_frames {l : List Block} {k : Work} {s t : State} {enabled : Bool} {f : State → State}
    (hf : ∀ u, Frames (.arb :: .notice :: l) u (f u)) (h : event k s enabled f = .next t) : Frames (.arb :: .notice :: l) s t := by
  obtain rfl | ⟨-, -, -, rfl⟩ := event_cases h
  · exact .refl _ _
  · simpa [Frames] using hf (s.beginEvent k)

theorem quietEvent_frames {l : List Block} {s t : State} {enabled : Bool} {f : State → State} (hf : Frames l s (f s))
    (h : quietEvent s enabled f = .next t) : Frames l s t := by
  obtain rfl | ⟨-, -, rfl⟩ := quietEvent_cases h
  · exact .refl _ _
  · exact hf

/-- A command touches the Command Unit, the own writes and the interrupt line besides what its effect touches. -/
theorem command_frames {l : List Block} {k : Command} {s t : State} {f : State → State × ResultCode}
    (hf : ∀ u, Frames (.arb :: .notice :: .cmd :: l) u (f u).1) (h : command k s f = .next t) :
    Frames (.arb :: .notice :: .cmd :: l) s t := by
  refine event_frames (fun u => ?_) h
  simpa [Frames, State.carryOut] using hf u.take

/-- What presenting a transfer can do: nothing, joining the transfers that wait at the port, or the transfer's own event. -/
theorem present_cases {x : Transfer} {s t : State} (h : present x s = .next t) :
    t = s ∨ (x.wf = true ∧ s.inReset = true ∧ t = s.setPort { s.port with waiting := s.port.waiting ++ [x] }) ∨
      (x.wf = true ∧ s.inReset = false ∧ t = s.takeTransfer x) := by
  unfold present at h
  injection h with h
  split at h
  · exact .inl h.symm
  · next hwf =>
    split at h
    · next hr => exact .inr (.inl ⟨by simpa using hwf, hr, h.symm⟩)
    · next hr => exact .inr (.inr ⟨by simpa using hwf, by simpa using hr, h.symm⟩)

/-- The blocks that a write transfer can touch. -/
def writeBlocks : List Block := [.windows, .intake, .arb, .port, .cranes, .notice, .cmd]

theorem present_write_frames {m : MasterId} {a : Address} {lanes : List Lane} {s t : State}
    (h : present (.write m a lanes) s = .next t) : Frames writeBlocks s t := by
  obtain rfl | ⟨-, -, rfl⟩ | ⟨-, -, rfl⟩ := present_cases h
  · exact .refl _ _
  all_goals simp [Frames, writeBlocks]

theorem present_read_frames {m : MasterId} {a : Address} {n : Nat} {s t : State}
    (h : present (.read m a n) s = .next t) : Frames [.arb, .port, .cranes, .notice] s t := by
  obtain rfl | ⟨-, -, rfl⟩ | ⟨-, -, rfl⟩ := present_cases h
  · exact .refl _ _
  all_goals simp [Frames, State.takeTransfer]

/-- CONTROL_PAGE_WRITE presents a write transfer, or has no effect (log entry 26). -/
theorem controlPageWrite_cases {m : MasterId} {b : Nat} {l : List Lane} {s t : State} (h : execControlPageWrite m b l s = .next t) :
    present (.write m (BitVec.ofNat 40 (s.pageAddr (16 * b))) l) s = .next t ∨ t = s := by
  unfold execControlPageWrite at h
  split at h
  · exact .inl h
  · injection h with h; exact .inr h.symm

/-- The blocks that a command can touch; POWER_ON_RESET can touch them all. -/
def touchedBy : Instr → List Block
  | .powerOnReset _ _ => [.time, .windows, .intake, .arb, .port, .cranes, .grid, .reefer, .notice, .cmd, .mirror]
  | .readTransfer _ _ _ => [.arb, .port, .cranes, .notice]
  | .writeTransfer _ _ _ | .ringBaseWrite _ _ | .ringLengthWrite _ _ | .consumerIndexWrite _ _ | .controlPageWrite _ _ _ => writeBlocks
  | .forwardDownstream | .ownWriteIssue | .heldWriteJoin | .ownWriteResponse _ _ => [.arb]
  | .readDataReturn _ _ _ | .writeResponse _ _ => [.arb, .port]
  | .slewStep | .localTimeAdvance => [.time]
  | .timeRecordDequeue => [.arb, .notice, .windows, .intake, .time]
  | .holdoverExpiry => [.arb, .notice, .time]
  | .uplinkRecordDequeue | .measurementRecordDequeue => [.arb, .notice, .windows, .intake, .cranes, .grid]
  | .reeferReportDequeue => [.arb, .notice, .windows, .intake, .cranes, .grid, .reefer]
  | .heartbeatExpiry _ | .slotExpiry _ => [.arb, .notice, .cranes]
  | .agingPassStart => [.grid]
  | .agingVisit | .clearGridVisit => [.arb, .notice, .cranes, .grid]
  | .silenceSweepStart => [.reefer]
  | .sweepVisit => [.arb, .notice, .reefer]
  | .noticePost => [.arb, .notice]
  | .refreshVisit => [.arb, .notice, .mirror]
  | .longOperationEnd => [.arb, .notice, .grid, .mirror, .cmd]
  | .busyRefusal | .unknownCommand | .offerJudgement => [.arb, .notice, .cmd]
  | .defineWindow => [.arb, .notice, .cmd, .windows, .intake, .cranes, .mirror]
  | .deleteWindow => [.arb, .notice, .cmd, .windows, .intake, .cranes]
  | .lockWindow | .unlockWindow => [.arb, .notice, .cmd, .windows]
  | .attachCrane | .detachCrane | .setCraneParameters | .holdCrane | .releaseCrane => [.arb, .notice, .cmd, .cranes]
  | .setCell | .clearCell => [.arb, .notice, .cmd, .cranes, .grid]
  | .setCoverageParameters | .clearGrid => [.arb, .notice, .cmd, .grid]
  | .setCriteria | .enrolReefer | .removeReefer | .setEnrolmentMode => [.arb, .notice, .cmd, .reefer]
  | .refreshMirror => [.arb, .notice, .cmd, .mirror]
  | .setTimeParameters | .startTime | .stopTime => [.arb, .notice, .cmd, .time]
  | .setNoticeEnables | .setIrqEnables | .clearFlags | .readCounters => [.arb, .notice, .cmd]
  | .clearCounters => [.arb, .notice, .cmd, .windows, .intake, .grid, .reefer]
  | .restart => [.time, .windows, .intake, .arb, .cranes, .grid, .reefer, .notice, .cmd, .mirror]
  | .resetAssertion => [.arb, .notice]

/-! ## Every command but POWER_ON_RESET -/

theorem restart_frames {s t : State} (h : execRestart s = .next t) : Frames (touchedBy .restart) s t := by
  unfold execRestart at h
  injection h with h
  split at h
  · subst h; simp [Frames, touchedBy, State.restarted, State.carryOut]
  · subst h; exact .refl _ _

theorem resetAssertion_frames {s t : State} (h : execResetAssertion s = .next t) : Frames (touchedBy .resetAssertion) s t := by
  unfold execResetAssertion at h
  injection h with h
  split at h <;> subst h <;> simp [Frames, touchedBy]

/-- No command but POWER_ON_RESET touches a block beside those of `touchedBy`, the straps or the queue of commands. -/
theorem exec_frames {c : Instr} {s t : State} (h : exec c s = .next t) (hc : ∀ b m, c ≠ .powerOnReset b m) :
    Frames (touchedBy c) s t := by
  cases c with
  | powerOnReset b m => exact absurd rfl (hc b m)
  | readTransfer => exact present_read_frames h
  | writeTransfer | ringBaseWrite | ringLengthWrite | consumerIndexWrite => exact present_write_frames h
  | controlPageWrite m b l =>
    obtain h | rfl := controlPageWrite_cases h
    · exact present_write_frames h
    · exact .refl _ _
  | forwardDownstream | ownWriteIssue | heldWriteJoin | ownWriteResponse | slewStep | localTimeAdvance | agingPassStart
  | silenceSweepStart => simp only [exec] at h; exact quietEvent_frames (by simp [Frames, touchedBy, State.landed]) h
  | readDataReturn | writeResponse => simp only [exec] at h; exact quietEvent_frames (by split <;> simp [Frames, touchedBy, State.landed]) h
  | timeRecordDequeue => simp only [exec] at h; exact event_frames (l := [.windows, .intake, .time]) (fun u => by split <;> simp [Frames]) h
  | holdoverExpiry => simp only [exec] at h; exact event_frames (l := [.time]) (fun u => by simp [Frames]) h
  | uplinkRecordDequeue =>
    simp only [exec] at h
    exact event_frames (l := [.windows, .intake, .cranes, .grid]) (fun u => by split <;> [split; skip] <;> simp [Frames]) h
  | measurementRecordDequeue =>
    simp only [exec] at h
    exact event_frames (l := [.windows, .intake, .cranes, .grid]) (fun u => by split <;> simp [Frames]) h
  | reeferReportDequeue =>
    simp only [exec] at h
    exact event_frames (l := [.windows, .intake, .cranes, .grid, .reefer]) (fun u => by split <;> simp [Frames]) h
  | heartbeatExpiry i => simp only [exec] at h; exact event_frames (l := [.cranes]) (fun u => by simp [Frames]) h
  | slotExpiry i => simp only [exec] at h; exact event_frames (l := [.cranes]) (fun u => by split <;> simp [Frames]) h
  | agingVisit | clearGridVisit => simp only [exec] at h; exact event_frames (l := [.cranes, .grid]) (fun u => by split <;> simp [Frames]) h
  | sweepVisit => simp only [exec] at h; exact event_frames (l := [.reefer]) (fun u => by split <;> simp [Frames]) h
  | noticePost => simp only [exec] at h; exact event_frames (l := []) (fun u => by split <;> simp [Frames]) h
  | refreshVisit => simp only [exec] at h; exact event_frames (l := [.mirror]) (fun u => by split <;> simp [Frames]) h
  | longOperationEnd => simp only [exec] at h; exact event_frames (l := [.grid, .mirror, .cmd]) (fun u => by simp [Frames]) h
  | busyRefusal | unknownCommand | offerJudgement => simp only [exec] at h; exact event_frames (l := [.cmd]) (fun u => by simp [Frames]) h
  | defineWindow => simp only [exec] at h; exact command_frames (l := [.windows, .intake, .cranes, .mirror]) (fun u => by simp [Frames]) h
  | deleteWindow => simp only [exec] at h; exact command_frames (l := [.windows, .intake, .cranes]) (fun u => by simp [Frames]) h
  | lockWindow | unlockWindow => simp only [exec] at h; exact command_frames (l := [.windows]) (fun u => by simp [Frames]) h
  | attachCrane | detachCrane | setCraneParameters | holdCrane | releaseCrane =>
    simp only [exec] at h
    exact command_frames (l := [.cranes]) (fun u => by simp [Frames]) h
  | setCell | clearCell => simp only [exec] at h; exact command_frames (l := [.cranes, .grid]) (fun u => by simp [Frames]) h
  | setCoverageParameters | clearGrid => simp only [exec] at h; exact command_frames (l := [.grid]) (fun u => by simp [Frames]) h
  | setCriteria | enrolReefer | removeReefer | setEnrolmentMode =>
    simp only [exec] at h
    exact command_frames (l := [.reefer]) (fun u => by simp [Frames]) h
  | refreshMirror => simp only [exec] at h; exact command_frames (l := [.mirror]) (fun u => by simp [Frames]) h
  | setTimeParameters | startTime | stopTime => simp only [exec] at h; exact command_frames (l := [.time]) (fun u => by simp [Frames]) h
  | setNoticeEnables | setIrqEnables | clearFlags | readCounters =>
    simp only [exec] at h
    exact command_frames (l := []) (fun u => by simp [Frames]) h
  | clearCounters => simp only [exec] at h; exact command_frames (l := [.windows, .intake, .grid, .reefer]) (fun u => by simp [Frames]) h
  | restart => exact restart_frames h
  | resetAssertion => exact resetAssertion_frames h

end Sys2Proof.Machine
end

section
/-! SUPPORT. The steps of the block: the queue of commands, the straps, and the state between events (R156, R159; log entries 3 and 27). -/

namespace Sys2Proof.Machine

/-! ## A step, and a property that every command keeps -/

/-- Settles O1: a step is the command at the front of the queue. -/
theorem stepHandlesFrontCommand : Obligations.StepHandlesFrontCommand := by
  refine ⟨fun c rest s h => ?_, fun s h => ?_⟩ <;> simp [step, h]

/-- A property that does not look at the queue of commands and that every command keeps is kept by every step. -/
theorem step_keeps {P : State → Prop} (hqueue : ∀ s rest, P s → P { s with pending := rest })
    (hexec : ∀ c s t, P s → exec c s = .next t → P t) {s t : State} (hs : P s) (h : step s = .next t) : P t := by
  unfold step at h
  split at h
  · exact hexec _ _ _ (hqueue _ _ hs) h
  · injection h with h; subst h; exact hs

/-- What POWER_ON_RESET does to a property that the power-on state has and that each transfer keeps (R173). -/
theorem powerOnReset_induction {P : State → Prop} {b : BitVec 16} {m : BitVec 6} {s t : State} (h0 : P (s.powerOn b m))
    (htake : ∀ u x, P u → P (u.takeTransfer x)) (h : exec (.powerOnReset b m) s = .next t) : P t := by
  simp only [exec, execPowerOnReset] at h
  injection h with h
  rw [← h]
  generalize s.powerOn b m = u at h0
  induction s.port.waiting generalizing u with
  | nil => exact h0
  | cons x l ih => exact ih _ (htake _ _ h0)

/-- Settles O2, by the frames of the commands. -/
theorem queueAndStrapsKept : Obligations.QueueAndStrapsKept := by
  intro c s t h
  by_cases hc : ∀ b m, c ≠ .powerOnReset b m
  · have hf := exec_frames h hc
    exact ⟨hf.pending, fun _ => hf.straps⟩
  · refine ⟨?_, fun h' => absurd h' hc⟩
    push Not at hc
    obtain ⟨b, m, rfl⟩ := hc
    exact powerOnReset_induction (P := fun u => u.pending = s.pending) rfl (fun u x hu => by simpa using hu) h

/-! ## The interrupt line and the scratch between events (R156, log entry 27) -/

/-- The end of an event settles the state. -/
theorem State.finish_settled {v : State} (h : v.inReset = false) : Settled v.finish := by
  simp [Settled, h, NoticeUnit.irqCondition]

theorem event_settled {k : Work} {s t : State} {enabled : Bool} {f : State → State} (hf : ∀ u, (f u).inReset = u.inReset)
    (hs : Settled s) (h : event k s enabled f = .next t) : Settled t := by
  obtain rfl | ⟨hr, -, -, rfl⟩ := event_cases h
  · exact hs
  · exact State.finish_settled ((hf _).trans hr)

theorem command_settled {k : Command} {s t : State} {f : State → State × ResultCode} (hf : ∀ u, (f u).1.inReset = u.inReset)
    (hs : Settled s) (h : command k s f = .next t) : Settled t :=
  event_settled (fun u => by simpa [State.carryOut] using hf u.take) hs h

theorem quietEvent_settled {s t : State} {enabled : Bool} {f : State → State}
    (hf : (f s).inReset = s.inReset ∧ (f s).notice = s.notice ∧ (f s).scratch = s.scratch) (hs : Settled s)
    (h : quietEvent s enabled f = .next t) : Settled t := by
  obtain rfl | ⟨-, -, rfl⟩ := quietEvent_cases h
  · exact hs
  · obtain ⟨hr, hn, hsc⟩ := hf
    simpa [Settled, hr, hn, hsc] using hs

theorem takeTransfer_settled {s : State} (hr : s.inReset = false) (x : Transfer) : Settled (s.takeTransfer x) := by
  unfold State.takeTransfer
  cases x <;> exact State.finish_settled (by simpa using hr)

theorem present_settled {x : Transfer} {s t : State} (hs : Settled s) (h : present x s = .next t) : Settled t := by
  obtain rfl | ⟨-, -, rfl⟩ | ⟨-, hr, rfl⟩ := present_cases h
  · exact hs
  · simpa [Settled] using hs
  · exact takeTransfer_settled hr x

/-- The records in hand at a RESTART keep a property that the handling of each, as an event, keeps (log entry 33). -/
theorem handleInHand_keeps {P : State → Prop} {s : State} {h : InHand} (hs : P s)
    (hmeasure : ∀ u l a, P u → P ((u.beginEvent .measureJob).measureRecord l a).finish)
    (hreefer : ∀ u l a, P u → P ((u.beginEvent .reeferJob).reeferRecord l a).finish)
    (htime : ∀ u l a, P u → P ((u.beginEvent .timeJob).timeRecord l a).finish) : P (s.handleInHand h) := by
  have later : ∀ (u : State) (k : Work) (e : Option QueueEntry) (f : State → List Byte → Nat → State), P u →
      (∀ u l a, P u → P (f (u.beginEvent k) l a).finish) → P (u.handleLater k e f) := by
    intro u k e f hu hf
    cases e with
    | none => exact hu
    | some e => exact hf u e.bytes e.arrival hu
  exact later _ _ _ _ (later _ _ _ _ (later _ _ _ _ hs hmeasure) hreefer) htime

/-- Everything a RESTART can do: nothing, or the taking of the command with the records in hand after it. -/
theorem restart_cases {s t : State} (h : execRestart s = .next t) :
    t = s ∨ (s.inReset = false ∧ s.cmd.takes .restart = true ∧ t = (s.restarted s.inHand).handleInHand s.inHand) := by
  unfold execRestart at h
  injection h with h
  split at h
  · next htaken =>
    simp only [State.restartTaken, Bool.and_eq_true, Bool.not_eq_true'] at htaken
    exact .inr ⟨htaken.1.1, htaken.1.2, h.symm⟩
  · exact .inl h.symm

theorem restart_settled {s t : State} (hs : Settled s) (h : execRestart s = .next t) : Settled t := by
  obtain rfl | ⟨hr, -, rfl⟩ := restart_cases h
  · exact hs
  · have finished : ∀ u v : State, u.inReset = false ∧ Settled u → v.inReset = u.inReset → v.finish.inReset = false ∧ Settled v.finish :=
      fun u v hu hv => ⟨hv.trans hu.1, State.finish_settled (hv.trans hu.1)⟩
    have hrestarted : (s.restarted s.inHand).inReset = false ∧ Settled (s.restarted s.inHand) := by
      have hreset : (s.restarted s.inHand).inReset = false := by simpa [State.restarted, State.carryOut] using hr
      refine ⟨hreset, ?_, by simp [State.restarted]⟩
      rw [hreset]
      simp [State.restarted, NoticeUnit.irqCondition]
    exact (handleInHand_keeps (P := fun u => u.inReset = false ∧ Settled u) hrestarted (fun u l a hu => finished u _ hu (by simp))
      (fun u l a hu => finished u _ hu (by simp)) (fun u l a hu => finished u _ hu (by simp))).2

section
variable (s : State) (b : BitVec 16) (m : BitVec 6)

@[simp] theorem State.powerOn_inReset : (s.powerOn b m).inReset = false := rfl
@[simp] theorem State.powerOn_time : (s.powerOn b m).time = .powerOn := rfl
@[simp] theorem State.powerOn_intake : (s.powerOn b m).intake = { uplink := [], reefer := [], measure := [], time := [] } := rfl
@[simp] theorem State.powerOn_arb : (s.powerOn b m).arb = { passing := [], own := [], held := [], letOut := false, inFlight := [] } := rfl
@[simp] theorem State.powerOn_grid : (s.powerOn b m).grid = .powerOn := rfl
@[simp] theorem State.powerOn_reefer : (s.powerOn b m).reefer = .powerOn := rfl
@[simp] theorem State.powerOn_notice : (s.powerOn b m).notice = .powerOn := rfl
@[simp] theorem State.powerOn_cmd : (s.powerOn b m).cmd = .powerOn := rfl
@[simp] theorem State.powerOn_mirror : (s.powerOn b m).mirror = { target := none, position := 0 } := rfl
@[simp] theorem State.powerOn_scratch : (s.powerOn b m).scratch = .idle := rfl
@[simp] theorem State.powerOn_window (i : Fin 32) : (s.powerOn b m).window i = .cleared := replicate_get _ i
@[simp] theorem State.powerOn_crane (i : Fin 16) : (s.powerOn b m).crane i = .cleared := replicate_get _ i
@[simp] theorem State.powerOn_square (q : Fin 512) : (s.powerOn b m).square q = .powerOn := replicate_get _ q
@[simp] theorem State.powerOn_entry (n : Fin 4096) : (s.powerOn b m).entry n = .cleared := replicate_get _ n
@[simp] theorem State.powerOn_criteria (i : Fin 16) : (s.powerOn b m).criteria i = .powerOn := replicate_get _ i

theorem powerOn_settled : Settled (s.powerOn b m) := by
  rw [Settled, State.powerOn_inReset, State.powerOn_notice, State.powerOn_scratch]
  decide

end

theorem powerOnReset_settled {b : BitVec 16} {m : BitVec 6} {s t : State} (h : exec (.powerOnReset b m) s = .next t) : Settled t := by
  have hP : t.inReset = false ∧ Settled t := by
    refine powerOnReset_induction (P := fun u => u.inReset = false ∧ Settled u) ⟨s.powerOn_inReset b m, powerOn_settled s b m⟩ ?_ h
    rintro u x ⟨hr, -⟩
    exact ⟨by simpa using hr, takeTransfer_settled hr x⟩
  exact hP.2

/-- Every command leaves a settled state settled. -/
theorem exec_settled {c : Instr} {s t : State} (hs : Settled s) (h : exec c s = .next t) : Settled t := by
  cases c with
  | powerOnReset b m => exact powerOnReset_settled h
  | readTransfer | writeTransfer | ringBaseWrite | ringLengthWrite | consumerIndexWrite => exact present_settled hs h
  | controlPageWrite m b l =>
    obtain h | rfl := controlPageWrite_cases h
    · exact present_settled hs h
    · exact hs
  | forwardDownstream | ownWriteIssue | heldWriteJoin | ownWriteResponse | slewStep | localTimeAdvance | agingPassStart
  | silenceSweepStart => simp only [exec] at h; exact quietEvent_settled (by simp [State.landed]) hs h
  | readDataReturn | writeResponse => simp only [exec] at h; exact quietEvent_settled (by split <;> simp [State.landed]) hs h
  | holdoverExpiry | heartbeatExpiry | longOperationEnd | busyRefusal | unknownCommand | offerJudgement =>
    simp only [exec] at h
    exact event_settled (fun u => by simp) hs h
  | uplinkRecordDequeue => simp only [exec] at h; exact event_settled (fun u => by split <;> [split; skip] <;> simp) hs h
  | timeRecordDequeue | measurementRecordDequeue | reeferReportDequeue | slotExpiry | agingVisit | clearGridVisit | sweepVisit
  | noticePost | refreshVisit =>
    simp only [exec] at h
    exact event_settled (fun u => by split <;> simp) hs h
  | restart => exact restart_settled hs h
  | resetAssertion =>
    simp only [exec, execResetAssertion] at h
    injection h with h
    subst h
    split <;> simp_all [Settled]
  | _ => simp only [exec] at h; exact command_settled (fun u => by simp) hs h

/-- Settles O3: every event ends with the interrupt line at its condition and the scratch idle, and nothing else moves their terms. -/
theorem settledKept : Obligations.SettledKept := fun _ _ hs h =>
  step_keeps (P := Settled) (fun _ _ h => h) (fun _ _ _ hs h => exec_settled hs h) hs h

end Sys2Proof.Machine
end

section
/-! SUPPORT. What every command but POWER_ON_RESET can do to the Time Base: ranges are kept, and terminal time never decreases (R1, R2, R7,
R12). -/

namespace Sys2Proof.Machine

/-! ## Moves of the Time Base -/

/-- A move of the Time Base that keeps its ranges and, once synchronised, neither lowers terminal time nor makes it UNSET again. -/
def TimeBase.Moves (t u : TimeBase) : Prop :=
  TimeInRange t → TimeInRange u ∧
    (t.sync ≠ .unset → u.sync ≠ .unset ∧ (t.lt : Int) + t.oc ≤ u.lt + u.oc)

theorem TimeBase.Moves.trans {t u v : TimeBase} (h : t.Moves u) (h' : u.Moves v) : t.Moves v := by
  intro ht
  obtain ⟨hu, hsync⟩ := h ht
  obtain ⟨hv, hsync'⟩ := h' hu
  refine ⟨hv, fun hs => ?_⟩
  obtain ⟨hus, hle⟩ := hsync hs
  obtain ⟨hvs, hle'⟩ := hsync' hus
  exact ⟨hvs, hle.trans hle'⟩

/-- A move that leaves local time, OC and S alone. -/
theorem TimeBase.Moves.of_kept {t u : TimeBase} (hlt : u.lt = t.lt) (hoc : u.oc = t.oc) (hslew : u.slew = t.slew)
    (hsync : t.sync ≠ .unset → u.sync ≠ .unset) : t.Moves u := by
  intro ht
  rw [TimeInRange, hlt, hoc, hslew]
  exact ⟨ht, fun h => ⟨hsync h, le_refl _⟩⟩

theorem TimeBase.Moves.refl (t : TimeBase) : t.Moves t := .of_kept rfl rfl rfl id

theorem clamp64_range (x : Int) : -(2 ^ 63) ≤ clamp64 x ∧ clamp64 x ≤ 2 ^ 63 - 1 := by
  unfold clamp64 clamp; omega

/-- One microsecond: a backward slew step takes back no more than the microsecond gives (R12). -/
theorem TimeBase.tick_moves (t : TimeBase) : t.Moves t.tick := by
  rintro ⟨hlt, hoc, hoc', hslew, hslew'⟩
  have hltMax : ltMax = 281474976710655 := rfl
  have hsign : t.slew.sign = 1 ∧ 0 < t.slew ∨ t.slew.sign = 0 ∧ t.slew = 0 ∨ t.slew.sign = -1 ∧ t.slew < 0 := by
    obtain h | h | h := lt_trichotomy t.slew 0
    · exact .inr (.inr ⟨Int.sign_eq_neg_one_of_neg h, h⟩)
    · exact .inr (.inl ⟨by simp [h], h⟩)
    · exact .inl ⟨Int.sign_eq_one_of_pos h, h⟩
  obtain ⟨-, h⟩ | ⟨hboundary, h⟩ := t.tick_cases
  · rw [h]
    refine ⟨⟨?_, hoc, hoc', hslew, hslew'⟩, fun hs => ⟨hs, ?_⟩⟩ <;> simp only <;> omega
  · rw [h]
    simp only [TimeInRange, clamp64, clamp]
    refine ⟨⟨?_, ?_, ?_, ?_, ?_⟩, fun hs => ⟨hs, ?_⟩⟩ <;> omega

/-- An accepted VALUE: OC is stepped forward only, for a correction above the threshold (R8). -/
theorem TimeBase.accepted_moves (t : TimeBase) (m : TimeMessage) (ltm arrival : Nat) : t.Moves (t.accepted m ltm arrival) := by
  rintro ⟨hlt, hoc, hoc', -, -⟩
  have htarget := clamp64_range ((m.masterTime : Int) + m.sendDelay + t.linkDelay - ltm)
  have hcorrection := clamp64_range (t.targetOffset m ltm - t.oc)
  have hforward : (t.threshold : Int) < t.correction m ltm → t.oc ≤ t.targetOffset m ltm := by
    unfold TimeBase.correction clamp64 clamp
    omega
  rw [t.accepted_eq]
  by_cases hstep : t.sync = .unset ∨ (t.threshold : Int) < t.correction m ltm
  · simp only [TimeInRange, if_pos hstep]
    exact ⟨⟨hlt, htarget.1, htarget.2, by omega, by omega⟩, fun hs => ⟨by simp, by have := hforward (hstep.resolve_left hs); omega⟩⟩
  · simp only [TimeInRange, if_neg hstep]
    exact ⟨⟨hlt, hoc, hoc', hcorrection.1, hcorrection.2⟩, fun _ => ⟨by simp, le_refl _⟩⟩

theorem TimeBase.unpaired_moves (t : TimeBase) : t.Moves t.unpaired :=
  .of_kept rfl rfl rfl fun h => by unfold TimeBase.unpaired; simp only; split <;> simp_all

theorem TimeBase.afterViolation_moves (t : TimeBase) (v : Violation) : t.Moves (t.afterViolation v) := by
  cases v <;> exact .of_kept rfl rfl rfl id

/-- A time record moves the Time Base by its capture, by a violation or by an accepted VALUE (R4 to R9). -/
theorem State.timeRecord_moves (s : State) (bytes : List Byte) (arrival : Nat) : s.time.Moves (s.timeRecord bytes arrival).time := by
  unfold State.timeRecord
  simp only
  split
  · exact .refl _
  split
  · rw [State.markMessage_time]
    exact .of_kept rfl rfl rfl id
  split
  · unfold State.valueMessage
    split
    · rw [State.violation_time]
      exact s.time.afterViolation_moves _
    · rw [State.acceptValue_time]
      exact s.time.accepted_moves _ _ _
  · exact .refl _

section
variable (s : State)

/-! The three time commands (R14 to R16). -/

theorem State.doSetTimeParameters_moves : s.time.Moves s.doSetTimeParameters.1.time := by
  unfold State.doSetTimeParameters
  repeat' split
  · exact .refl _
  · exact .of_kept rfl rfl rfl id
  · exact .refl _

theorem State.doStartTime_moves : s.time.Moves s.doStartTime.1.time := by
  unfold State.doStartTime
  split
  · exact .refl _
  · exact .of_kept rfl rfl rfl id

theorem State.doStopTime_moves : s.time.Moves s.doStopTime.1.time := by
  unfold State.doStopTime
  split
  · exact .refl _
  · exact s.time.unpaired_moves.trans (.of_kept rfl rfl rfl id)

end

theorem command_time_moves {k : Command} {s t : State} {f : State → State × ResultCode} (hf : ∀ u : State, u.time.Moves (f u).1.time)
    (h : command k s f = .next t) : s.time.Moves t.time := by
  obtain rfl | ⟨-, -, -, rfl⟩ := event_cases h
  · exact .refl _
  · rw [State.finish_time, State.carryOut, State.complete_time]
    exact hf (s.beginEvent .command).take

/-! ## Every command -/

/-- The blocks of RESTART take the capture and TL away and leave the rest of the Time Base (R19). -/
theorem State.restarted_moves (s : State) (h : InHand) : s.time.Moves (s.restarted h).time := by
  have : (s.restarted h).time = s.time.unpaired := by
    simp [State.restarted, State.carryOut, State.doRestart, State.restartBlocks]
  rw [this]
  exact s.time.unpaired_moves

/-- Every command but POWER_ON_RESET moves the Time Base so. -/
theorem exec_time_moves {c : Instr} {s t : State} (h : exec c s = .next t) (hc : ∀ b m, c ≠ .powerOnReset b m) :
    s.time.Moves t.time := by
  by_cases htime : .time ∈ touchedBy c
  case neg => rw [(exec_frames h hc).time htime]; exact .refl _
  case pos =>
  cases c <;> simp only [touchedBy, writeBlocks, List.mem_cons, List.not_mem_nil, reduceCtorEq, or_false, or_self] at htime <;>
    simp only [exec] at h
  case powerOnReset b m => exact absurd rfl (hc b m)
  case slewStep | localTimeAdvance =>
    obtain rfl | ⟨-, -, rfl⟩ := quietEvent_cases h
    · exact .refl _
    · exact s.time.tick_moves
  case timeRecordDequeue =>
    obtain rfl | ⟨-, -, -, rfl⟩ := event_cases h
    · exact .refl _
    · rw [State.finish_time]
      split
      · next e rest _ =>
        have := State.timeRecord_moves ((((s.beginEvent .timeJob).setIntake { (s.beginEvent .timeJob).intake with time := rest })).countTaken e)
          e.bytes e.arrival
        rwa [State.countTaken_time] at this
      · exact .refl _
  case holdoverExpiry =>
    obtain rfl | ⟨-, -, -, rfl⟩ := event_cases h
    · exact .refl _
    · exact .of_kept rfl rfl rfl (by simp)
  case setTimeParameters => exact command_time_moves State.doSetTimeParameters_moves h
  case startTime => exact command_time_moves State.doStartTime_moves h
  case stopTime => exact command_time_moves State.doStopTime_moves h
  case restart =>
    obtain rfl | ⟨-, -, rfl⟩ := restart_cases h
    · exact .refl _
    · refine handleInHand_keeps (P := fun u => s.time.Moves u.time) (s.restarted_moves _) ?_ ?_ ?_
      · intro u l a hu; simpa using hu
      · intro u l a hu; simpa using hu
      · exact fun u l a hu => hu.trans ((u.beginEvent .timeJob).timeRecord_moves l a)

/-- Settles O9. -/
theorem terminalTimeNeverDecreases : Obligations.TerminalTimeNeverDecreases := fun _ _ _ h hc hsync hrange =>
  (exec_time_moves h hc hrange).2 hsync

/-- Local time stays a 48-bit count, and OC and S signed 64-bit values (R1, R7). -/
theorem timeInRange_kept {s t : State} (hs : TimeInRange s.time) (h : step s = .next t) : TimeInRange t.time := by
  refine step_keeps (P := fun u => TimeInRange u.time) (fun _ _ h => h) (fun c u v hu h => ?_) hs h
  by_cases hc : ∀ b m, c ≠ .powerOnReset b m
  · exact (exec_time_moves h hc hu).1
  · push Not at hc
    obtain ⟨b, m, rfl⟩ := hc
    refine powerOnReset_induction (P := fun u => TimeInRange u.time) ?_ (fun u x hu => by simpa using hu) h
    rw [State.powerOn_time]
    simp [TimeInRange, TimeBase.powerOn]

end Sys2Proof.Machine
end

section
/-! SUPPORT. What every command but POWER_ON_RESET can do to the window table (R27 to R32): counters, a lock level, a removed window or a
defined one. -/

namespace Sys2Proof.Machine

/-! ## DEFINE_WINDOW and DELETE_WINDOW by their outcome (R27, R30) -/

/-- Removing a window clears its entry and leaves every other entry alone (R30). -/
theorem State.removeWindow_window (s : State) (i j : Fin 32) :
    (s.removeWindow i).window j = if j = i then .cleared else s.window j := by
  have hcore : ((((s.dropSlotTable (s.window i)).setIntake (s.intake.uncountFrom i))).setWindow i .cleared).window j =
      if j = i then .cleared else s.window j := by
    rw [State.setWindow_window]
    simp [State.window]
  unfold State.removeWindow
  simp only
  split
  · simpa [State.window] using hcore
  · exact hcore

/-- The state in which a DEFINE WINDOW that passes its checks puts the new definition: the old one has been removed (R27, R30). -/
def State.vacated (s : State) (i : Fin 32) : State := if (s.window i).inUse then s.removeWindow i else s

theorem State.vacated_window (s : State) (i j : Fin 32) (h : j ≠ i) : (s.vacated i).window j = s.window j := by
  unfold State.vacated
  split
  · rw [s.removeWindow_window, if_neg h]
  · rfl

/-- The table after a definition (R29). -/
theorem State.defined_window (s : State) (i : Fin 32) (w : Window) (j : Fin 32) :
    ((((s.vacated i).setWindow i w).windowEffects w)).window j = if j = i then w else s.window j := by
  have hw : ((((s.vacated i).setWindow i w).windowEffects w)).window j = ((s.vacated i).setWindow i w).window j := by
    simp [State.window]
  rw [hw, State.setWindow_window]
  split
  · rfl
  · next hj => exact s.vacated_window i j hj

/-- A DEFINE WINDOW passes every check of R27, for entry i and kind k. -/
def State.DefinePasses (s : State) (i : Fin 32) (k : WindowKind) : Prop :=
  asIndex 32 (s.arg 1) = some i ∧ WindowKind.ofCode (s.arg 2) = some k ∧ ((s.window i).inUse = true → (s.window i).lock = .openLevel) ∧
    s.defineArgsBad k = false ∧ s.defineConflict i k = none

/-- Everything DEFINE WINDOW can do: a refusal that changes nothing, or the new definition with its effects (R27 to R29). -/
theorem State.doDefineWindow_cases (s : State) :
    (∃ r, s.doDefineWindow = (s, r) ∧ r ≠ .running ∧ r ≠ .done) ∨
      ∃ i k, s.DefinePasses i k ∧ s.doDefineWindow =
        (((s.vacated i).setWindow i (s.definedWindow k)).windowEffects (s.definedWindow k),
          if k.mirror.isSome then .running else .done) := by
  unfold State.doDefineWindow
  split
  · next i k hi hk =>
    unfold State.defineWindowAt
    split
    · exact .inl ⟨_, rfl, by simp, by simp⟩
    · next hlock =>
      split
      · exact .inl ⟨_, rfl, by simp, by simp⟩
      · next hargs =>
        split
        · next r hr =>
          refine .inl ⟨r, rfl, ?_, ?_⟩ <;> rintro rfl <;> revert hr <;> unfold State.defineConflict <;>
            (repeat' split) <;> simp
        · next hc =>
          refine .inr ⟨i, k, ⟨hi, hk, fun hu => ?_, by simpa using hargs, hc⟩, rfl⟩
          by_contra hl
          exact hlock ⟨hu, hl⟩
  · exact .inl ⟨_, rfl, by simp, by simp⟩

/-- Everything DELETE WINDOW can do: a refusal that changes nothing, or the removal of an OPEN window (R30). -/
theorem State.doDeleteWindow_cases (s : State) :
    (∃ r, s.doDeleteWindow = (s, r) ∧ r ≠ .running ∧ r ≠ .done) ∨
      ∃ i, asIndex 32 (s.arg 1) = some i ∧ (s.window i).inUse = true ∧ (s.window i).lock = .openLevel ∧
        s.doDeleteWindow = (s.removeWindow i, .done) := by
  unfold State.doDeleteWindow
  split
  · exact .inl ⟨_, rfl, by simp, by simp⟩
  · next i hi =>
    split
    · exact .inl ⟨_, rfl, by simp, by simp⟩
    · next hu =>
      split
      · exact .inl ⟨_, rfl, by simp, by simp⟩
      · next hl => exact .inr ⟨i, hi, by simpa using hu, by simpa using hl, rfl⟩

/-- Everything LOCK WINDOW can do to the table: nothing, or a new level of an in-use window that is not TIGHT (R31). -/
theorem State.doLockWindow_cases (s : State) : s.doLockWindow.1 = s ∨
    ∃ i level, (s.window i).inUse = true ∧ (s.window i).lock ≠ .tight ∧
      s.doLockWindow.1 = s.setWindow i { s.window i with lock := level } := by
  have lockAt : ∀ i level, (s.lockAt i level).1 = s ∨ ((s.window i).inUse = true ∧ (s.window i).lock ≠ .tight ∧
      (s.lockAt i level).1 = s.setWindow i { s.window i with lock := level }) := by
    intro i level
    unfold State.lockAt
    simp only
    split
    · exact .inl rfl
    · next hu =>
      have hu : (s.window i).inUse = true := by simpa using hu
      split <;> simp_all
  unfold State.doLockWindow
  split
  · exact .inl rfl
  · next i _ =>
    split
    · exact (lockAt i .locked).imp_right fun h => ⟨i, _, h⟩
    split
    · exact (lockAt i .tight).imp_right fun h => ⟨i, _, h⟩
    · exact .inl rfl

/-- Everything UNLOCK WINDOW can do to the table: nothing, or OPEN for a LOCKED window (R32). -/
theorem State.doUnlockWindow_cases (s : State) : s.doUnlockWindow.1 = s ∨
    ∃ i level, (s.window i).inUse = true ∧ (s.window i).lock ≠ .tight ∧
      s.doUnlockWindow.1 = s.setWindow i { s.window i with lock := level } := by
  unfold State.doUnlockWindow
  split
  · exact .inl rfl
  · next i _ =>
    simp only
    split
    · exact .inl rfl
    · next hu =>
      have hu : (s.window i).inUse = true := by simpa using hu
      split
      · exact .inl rfl
      · exact .inl rfl
      · next hl => exact .inr ⟨i, _, hu, by simp [hl], rfl⟩

/-! ## Counters -/

/-- Every window is the same in both tables but for its counters. -/
structure KeepsDefinitions (v w : Vector Window 32) : Prop where
  get : ∀ i, (w.get i).definition = (v.get i).definition

theorem KeepsDefinitions.refl (v : Vector Window 32) : KeepsDefinitions v v := ⟨fun _ => rfl⟩

theorem KeepsDefinitions.trans {u v w : Vector Window 32} (h : KeepsDefinitions u v) (h' : KeepsDefinitions v w) :
    KeepsDefinitions u w :=
  ⟨fun i => (h'.get i).trans (h.get i)⟩

theorem KeepsDefinitions.upd {v : Vector Window 32} {i : Fin 32} {x : Window} (h : x.definition = (v.get i).definition) :
    KeepsDefinitions v (upd v i x) := by
  refine ⟨fun j => ?_⟩
  rw [upd_get]
  split
  · next hj => rw [h, hj]
  · rfl

theorem KeepsDefinitions.window {s t : State} (h : KeepsDefinitions s.windows t.windows) (i : Fin 32) :
    (t.window i).definition = (s.window i).definition := h.get i

theorem Window.inUse_congr {w v : Window} (h : w.definition = v.definition) : w.inUse = v.inUse := congrArg (·.inUse) h
theorem Window.kind_congr {w v : Window} (h : w.definition = v.definition) : w.kind = v.kind := congrArg (·.kind) h
theorem Window.base_congr {w v : Window} (h : w.definition = v.definition) : w.base = v.base := congrArg (·.base) h
theorem Window.size_congr {w v : Window} (h : w.definition = v.definition) : w.size = v.size := congrArg (·.size) h
theorem Window.slotSize_congr {w v : Window} (h : w.definition = v.definition) : w.slotSize = v.slotSize :=
  congrArg (·.slotSize) h
theorem Window.crane_congr {w v : Window} (h : w.definition = v.definition) : w.crane = v.crane := congrArg (·.crane) h
theorem Window.lock_congr {w v : Window} (h : w.definition = v.definition) : w.lock = v.lock := congrArg (·.lock) h

theorem Window.contains_congr {w v : Window} (h : w.definition = v.definition) (a : Nat) : w.contains a = v.contains a := by
  rw [Window.contains, Window.contains, Window.inUse_congr h, Window.base_congr h, Window.size_congr h]

section
variable (s : State)

theorem State.countTaken_definitions (e : QueueEntry) : KeepsDefinitions s.windows (s.countTaken e).windows := by
  unfold State.countTaken
  simp only
  split
  · exact .upd rfl
  · exact .refl _

theorem State.dequeue_definitions (q : Intake) (e : QueueEntry) :
    KeepsDefinitions s.windows ((s.setIntake q).countTaken e).windows :=
  (s.setIntake q).countTaken_definitions e

theorem State.discardEntry_definitions (e : QueueEntry) : KeepsDefinitions s.windows (s.discardEntry e).windows := by
  unfold State.discardEntry
  simp only
  split
  · exact .upd rfl
  · exact .refl _

theorem State.foldl_definitions {α : Type} {f : State → α → State} (hf : ∀ u x, KeepsDefinitions u.windows (f u x).windows)
    (l : List α) : KeepsDefinitions s.windows (l.foldl f s).windows := by
  induction l generalizing s with
  | nil => exact .refl _
  | cons x l ih => exact (hf s x).trans (ih _)

theorem State.discardIntake_definitions : KeepsDefinitions s.windows s.discardIntake.windows := by
  unfold State.discardIntake
  exact s.foldl_definitions State.discardEntry_definitions _

theorem State.pickUp_definitions (h : InHand) : KeepsDefinitions s.windows (s.pickUp h).windows := by
  unfold State.pickUp
  rw [← State.setIntake_windows (s := s)]
  exact State.foldl_definitions _ State.countTaken_definitions _

theorem State.intakeWrite_definitions (i : Fin 32) (k : WindowKind) (m : MasterId) (a : Nat) (l : List Lane) :
    KeepsDefinitions s.windows (s.intakeWrite i k m a l).windows := by
  unfold State.intakeWrite
  split
  · exact .refl _
  · simp only [State.reportPositions_windows, State.setWindow_windows, State.setIntake_windows]
    exact .upd rfl

theorem State.headerWrite_definitions (w : Fin 32) (i : Fin 16) (size n : Nat) (m : MasterId) (beat : List Lane) :
    KeepsDefinitions s.windows (s.headerWrite w i size n m beat).1.windows := by
  unfold State.headerWrite
  split
  · exact .refl _
  split
  · exact .upd rfl
  · exact .upd rfl

theorem State.writeBeats_cons (w : Fin 32) (i : Fin 16) (size : Nat) (m : MasterId) (off : Nat) (beat : List Lane)
    (rest : List (List Lane)) : s.writeBeats w i size m off (beat :: rest) =
      let x := if off % size = 0 then s.headerWrite w i size (off / size) m beat else (s, beat)
      let y := x.1.writeBeats w i size m (off + 16) rest
      (y.1, x.2 ++ y.2) := rfl

theorem State.writeBeats_definitions (w : Fin 32) (i : Fin 16) (size : Nat) (m : MasterId) (off : Nat) (beats : List (List Lane)) :
    KeepsDefinitions s.windows (s.writeBeats w i size m off beats).1.windows := by
  induction beats generalizing s off with
  | nil => exact .refl _
  | cons beat rest ih =>
    rw [State.writeBeats_cons]
    simp only
    split
    · exact (s.headerWrite_definitions w i size (off / size) m beat).trans (ih _ _)
    · exact ih _ _

theorem State.windowWrite_definitions (i : Fin 32) (m : MasterId) (a : Address) (l : List Lane) :
    KeepsDefinitions s.windows (s.windowWrite i m a l).windows := by
  unfold State.windowWrite
  simp only
  split
  · rw [State.blockWrite_windows]
    exact .upd rfl
  split
  · rw [State.forward_windows]
    exact State.writeBeats_definitions ..
  · rw [State.forward_windows]
    split
    · exact State.intakeWrite_definitions ..
    · exact .refl _

theorem State.takeTransfer_definitions (x : Transfer) : KeepsDefinitions s.windows (s.takeTransfer x).windows := by
  unfold State.takeTransfer
  rw [State.finish_windows]
  cases x with
  | read m a n => simp only [State.passRead_windows]; exact .refl _
  | write m a l =>
    simp only
    unfold State.passWrite
    split
    · rw [State.pageWrite_windows]; exact .refl _
    split
    · exact State.windowWrite_definitions (s.setScratch .idle) _ _ _ _
    · exact .refl _

theorem State.restarted_definitions (h : InHand) : KeepsDefinitions s.windows (s.restarted h).windows := by
  have heq : (s.restarted h).windows = (((s.pickUp h).beginEvent .command).take.abortLong.setTime
      ((s.pickUp h).beginEvent .command).take.abortLong.time.unpaired).callStatus.discardIntake.windows := by
    simp [State.restarted, State.carryOut, State.doRestart, State.restartBlocks]
  rw [heq]
  refine (s.pickUp_definitions h).trans ?_
  have hd := State.discardIntake_definitions (((s.pickUp h).beginEvent .command).take.abortLong.setTime
      ((s.pickUp h).beginEvent .command).take.abortLong.time.unpaired).callStatus
  simpa using hd

end

/-! ## Every command -/

/-- Everything a command but POWER_ON_RESET can do to the window table. -/
inductive TableMove (s t : State) : Prop
  | counts (h : KeepsDefinitions s.windows t.windows)
  | locks (i : Fin 32) (level : LockLevel) (hu : (s.window i).inUse = true) (hl : (s.window i).lock ≠ .tight)
      (h : ∀ j, t.window j = if j = i then { s.window i with lock := level } else s.window j)
  | removes (i : Fin 32) (hu : (s.window i).inUse = true) (hl : (s.window i).lock = .openLevel)
      (h : ∀ j, t.window j = if j = i then .cleared else s.window j)
  | defines (i : Fin 32) (k : WindowKind) (hp : s.DefinePasses i k)
      (h : ∀ j, t.window j = if j = i then s.definedWindow k else s.window j)

/-- A window command moves the table as its effect does. -/
theorem command_tableMove {k : Command} {s t : State} {f : State → State × ResultCode}
    (hf : TableMove s.taking (f s.taking).1) (h : command k s f = .next t) : TableMove s t := by
  obtain rfl | ⟨-, -, -, rfl⟩ := event_cases h
  · exact .counts (.refl _)
  · have hw : ((s.beginEvent .command).carryOut f).finish.windows = (f s.taking).1.windows := by
      rw [State.finish_windows, State.carryOut, State.complete_windows]; rfl
    have hw' : ∀ j, ((s.beginEvent .command).carryOut f).finish.window j = (f s.taking).1.window j := fun j => by
      rw [State.window, State.window, hw]
    cases hf with
    | counts h => exact .counts (hw ▸ h)
    | locks i level hu hl h => exact .locks i level hu hl fun j => (hw' j).trans (h j)
    | removes i hu hl h => exact .removes i hu hl fun j => (hw' j).trans (h j)
    | defines i k hp h => exact .defines i k hp fun j => (hw' j).trans (h j)

theorem lockEffect_tableMove {s u : State} (h : u = s ∨ ∃ i level, (s.window i).inUse = true ∧ (s.window i).lock ≠ .tight ∧
    u = s.setWindow i { s.window i with lock := level }) : TableMove s u := by
  obtain rfl | ⟨i, level, hu, hl, rfl⟩ := h
  · exact .counts (.refl _)
  · exact .locks i level hu hl fun j => s.setWindow_window i j _

theorem State.doDeleteWindow_tableMove (s : State) : TableMove s s.doDeleteWindow.1 := by
  obtain ⟨r, h, -⟩ | ⟨i, -, hu, hl, h⟩ := s.doDeleteWindow_cases <;> rw [h]
  · exact .counts (.refl _)
  · exact .removes i hu hl fun j => s.removeWindow_window i j

theorem State.doDefineWindow_tableMove (s : State) : TableMove s s.doDefineWindow.1 := by
  obtain ⟨r, h, -⟩ | ⟨i, k, hp, h⟩ := s.doDefineWindow_cases <;> rw [h]
  · exact .counts (.refl _)
  · exact .defines i k hp fun j => s.defined_window i _ j

theorem present_definitions {x : Transfer} {s t : State} (h : present x s = .next t) : KeepsDefinitions s.windows t.windows := by
  obtain rfl | ⟨-, -, rfl⟩ | ⟨-, -, rfl⟩ := present_cases h
  · exact .refl _
  · exact .refl _
  · exact s.takeTransfer_definitions x

theorem event_definitions {k : Work} {s t : State} {enabled : Bool} {f : State → State}
    (hf : ∀ u, KeepsDefinitions u.windows (f u).windows) (h : event k s enabled f = .next t) : KeepsDefinitions s.windows t.windows := by
  obtain rfl | ⟨-, -, -, rfl⟩ := event_cases h
  · exact .refl _
  · exact hf (s.beginEvent k)

theorem command_definitions {k : Command} {s t : State} {f : State → State × ResultCode}
    (hf : ∀ u, KeepsDefinitions u.windows (f u).1.windows) (h : command k s f = .next t) : KeepsDefinitions s.windows t.windows :=
  event_definitions (fun u => by rw [State.carryOut, State.complete_windows]; exact hf u.take) h

theorem State.doClearCounters_definitions (s : State) : KeepsDefinitions s.windows s.doClearCounters.1.windows := by
  refine ⟨fun i => ?_⟩
  have := s.doClearCounters_window i
  rw [State.window] at this
  rw [this]
  rfl

/-- The commands that can do more to the window table than count. -/
def movesTable : Instr → Bool
  | .powerOnReset _ _ | .defineWindow | .deleteWindow | .lockWindow | .unlockWindow => true
  | _ => false

/-- Every other command counts at most. -/
theorem exec_definitions {c : Instr} {s t : State} (h : exec c s = .next t) (hc : movesTable c = false) :
    KeepsDefinitions s.windows t.windows := by
  by_cases hw : .windows ∈ touchedBy c
  case neg =>
    have hpower : ∀ b m, c ≠ .powerOnReset b m := by rintro b m rfl; cases hc
    exact (exec_frames h hpower).windows hw ▸ .refl _
  case pos =>
  cases c <;> simp only [touchedBy, writeBlocks, List.mem_cons, List.not_mem_nil, reduceCtorEq, or_false, or_self] at hw <;>
    simp only [exec] at h
  case powerOnReset | defineWindow | deleteWindow | lockWindow | unlockWindow => cases hc
  case writeTransfer | ringBaseWrite | ringLengthWrite | consumerIndexWrite => exact present_definitions h
  case controlPageWrite =>
    obtain h | rfl := controlPageWrite_cases h
    · exact present_definitions h
    · exact .refl _
  case timeRecordDequeue | measurementRecordDequeue | reeferReportDequeue =>
    refine event_definitions (fun u => ?_) h
    split
    · simp only [State.timeRecord_windows, State.measureRecord_windows, State.reeferRecord_windows]
      exact u.dequeue_definitions _ _
    · exact .refl _
  case uplinkRecordDequeue =>
    refine event_definitions (fun u => ?_) h
    split
    · simp only
      split
      · rw [State.uplinkRecord_windows]
        exact u.dequeue_definitions _ _
      · exact u.dequeue_definitions _ _
    · exact .refl _
  case clearCounters => exact command_definitions State.doClearCounters_definitions h
  case restart =>
    obtain rfl | ⟨-, -, rfl⟩ := restart_cases h
    · exact .refl _
    · rw [State.handleInHand_windows]
      exact s.restarted_definitions _

/-- What a command but POWER_ON_RESET does to the window table is one of the moves. -/
theorem exec_tableMove {c : Instr} {s t : State} (h : exec c s = .next t) (hc : ∀ b m, c ≠ .powerOnReset b m) : TableMove s t := by
  by_cases hm : movesTable c = false
  · exact .counts (exec_definitions h hm)
  cases c
  case powerOnReset b m => exact absurd rfl (hc b m)
  case defineWindow => simp only [exec] at h; exact command_tableMove (State.doDefineWindow_tableMove _) h
  case deleteWindow => simp only [exec] at h; exact command_tableMove (State.doDeleteWindow_tableMove _) h
  case lockWindow => simp only [exec] at h; exact command_tableMove (lockEffect_tableMove (State.doLockWindow_cases _)) h
  case unlockWindow => simp only [exec] at h; exact command_tableMove (lockEffect_tableMove (State.doUnlockWindow_cases _)) h
  all_goals exact absurd rfl hm

/-! ## TIGHT windows (R31) -/

/-- Settles O20: no move of the table changes the definition of a TIGHT window. -/
theorem tightWindowUnchanged : Obligations.TightWindowUnchanged := by
  intro c s t i h hc hu htight
  cases exec_tableMove h hc with
  | counts hk => exact hk.window i
  | locks j level _ hl hj =>
    have hne : i ≠ j := by rintro rfl; exact hl htight
    rw [hj, if_neg hne]
  | removes j _ hl hj =>
    have hne : i ≠ j := by rintro rfl; simp [htight] at hl
    rw [hj, if_neg hne]
  | defines j k hp hj =>
    obtain ⟨-, -, hopen, -⟩ := hp
    have hne : i ≠ j := by rintro rfl; simp [htight] at hopen; simp [hu] at hopen
    rw [hj, if_neg hne]

/-! ## Windows apart (R28) -/

theorem rangesMeet_of_shared {b1 n1 b2 n2 a : Nat} (h1 : b1 ≤ a ∧ a < b1 + n1) (h2 : b2 ≤ a ∧ a < b2 + n2) :
    rangesMeet b1 n1 b2 n2 = true := by
  simp only [rangesMeet, Bool.and_eq_true, decide_eq_true_eq]
  omega

theorem Window.contains_iff (w : Window) (a : Nat) : w.contains a = true ↔ w.inUse = true ∧ w.base ≤ a ∧ a < w.base + w.size := by
  simp [Window.contains, and_assoc]

theorem State.otherWindow_iff (s : State) (i : Fin 32) (p : Window → Bool) :
    s.otherWindow i p = true ↔ ∃ j, j ≠ i ∧ (s.window j).inUse = true ∧ p (s.window j) = true := by
  simp [State.otherWindow, and_assoc]

/-- A definition that passes check 4 of R27 shares no address with another window or with the control page. -/
theorem State.DefinePasses.apart {s : State} {i : Fin 32} {k : WindowKind} (h : s.DefinePasses i k) {a : Nat}
    (ha : (s.definedWindow k).contains a = true) :
    (∀ j, j ≠ i → (s.window j).contains a = false) ∧ s.pageOffset a = none := by
  obtain ⟨-, -, -, -, hconflict⟩ := h
  have hmeet : (rangesMeet s.defineBase s.defineSize (s.pageAddr 0) 4096 ||
      s.otherWindow i (fun w => rangesMeet s.defineBase s.defineSize w.base w.size)) = false := by
    by_contra hm
    rw [Bool.not_eq_false] at hm
    rw [State.defineConflict, if_pos hm] at hconflict
    cases hconflict
  obtain ⟨hpage, hother⟩ := by simpa using hmeet
  obtain ⟨-, hlo, hhi⟩ := (Window.contains_iff _ _).1 ha
  refine ⟨fun j hj => ?_, ?_⟩
  · by_contra hc
    obtain ⟨hju, hjlo, hjhi⟩ := (Window.contains_iff _ _).1 (by simpa using hc)
    have : s.otherWindow i (fun w => rangesMeet s.defineBase s.defineSize w.base w.size) = true :=
      (s.otherWindow_iff i _).2 ⟨j, hj, hju, rangesMeet_of_shared ⟨hlo, hhi⟩ ⟨hjlo, hjhi⟩⟩
    rw [hother] at this
    cases this
  · have hout : ¬(s.pageAddr 0 ≤ a ∧ a < s.pageAddr 4096) := fun hin => by
      have hsize : s.pageAddr 4096 = s.pageAddr 0 + 4096 := rfl
      have := rangesMeet_of_shared ⟨hlo, hhi⟩ ⟨hin.1, hsize ▸ hin.2⟩
      simp_all [State.definedWindow]
    rw [State.pageOffset, if_neg hout]

theorem State.pageOffset_congr {s t : State} (h : t.cpb = s.cpb) (a : Nat) : t.pageOffset a = s.pageOffset a := by
  unfold State.pageOffset State.pageAddr
  rw [h]

/-- Windows stay apart where every window that contains an address contained it before or is the one just defined. -/
theorem WindowsApart.of_shrunk {s t : State} (hs : WindowsApart s) (hcpb : t.cpb = s.cpb)
    (h : ∀ i a, (t.window i).contains a = true → (s.window i).contains a = true) : WindowsApart t := by
  obtain ⟨hdisjoint, hpage⟩ := hs
  refine ⟨fun i j a hi hj => hdisjoint i j a (h i a hi) (h j a hj), fun i a hi => ?_⟩
  rw [State.pageOffset_congr hcpb]
  exact hpage i a (h i a hi)

theorem WindowsApart.of_move {s t : State} (hs : WindowsApart s) (hcpb : t.cpb = s.cpb) (h : TableMove s t) : WindowsApart t := by
  cases h with
  | counts hk => exact hs.of_shrunk hcpb fun i a ha => by rwa [Window.contains_congr (hk.window i)] at ha
  | locks i level _ _ hj =>
    refine hs.of_shrunk hcpb fun j a ha => ?_
    rw [hj] at ha
    split at ha
    · next h => subst h; exact ha
    · exact ha
  | removes i _ _ hj =>
    refine hs.of_shrunk hcpb fun j a ha => ?_
    rw [hj] at ha
    split at ha
    · simp [Window.contains, Window.cleared] at ha
    · exact ha
  | defines i k hp hj =>
    obtain ⟨hdisjoint, hpage⟩ := hs
    have hnew : ∀ a, (t.window i).contains a = true → (s.definedWindow k).contains a = true := fun a ha => by
      rwa [hj, if_pos rfl] at ha
    have hold : ∀ j a, j ≠ i → (t.window j).contains a = true → (s.window j).contains a = true := fun j a hne ha => by
      rwa [hj, if_neg hne] at ha
    refine ⟨fun j l a hja hla => ?_, fun j a hja => ?_⟩
    · by_cases hji : j = i <;> by_cases hli : l = i
      · rw [hji, hli]
      · have := (hp.apart (hnew a (hji ▸ hja))).1 l hli
        rw [hold l a hli hla] at this
        cases this
      · have := (hp.apart (hnew a (hli ▸ hla))).1 j hji
        rw [hold j a hji hja] at this
        cases this
      · exact hdisjoint j l a (hold j a hji hja) (hold l a hli hla)
    · rw [State.pageOffset_congr hcpb]
      by_cases hji : j = i
      · exact (hp.apart (hnew a (hji ▸ hja))).2
      · exact hpage j a (hold j a hji hja)

/-- Right after power-on no window is in use, and a transfer brings none into use (R42). -/
theorem powerOnReset_no_window {b : BitVec 16} {m : BitVec 6} {s t : State} (h : exec (.powerOnReset b m) s = .next t) (i : Fin 32) :
    (t.window i).inUse = false := by
  refine powerOnReset_induction (P := fun u => (u.window i).inUse = false) ?_ (fun u x hu => ?_) h
  · rw [State.powerOn_window]; rfl
  · rwa [Window.inUse_congr ((u.takeTransfer_definitions x).window i)]

/-- Settles O19: a definition is checked against the other windows and the page, and nothing else widens a window. -/
theorem windowsStayApart : Obligations.WindowsStayApart := fun _ _ hs h =>
  step_keeps (P := WindowsApart) (fun _ _ h => h) (fun c s t hs h => by
    by_cases hc : ∀ b m, c ≠ .powerOnReset b m
    · exact hs.of_move (exec_frames h hc).straps.1 (exec_tableMove h hc)
    · push Not at hc
      obtain ⟨b, m, rfl⟩ := hc
      have hempty : ∀ i a, (t.window i).contains a = true → False := fun i a ha => by
        rw [Window.contains_iff, powerOnReset_no_window h i] at ha
        cases ha.1
      exact ⟨fun i j a ha _ => (hempty i a ha).elim, fun i a ha => (hempty i a ha).elim⟩) hs h

end Sys2Proof.Machine
end

section
/-! SUPPORT. What the operations of the chapters put out: notices, flags and own writes, with a status block called for exactly where a flag or
the overflow set changes (R39, R146, R149, R154). -/

namespace Sys2Proof.Machine

/-! ## Notices and flags gained -/

/-- The second Notice Unit is the first after some notices handed to it and some flags set, in any order. -/
inductive NoticeUnit.Gains (u : NoticeUnit) : NoticeUnit → Prop
  | refl : u.Gains u
  | take {v : NoticeUnit} (n : Notice) (h : u.Gains v) : u.Gains (v.take n)
  | flag {v : NoticeUnit} (f : Flag) (h : u.Gains v) : u.Gains { v with flags := v.flags ||| f.bit }

theorem NoticeUnit.Gains.trans {u v w : NoticeUnit} (h : u.Gains v) (h' : v.Gains w) : u.Gains w := by
  induction h' with
  | refl => exact h
  | take n _ ih => exact ih.take n
  | flag f _ ih => exact ih.flag f

/-- The sticky flags only gain, and so does the overflow set (R149, R155). -/
theorem NoticeUnit.Gains.grows {u v : NoticeUnit} (h : u.Gains v) :
    (∃ x, v.flags = u.flags ||| x) ∧ ∃ y, v.overflow = u.overflow ||| y := by
  have or_more : ∀ {n : Nat} {a b : BitVec n} (c : BitVec n), (∃ x, b = a ||| x) → ∃ x, b ||| c = a ||| x := by
    rintro n a b c ⟨x, rfl⟩
    exact ⟨x ||| c, BitVec.or_assoc ..⟩
  induction h with
  | refl => exact ⟨⟨0, by simp⟩, 0, by simp⟩
  | @take v n _ ih =>
    obtain ⟨hf, hv⟩ := ih
    obtain h | ⟨h, -⟩ | ⟨last, -, -, -, h⟩ | ⟨h, -⟩ := v.take_cases n <;> rw [h]
    · exact ⟨hf, hv⟩
    · exact ⟨hf, hv⟩
    · exact ⟨or_more _ hf, or_more _ hv⟩
    · exact ⟨or_more _ hf, or_more _ hv⟩
  | flag f _ ih => exact ⟨or_more _ ih.1, ih.2⟩

/-- A flag or the overflow set has changed (R154). -/
def NoticeUnit.Flagged (u v : NoticeUnit) : Prop := ¬(v.flags = u.flags ∧ v.overflow = u.overflow)

/-- What has been gained is not lost again. -/
theorem NoticeUnit.flagged_trans {u v w : NoticeUnit} (h : u.Gains v) (h' : v.Gains w) :
    u.Flagged w ↔ u.Flagged v ∨ v.Flagged w := by
  have between : ∀ {n : Nat} {a b c : BitVec n}, (∃ x, b = a ||| x) → (∃ y, c = b ||| y) → (c = a ↔ b = a ∧ c = b) := by
    rintro n a b c ⟨x, rfl⟩ ⟨y, rfl⟩
    refine ⟨fun hca => ?_, fun ⟨hba, hcb⟩ => hcb.trans hba⟩
    have hba := or_eq_left_of_or_or_eq_left hca
    exact ⟨hba, hca.trans hba.symm⟩
  have hflags := between h.grows.1 h'.grows.1
  have hoverflow := between h.grows.2 h'.grows.2
  unfold NoticeUnit.Flagged
  rw [hflags, hoverflow]
  tauto

/-! ## Own writes gained -/

/-- The second arbiter is the first after some own writes handed to it. -/
inductive Arbiter.Gains (a : Arbiter) : Arbiter → Prop
  | refl : a.Gains a
  | hand {b : Arbiter} (k : Work) (w : OwnWrite) (h : a.Gains b) : a.Gains (b.hand k w)

theorem Arbiter.Gains.trans {a b c : Arbiter} (h : a.Gains b) (h' : b.Gains c) : a.Gains c := by
  induction h' with
  | refl => exact h
  | hand k w _ ih => exact ih.hand k w

/-! ## An operation within an event -/

/-- An operation within an event puts out notices, flags and own writes, and calls for a status block exactly where a flag or the overflow
set changes. -/
structure Emits (s t : State) : Prop where
  notice : s.notice.Gains t.notice
  arb : s.arb.Gains t.arb
  due : t.scratch.statusDue = true ↔ s.scratch.statusDue = true ∨ s.notice.Flagged t.notice
  work : t.scratch.work = s.scratch.work

namespace Emits

theorem trans {s t u : State} (h : Emits s t) (h' : Emits t u) : Emits s u where
  notice := h.notice.trans h'.notice
  arb := h.arb.trans h'.arb
  due := by rw [h'.due, h.due, NoticeUnit.flagged_trans h.notice h'.notice, or_assoc]
  work := h'.work.trans h.work

theorem of_same {s t : State} (hn : t.notice = s.notice) (ha : t.arb = s.arb)
    (hdue : t.scratch.statusDue = s.scratch.statusDue) (hwork : t.scratch.work = s.scratch.work) : Emits s t := by
  refine ⟨?_, ?_, ?_, hwork⟩
  · rw [hn]; exact .refl
  · rw [ha]; exact .refl
  · simp [hdue, hn, NoticeUnit.Flagged]

theorem refl (s : State) : Emits s s := .of_same rfl rfl rfl rfl

theorem foldl {α : Type} {f : State → α → State} (hf : ∀ u x, Emits u (f u x)) (l : List α) (s : State) : Emits s (l.foldl f s) := by
  induction l generalizing s with
  | nil => exact .refl s
  | cons x l ih => exact (hf s x).trans (ih _)

end Emits

section
variable (s : State)

theorem State.raise_emits (k : NoticeKind) (n : Nat) (a b c : Word) : Emits s (s.raise k n a b c) where
  notice := .take _ .refl
  arb := .refl
  due := by
    rw [State.raise_scratch]
    simp only [Bool.or_eq_true, bne_iff_ne, NoticeUnit.Flagged]
    tauto
  work := rfl

theorem State.setFlag_emits (f : Flag) : Emits s (s.setFlag f) where
  notice := .flag f .refl
  arb := .refl
  due := by
    have := or_flagBit_eq_self_iff s.notice.flags f
    rw [State.setFlag_scratch]
    simp [NoticeUnit.Flagged, this]
  work := rfl

theorem State.hand_emits (a : Nat) (d : List Byte) : Emits s (s.hand a d) where
  notice := .refl
  arb := .hand _ _ .refl
  due := by simp [NoticeUnit.Flagged]
  work := rfl

theorem State.setWindow_emits (i : Fin 32) (w : Window) : Emits s (s.setWindow i w) := .of_same rfl rfl rfl rfl

theorem State.setIntake_emits (r : Intake) : Emits s (s.setIntake r) := .of_same rfl rfl rfl rfl

theorem State.setTime_emits (x : TimeBase) : Emits s (s.setTime x) := .of_same rfl rfl rfl rfl

theorem State.setGrid_emits (g : Grid) : Emits s (s.setGrid g) := .of_same rfl rfl rfl rfl

theorem State.setSquare_emits (q : Fin 512) (x : Square) : Emits s (s.setSquare q x) := .of_same rfl rfl rfl rfl

theorem State.setReefer_emits (r : ReeferTable) : Emits s (s.setReefer r) := .of_same rfl rfl rfl rfl

theorem State.setEntry_emits (n : Fin 4096) (e : ReeferEntry) : Emits s (s.setEntry n e) := .of_same rfl rfl rfl rfl

theorem State.setScratch_emits (e : EventScratch) (hdue : e.statusDue = s.scratch.statusDue) (hwork : e.work = s.scratch.work) :
    Emits s (s.setScratch e) := .of_same rfl rfl hdue hwork

theorem State.respond_emits (r : UpResponse) : Emits s (s.respond r) := .of_same rfl rfl rfl rfl

theorem State.handMirror_emits (k : WindowKind) (a : Nat) (d : List Byte) : Emits s (s.handMirror k a d) where
  notice := .refl
  arb := by
    unfold State.handMirror
    rw [State.setArb_arb]
    split
    · exact .hand _ _ .refl
    · exact .refl
  due := by simp [NoticeUnit.Flagged]
  work := rfl

/-! Cranes (chapters 3 and 4). -/

theorem State.setCrane_emits (i : Fin 16) (c : Crane) : Emits s (s.setCrane i c) := .of_same rfl rfl rfl rfl

theorem State.writeCraneMirror_emits (i : Fin 16) : Emits s (s.writeCraneMirror i) := by
  unfold State.writeCraneMirror
  split
  · exact .of_same rfl rfl rfl rfl
  · exact s.handMirror_emits ..

theorem State.expireSlot_emits (i : Fin 16) (n : Nat) : Emits s (s.expireSlot i n) :=
  (s.setCrane_emits i _).trans (State.raise_emits ..)

theorem State.expirePassed_emits (i : Fin 16) (k : Nat) : Emits s (s.expirePassed i k) := by
  induction k generalizing s with
  | zero => exact .refl s
  | succ k ih =>
    unfold State.expirePassed
    split
    · exact (s.expireSlot_emits ..).trans (ih _)
    · exact .refl s

theorem State.enterDegraded_emits (i : Fin 16) : Emits s (s.enterDegraded i) :=
  (((s.setCrane_emits i _).trans (State.raise_emits ..)).trans (State.expirePassed_emits ..)).trans (State.writeCraneMirror_emits ..)

theorem State.enterLinked_emits (i : Fin 16) (k : NoticeKind) : Emits s (s.enterLinked i k) :=
  ((s.setCrane_emits i _).trans (State.raise_emits ..)).trans (State.writeCraneMirror_emits ..)

theorem State.expireHeartbeat_emits (i : Fin 16) : Emits s (s.expireHeartbeat i) := by
  unfold State.expireHeartbeat
  simp only
  split
  · exact ((s.setCrane_emits i _).trans (State.raise_emits ..)).trans (State.writeCraneMirror_emits ..)
  · exact s.setCrane_emits i _

theorem State.judgeOnSquare_emits (i : Fin 16) (before after : SquareState) : Emits s (s.judgeOnSquare i before after) := by
  unfold State.judgeOnSquare
  simp only
  split
  · split
    · exact s.enterDegraded_emits i
    · exact .refl s
  · split
    · exact s.enterLinked_emits i _
    · exact .refl s
  · exact .refl s
  · exact .refl s

theorem State.reportSquare_emits (q : Fin 512) (before after : SquareState) : Emits s (s.reportSquare q before after) :=
  Emits.foldl (fun u i => by
    split
    · exact u.judgeOnSquare_emits i before after
    · exact .refl u) _ s

theorem State.judgeOnRecord_emits (i : Fin 16) (own : UplinkOutcome) : Emits s (s.judgeOnRecord i own) := by
  unfold State.judgeOnRecord
  simp only
  split
  · split
    · split
      · exact s.enterDegraded_emits i
      · exact s.enterLinked_emits i _
    · exact .refl s
  · split
    · exact s.enterDegraded_emits i
    · exact .refl s
  · split
    · exact .refl s
    · exact s.enterLinked_emits i _
  · exact .refl s

theorem State.headerRead_emits (i : Fin 16) (n : Nat) : Emits s (s.headerRead i n).1 := by
  unfold State.headerRead
  simp only
  split
  · exact s.setCrane_emits i _
  · simp only
    split
    · exact (s.setCrane_emits i _).trans (State.raise_emits ..)
    · exact s.setCrane_emits i _

theorem State.readBeats_emits (i : Fin 16) (size off k : Nat) : Emits s (s.readBeats i size off k).1 := by
  induction k generalizing s off with
  | zero => exact .refl s
  | succ k ih =>
    rw [State.readBeats_succ]
    refine Emits.trans ?_ (ih _ _)
    unfold State.readBeat
    split
    · exact s.headerRead_emits ..
    · exact .refl s

theorem State.headerWrite_emits (w : Fin 32) (i : Fin 16) (size n : Nat) (m : MasterId) (beat : List Lane) :
    Emits s (s.headerWrite w i size n m beat).1 := by
  unfold State.headerWrite
  split
  · exact .refl s
  split
  · exact .of_same rfl rfl rfl rfl
  · exact (((s.setCrane_emits i _).trans (State.setWindow_emits ..)).trans (State.setFlag_emits ..)).trans
      (State.raise_emits ..)

theorem State.writeBeats_emits (w : Fin 32) (i : Fin 16) (size : Nat) (m : MasterId) (off : Nat) (beats : List (List Lane)) :
    Emits s (s.writeBeats w i size m off beats).1 := by
  induction beats generalizing s off with
  | nil => exact .refl s
  | cons beat rest ih =>
    rw [State.writeBeats_cons]
    simp only
    split
    · exact (s.headerWrite_emits w i size (off / size) m beat).trans (ih _ _)
    · exact ih _ _

/-! Squares (chapter 5). -/

theorem State.writeGridMirror_emits (q : Fin 512) : Emits s (s.writeGridMirror q) := s.handMirror_emits ..

theorem State.afterRecompute_emits (q : Fin 512) (old : Square) : Emits s (s.afterRecompute q old) := by
  unfold State.afterRecompute
  simp only
  have h1 : Emits s (if (s.square q).state = old.state then s else s.raise .squareState q.val (word old.state.code)
      (word (s.square q).state.code) (wordI ((s.square q).bestEstimate.getD 0))) := by
    split
    · exact .refl s
    · exact s.raise_emits ..
  have h2 : ∀ u : State, Emits u (if (s.square q).state = old.state ∧ (s.square q).best = old.best then u else u.writeGridMirror q) := by
    intro u
    split
    · exact .refl u
    · exact u.writeGridMirror_emits q
  have h3 : ∀ u : State, Emits u (if (s.square q).state = old.state then u else u.reportSquare q old.state (s.square q).state) := by
    intro u
    split
    · exact .refl u
    · exact u.reportSquare_emits ..
  exact (h1.trans (h2 _)).trans (h3 _)

theorem State.changeSquare_emits (q : Fin 512) (entries : Vector CellEntry 24) : Emits s (s.changeSquare q entries) :=
  Emits.trans (s.setSquare_emits q _) (State.afterRecompute_emits ..)

theorem State.unknownSample_emits (q : Fin 512) (identity : Nat) (src : SampleSource) : Emits s (s.unknownSample q identity src) := by
  unfold State.unknownSample
  simp only
  split
  · exact Emits.trans (s.setGrid_emits _) (State.raise_emits ..)
  · exact .of_same rfl rfl rfl rfl

theorem State.sample_emits (segment band identity : Nat) (level : Int) (arrival : Nat) (src : SampleSource) :
    Emits s (s.sample segment band identity level arrival src) := by
  unfold State.sample
  simp only
  split
  · exact s.changeSquare_emits ..
  · exact s.unknownSample_emits ..

theorem State.measureRecord_emits (bytes : List Byte) (arrival : Nat) : Emits s (s.measureRecord bytes arrival) := by
  unfold State.measureRecord
  simp only
  split
  · exact .of_same rfl rfl rfl rfl
  · refine Emits.trans (s.setGrid_emits _) (Emits.foldl (fun u x => ?_) _ _)
    unfold State.measurePair
    split
    · exact .refl u
    · exact u.sample_emits ..

theorem State.ageSquare_emits (q : Fin 512) : Emits s (s.ageSquare q) :=
  Emits.trans (s.setGrid_emits _) (State.changeSquare_emits ..)

theorem State.clearPlace_emits (c : Fin 24) : Emits s (s.clearPlace c) :=
  Emits.trans (s.setGrid_emits _) (Emits.foldl (fun u _ => u.changeSquare_emits _ _) _ _)

theorem State.clearSquare_emits (q : Fin 512) : Emits s (s.clearSquare q) := by
  unfold State.clearSquare
  simp only
  have h : Emits s ((s.setGrid { s.grid with clearPosition := q.val + 1 }).changeSquare q (Vector.replicate 24 .absent)) :=
    Emits.trans (s.setGrid_emits _) (State.changeSquare_emits ..)
  split
  · exact h.trans (State.writeGridMirror_emits ..)
  · exact h

/-! Uplink records (chapter 4). -/

theorem State.giveOutcome_emits (i : Fin 16) (o : UplinkOutcome) : Emits s (s.giveOutcome i o) := by
  unfold State.giveOutcome
  simp only
  split
  · exact (s.setCrane_emits i _).trans (State.setFlag_emits ..)
  · exact s.setCrane_emits i _

theorem State.giveMissing_emits (i : Fin 16) (k : Nat) : Emits s (s.giveMissing i k) := by
  induction k generalizing s with
  | zero => exact .refl s
  | succ k ih => exact (s.giveOutcome_emits i .missing).trans (ih _)

theorem State.steerCheck_emits (i : Fin 16) (arrival : Nat) : Emits s (s.steerCheck i arrival) := by
  unfold State.steerCheck
  simp only
  split
  · split
    · split
      · exact (s.setCrane_emits i _).trans (State.raise_emits ..)
      · exact .refl s
    · exact .refl s
  · exact .refl s

theorem State.useRecord_emits (i : Fin 16) (h : UplinkHeader) (arrival : Nat) (own : UplinkOutcome) :
    Emits s (s.useRecord i h arrival own) := by
  unfold State.useRecord
  simp only
  refine Emits.trans (Emits.trans ?_ (State.judgeOnRecord_emits ..)) (State.steerCheck_emits ..)
  have h1 : Emits s ((s.setCrane i ((s.crane i).used h arrival s.grid.params.segmentCount s.stamp)).setScratch
      { s.scratch with craneDue := s.scratch.craneDue ||
        ((s.crane i).used h arrival s.grid.params.segmentCount s.stamp).square != (s.crane i).square ||
        ((s.crane i).used h arrival s.grid.params.segmentCount s.stamp).serving != (s.crane i).serving }) :=
    (s.setCrane_emits i _).trans (State.setScratch_emits _ _ rfl rfl)
  split
  · exact h1
  · exact h1.trans (State.sample_emits ..)

theorem State.judgeUplink_emits (i : Fin 16) (bytes : List Byte) (arrival : Nat) : Emits s (s.judgeUplink i bytes arrival) := by
  unfold State.judgeUplink
  split
  · exact (s.giveOutcome_emits ..).trans (State.judgeOnRecord_emits ..)
  · exact ((s.giveMissing_emits ..).trans (State.giveOutcome_emits ..)).trans (State.useRecord_emits ..)

theorem State.uplinkRecord_emits (i : Fin 16) (bytes : List Byte) (arrival : Nat) : Emits s (s.uplinkRecord i bytes arrival) := by
  unfold State.uplinkRecord
  split
  · exact .refl s
  · simp only
    have h : Emits s ((s.setScratch { s.scratch with deferred := some i, craneDue := false }).judgeUplink i bytes arrival) :=
      (s.setScratch_emits { s.scratch with deferred := some i, craneDue := false } rfl rfl).trans (State.judgeUplink_emits ..)
    generalize (s.setScratch { s.scratch with deferred := some i, craneDue := false }).judgeUplink i bytes arrival = u at h
    have h2 : Emits s (u.setScratch { u.scratch with deferred := none, craneDue := false }) := h.trans (.of_same rfl rfl rfl rfl)
    split
    · exact h2.trans (State.writeCraneMirror_emits ..)
    · exact h2

/-! Record Intake (chapter 2) and time messages (chapter 1). -/

theorem State.reportPositions_emits (f : Flag) (k : NoticeKind) (i : Fin 32) (m : MasterId) (l : List Nat) :
    Emits s (s.reportPositions f k i m l) := by
  unfold State.reportPositions
  split
  · exact .refl s
  · exact (s.setFlag_emits f).trans (State.raise_emits ..)

theorem State.intakeWrite_emits (i : Fin 32) (k : WindowKind) (m : MasterId) (a : Nat) (l : List Lane) :
    Emits s (s.intakeWrite i k m a l) := by
  unfold State.intakeWrite
  split
  · exact .refl s
  · exact (((s.setIntake_emits _).trans (State.setWindow_emits ..)).trans (State.reportPositions_emits ..)).trans
      (State.reportPositions_emits ..)

theorem State.blockWrite_emits (subject : Nat) (m : MasterId) (a : Address) : Emits s (s.blockWrite subject m a) :=
  ((s.respond_emits _).trans (State.setFlag_emits ..)).trans (State.raise_emits ..)

theorem State.violation_emits (v : Violation) (mark : Nat) (captured : Option Capture) : Emits s (s.violation v mark captured) :=
  (s.setFlag_emits _).trans (State.raise_emits ..)

theorem State.correctionNotice_emits (x : TimeBase) (m : TimeMessage) (ltm : Nat) : Emits s (s.correctionNotice x m ltm) := by
  unfold State.correctionNotice
  simp only
  split
  · exact .refl s
  split
  · exact s.raise_emits ..
  split
  · exact s.raise_emits ..
  · exact .refl s

/-! Reefer reports (chapters 6 and 7). -/

theorem State.writeReeferMirror_emits (n : Fin 4096) : Emits s (s.writeReeferMirror n) := s.handMirror_emits ..

theorem State.enrolAt_emits (n : Fin 4096) (evicted : Bool) (tag : Nat) (c : Fin 16) (q : Option (Fin 512)) (heard : Nat) :
    Emits s (s.enrolAt n evicted tag c q heard) := by
  unfold State.enrolAt
  have h : Emits s (if evicted then s.noticeEviction n tag else s) := by
    split
    · exact s.raise_emits ..
    · exact .refl s
  exact h.trans (State.setEntry_emits ..)

theorem State.dropReport_emits (tag : Nat) : Emits s (s.dropReport tag) := by
  unfold State.dropReport
  simp only
  split
  · exact Emits.trans (s.setReefer_emits _) (State.raise_emits ..)
  · exact .of_same rfl rfl rfl rfl

theorem State.noticeReturn_emits (n : Fin 4096) (x y : ReeferEntry) (a : Nat) : Emits s (s.noticeReturn n x y a) := by
  unfold State.noticeReturn
  split
  · exact s.raise_emits ..
  · exact .refl s

theorem State.noticeAlarms_emits (n : Fin 4096) (x y : ReeferEntry) : Emits s (s.noticeAlarms n x y) := by
  unfold State.noticeAlarms
  split
  · exact .refl s
  · exact s.raise_emits ..

theorem State.noticeSetpoint_emits (n : Fin 4096) (x y : ReeferEntry) : Emits s (s.noticeSetpoint n x y) := by
  unfold State.noticeSetpoint
  split
  · split
    · exact .refl s
    · exact s.raise_emits ..
  · exact .refl s

theorem State.reeferSample_emits (n : Fin 4096) (e : ReeferEntry) (r : ReeferReport) (a : Nat) : Emits s (s.reeferSample n e r a) := by
  unfold State.reeferSample
  split
  · split
    · exact .refl s
    · exact s.sample_emits ..
  · exact .refl s

theorem State.useReport_emits (n : Fin 4096) (r : ReeferReport) (a : Nat) : Emits s (s.useReport n r a) := by
  unfold State.useReport
  simp only
  refine Emits.trans ?_ (State.writeReeferMirror_emits ..)
  refine Emits.trans ?_ (Emits.foldl (fun u x => u.raise_emits ..) _ _)
  refine Emits.trans ?_ (State.setEntry_emits ..)
  exact (((s.noticeReturn_emits ..).trans (State.noticeAlarms_emits ..)).trans (State.noticeSetpoint_emits ..)).trans
    (State.reeferSample_emits ..)

theorem State.reportFor_emits (n : Fin 4096) (r : ReeferReport) (a : Nat) : Emits s (s.reportFor n r a) := by
  unfold State.reportFor
  simp only
  split
  · exact s.useReport_emits ..
  · exact Emits.trans (s.setEntry_emits n _) (State.writeReeferMirror_emits ..)

theorem State.reeferRecord_emits (bytes : List Byte) (a : Nat) : Emits s (s.reeferRecord bytes a) := by
  unfold State.reeferRecord
  simp only
  split
  · exact .of_same rfl rfl rfl rfl
  split
  · exact s.reportFor_emits ..
  · unfold State.unknownTag
    split
    · exact .of_same rfl rfl rfl rfl
    split
    · exact ((s.enrolAt_emits ..).trans (State.raise_emits ..)).trans (State.reportFor_emits ..)
    · exact s.dropReport_emits _

theorem State.sweepEntry_emits (n : Fin 4096) : Emits s (s.sweepEntry n) := by
  unfold State.sweepEntry
  simp only
  split
  · exact (((s.setReefer_emits _).trans (State.setEntry_emits ..)).trans (State.raise_emits ..)).trans
      (State.writeReeferMirror_emits ..)
  · exact .of_same rfl rfl rfl rfl

end

/-! ## Ends of events -/

/-- An event that gathers by `Emits` from a state without a cause ends with the status block where a flag or the overflow set has changed,
behind its other own writes (R154, log entry 8). -/
theorem ThenStatusIfFlagged.of_emits {k : Work} {s u v : State} (he : Emits u v) (hdue : u.scratch.statusDue = false)
    (hwork : u.scratch.work = k) (hnotice : u.notice = s.notice) (hcpb : v.cpb = s.cpb) : ThenStatusIfFlagged k s v.finish v.arb := by
  have hd := he.due
  rw [hdue, hnotice] at hd
  unfold ThenStatusIfFlagged
  by_cases h : v.notice.flags = s.notice.flags ∧ v.notice.overflow = s.notice.overflow
  · have hv : v.scratch.statusDue = false := by simpa [NoticeUnit.Flagged, h] using hd
    simp [State.flushStatus_arb, hv, h]
  · have hv : v.scratch.statusDue = true := hd.2 (.inr h)
    simp [State.flushStatus_arb, hv, h, he.work, hwork, State.pageAddr, hcpb]

end Sys2Proof.Machine
end

section
/-! SUPPORT. The pending notices, the own writes and the ring definition through every command (R39, R148 to R153). -/

namespace Sys2Proof.Machine

/-! ## The pending queue (R148, R149) -/

/-- A notice stands behind every notice of its class and ahead of every lower one (R148). -/
theorem enqueueNotice_joins {q : List Notice} (hq : QueueOrdered q) (n : Notice) : ∃ front back, q = front ++ back ∧
    enqueueNotice q n = front ++ n :: back ∧ (∀ x ∈ front, x.kind.cls.code ≤ n.kind.cls.code) ∧
      ∀ x ∈ back, n.kind.cls.code < x.kind.cls.code := by
  refine ⟨_, _, (List.takeWhile_append_dropWhile (p := fun m : Notice => m.kind.notBehind n.kind)).symm, rfl, fun x hx => ?_, ?_⟩
  · simpa [NoticeKind.notBehind] using List.mem_takeWhile_imp hx
  · have hordered : QueueOrdered (q.dropWhile fun m => m.kind.notBehind n.kind) := hq.sublist (List.dropWhile_sublist _)
    have hhead : ∀ x, (q.dropWhile fun m => m.kind.notBehind n.kind).head? = some x → n.kind.cls.code < x.kind.cls.code := by
      intro x hx
      have := List.head?_dropWhile_not (fun m : Notice => m.kind.notBehind n.kind) q
      rw [hx] at this
      simpa [NoticeKind.notBehind] using this
    cases hback : q.dropWhile fun m => m.kind.notBehind n.kind with
    | nil => simp
    | cons y l =>
      rw [hback] at hordered hhead
      have hy := hhead y rfl
      rintro x (_ | ⟨_, hx⟩)
      · exact hy
      · exact hy.trans_le ((List.pairwise_cons.1 hordered).1 x hx)

theorem enqueueNotice_ordered {q : List Notice} (hq : QueueOrdered q) (n : Notice) : QueueOrdered (enqueueNotice q n) := by
  obtain ⟨front, back, rfl, h, hfront, hback⟩ := enqueueNotice_joins hq n
  rw [h]
  obtain ⟨h1, h2, h3⟩ := List.pairwise_append.1 hq
  refine List.pairwise_append.2 ⟨h1, List.pairwise_cons.2 ⟨fun x hx => (hback x hx).le, h2⟩, fun a ha b hb => ?_⟩
  obtain rfl | hb := List.mem_cons.1 hb
  · exact hfront a ha
  · exact h3 a ha b hb

theorem enqueueNotice_length (q : List Notice) (n : Notice) : (enqueueNotice q n).length = q.length + 1 := by
  unfold enqueueNotice
  rw [List.length_append, List.length_cons, ← Nat.add_assoc, ← List.length_append, List.takeWhile_append_dropWhile]

/-- Settles O48, by the branches of the taking of a notice. -/
theorem noticeTaken : Obligations.NoticeTaken := by
  intro u n hq
  refine ⟨fun he => ?_, fun he hl => ?_, fun he hl front last hqueue => ?_⟩
  · rw [NoticeUnit.take, if_neg (by simp [he])]
  · obtain ⟨front, back, h1, h2, h3, h4⟩ := enqueueNotice_joins hq n
    exact ⟨_, ⟨front, back, h1, h2, h3, h4⟩, by rw [NoticeUnit.take, if_pos he, NoticeUnit.accept, if_pos hl]⟩
  · have htake : u.take n = if n.kind.cls.code < last.kind.cls.code then
        { u.lose last.kind.cls with queue := enqueueNotice u.queue.dropLast n } else u.lose n.kind.cls := by
      rw [NoticeUnit.take, if_pos he, NoticeUnit.accept, if_neg (by omega)]
      simp [hqueue]
    have hfront : u.queue.dropLast = front := by simp [hqueue]
    refine ⟨fun hc => ?_, fun hc => ?_⟩
    · have hordered : QueueOrdered front := hq.sublist (hfront ▸ List.dropLast_sublist _)
      obtain ⟨f, b, h1, h2, h3, h4⟩ := enqueueNotice_joins hordered n
      exact ⟨_, ⟨f, b, h1, h2, h3, h4⟩, by rw [htake, if_pos hc, hfront]; rfl⟩
    · rw [htake, if_neg (by omega)]; rfl

/-- The pending queue is within its capacity and in class priority order. -/
def QueueFits (q : List Notice) : Prop := q.length ≤ 32 ∧ QueueOrdered q

theorem NoticeUnit.take_queueFits {u : NoticeUnit} (h : QueueFits u.queue) (n : Notice) : QueueFits (u.take n).queue := by
  obtain ⟨hl, ho⟩ := h
  obtain e | ⟨e, hroom⟩ | ⟨last, hlast, -, -, e⟩ | ⟨e, -⟩ := u.take_cases n <;> rw [e]
  · exact ⟨hl, ho⟩
  · exact ⟨by rw [enqueueNotice_length]; omega, enqueueNotice_ordered ho n⟩
  · have hne : u.queue ≠ [] := by rintro hnil; simp [hnil] at hlast
    have := List.length_pos_iff.2 hne
    exact ⟨by rw [enqueueNotice_length, List.length_dropLast]; omega, enqueueNotice_ordered (ho.sublist (List.dropLast_sublist _)) n⟩
  · exact ⟨hl, ho⟩

/-! ## What every operation keeps of the ring, the pending queue and the own writes -/

/-- The marks, the state, the definition in force, the length in force and the indices of the ring. -/
def NoticeUnit.ringPart (u : NoticeUnit) : Bool × Bool × RingState × Nat × Nat × Nat × BitVec 32 × BitVec 32 :=
  (u.baseMark, u.lengthMark, u.ring, u.defBase, u.defLength, u.lengthInForce, u.producer, u.consumer)

/-- The pending queue and the own-write queue stay within what R39 and R148 ask. -/
structure KeepsQueues (s t : State) : Prop where
  queue : QueueFits s.notice.queue → QueueFits t.notice.queue
  own : s.arb.own.length ≤ 64 → t.arb.own.length ≤ 64

/-- The ring stays as it is, and the queues as they should be. -/
structure KeepsRing (s t : State) : Prop extends KeepsQueues s t where
  ring : t.notice.ringPart = s.notice.ringPart

theorem NoticeUnit.Gains.keeps {u v : NoticeUnit} (h : u.Gains v) :
    v.ringPart = u.ringPart ∧ (QueueFits u.queue → QueueFits v.queue) := by
  induction h with
  | refl => exact ⟨rfl, id⟩
  | take n _ ih => exact ⟨by rw [← ih.1]; simp [NoticeUnit.ringPart], fun h => NoticeUnit.take_queueFits (ih.2 h) n⟩
  | flag f _ ih => exact ih

theorem Arbiter.Gains.own_fits {a b : Arbiter} (h : a.Gains b) (ha : a.own.length ≤ 64) : b.own.length ≤ 64 := by
  induction h with
  | refl => exact ha
  | hand k w _ ih => exact Arbiter.hand_own_length _ _ _ ih

theorem KeepsQueues.refl (s : State) : KeepsQueues s s := ⟨id, id⟩

theorem KeepsQueues.trans {s t u : State} (h : KeepsQueues s t) (h' : KeepsQueues t u) : KeepsQueues s u :=
  ⟨fun hs => h'.queue (h.queue hs), fun hs => h'.own (h.own hs)⟩

theorem KeepsQueues.of_same {s t : State} (hq : t.notice.queue = s.notice.queue) (ho : t.arb.own = s.arb.own) : KeepsQueues s t :=
  ⟨fun h => hq ▸ h, fun h => ho ▸ h⟩

theorem KeepsRing.trans {s t u : State} (h : KeepsRing s t) (h' : KeepsRing t u) : KeepsRing s u :=
  ⟨h.toKeepsQueues.trans h'.toKeepsQueues, h'.ring.trans h.ring⟩

theorem KeepsRing.of_same {s t : State} (hn : t.notice = s.notice) (ho : t.arb.own = s.arb.own) : KeepsRing s t :=
  ⟨.of_same (by rw [hn]) ho, by rw [hn]⟩

theorem KeepsRing.refl (s : State) : KeepsRing s s := .of_same rfl rfl

theorem Emits.keepsRing {s t : State} (h : Emits s t) : KeepsRing s t :=
  ⟨⟨h.notice.keeps.2, h.arb.own_fits⟩, h.notice.keeps.1⟩

theorem State.finish_keepsRing (s : State) : KeepsRing s s.finish := by
  refine ⟨⟨fun h => ?_, fun h => ?_⟩, ?_⟩
  · simpa using h
  · rw [finish_arb, State.flushStatus_arb]
    split
    · exact Arbiter.hand_own_length _ _ _ h
    · exact h
  · simp [NoticeUnit.ringPart]

/-- The end of a command writes own writes only. -/
theorem State.complete_keepsRing (s : State) (r : ResultCode) : KeepsRing s (s.complete r) := by
  refine ⟨⟨fun h => ?_, fun h => ?_⟩, ?_⟩
  · simpa using h
  · have hflush : ∀ u : State, u.arb.own.length ≤ 64 → u.flushStatus.arb.own.length ≤ 64 := fun u hu => by
      rw [State.flushStatus_arb]
      split
      · exact Arbiter.hand_own_length _ _ _ hu
      · exact hu
    unfold State.complete State.writeResult
    simp only [State.hand, State.setArb_arb, State.setCmd_arb]
    refine Arbiter.hand_own_length _ _ _ (hflush _ ?_)
    split <;> exact h
  · simp [NoticeUnit.ringPart]

theorem State.beginEvent_keepsRing (s : State) (k : Work) : KeepsRing s (s.beginEvent k) := .of_same rfl rfl

theorem State.take_keepsRing (s : State) : KeepsRing s s.take := .of_same rfl rfl

theorem State.setTime_keepsRing (s : State) (x : TimeBase) : KeepsRing s (s.setTime x) := .of_same rfl rfl

theorem State.callStatus_keepsRing (s : State) : KeepsRing s s.callStatus := .of_same rfl rfl

theorem event_keepsRing {k : Work} {s t : State} {enabled : Bool} {f : State → State} (hf : ∀ u, KeepsRing u (f u))
    (h : event k s enabled f = .next t) : KeepsRing s t := by
  obtain rfl | ⟨-, -, -, rfl⟩ := event_cases h
  · exact .refl _
  · exact ((s.beginEvent_keepsRing k).trans (hf _)).trans (State.finish_keepsRing _)

theorem event_keepsQueues {k : Work} {s t : State} {enabled : Bool} {f : State → State} (hf : ∀ u, KeepsQueues u (f u))
    (h : event k s enabled f = .next t) : KeepsQueues s t := by
  obtain rfl | ⟨-, -, -, rfl⟩ := event_cases h
  · exact .refl _
  · exact ((s.beginEvent_keepsRing k).toKeepsQueues.trans (hf _)).trans (State.finish_keepsRing _).toKeepsQueues

theorem command_keepsRing {k : Command} {s t : State} {f : State → State × ResultCode} (hf : ∀ u, KeepsRing u (f u).1)
    (h : command k s f = .next t) : KeepsRing s t :=
  event_keepsRing (fun u => (u.take_keepsRing.trans (hf _)).trans (State.complete_keepsRing _ _)) h

theorem command_keepsQueues {k : Command} {s t : State} {f : State → State × ResultCode} (hf : ∀ u, KeepsQueues u (f u).1)
    (h : command k s f = .next t) : KeepsQueues s t :=
  event_keepsQueues (fun u => (u.take_keepsRing.toKeepsQueues.trans (hf _)).trans (State.complete_keepsRing _ _).toKeepsQueues) h

theorem quietEvent_keepsRing {s t : State} {enabled : Bool} {f : State → State} (hf : KeepsRing s (f s))
    (h : quietEvent s enabled f = .next t) : KeepsRing s t := by
  obtain rfl | ⟨-, -, rfl⟩ := quietEvent_cases h
  · exact .refl _
  · exact hf

section
variable (s : State)

theorem State.forward_keepsRing (p : Passing) : KeepsRing s (s.forward p) := .of_same rfl rfl

theorem State.passRead_keepsRing (m : MasterId) (a : Address) (n : Nat) : KeepsRing s (s.passRead m a n) := by
  unfold State.passRead
  split
  · exact s.forward_keepsRing _
  split
  · exact s.forward_keepsRing _
  · exact (s.readBeats_emits ..).keepsRing.trans (State.forward_keepsRing ..)

theorem State.windowWrite_keepsRing (i : Fin 32) (m : MasterId) (a : Address) (l : List Lane) : KeepsRing s (s.windowWrite i m a l) := by
  unfold State.windowWrite
  simp only
  split
  · exact ((s.setWindow_emits i _).trans (State.blockWrite_emits ..)).keepsRing
  split
  · exact (s.writeBeats_emits ..).keepsRing.trans (State.forward_keepsRing ..)
  · split
    · exact (s.intakeWrite_emits ..).keepsRing.trans (State.forward_keepsRing ..)
    · exact s.forward_keepsRing _

theorem State.acceptValue_keepsRing (m : TimeMessage) (ltm a : Nat) : KeepsRing s (s.acceptValue m ltm a) := by
  have h : KeepsRing s (((s.setTime (s.time.accepted m ltm a)).callStatus).correctionNotice s.time m ltm) :=
    ((s.setTime_keepsRing _).trans (State.callStatus_keepsRing _)).trans (State.correctionNotice_emits ..).keepsRing
  unfold State.acceptValue
  simp only
  split
  · exact h
  · exact h.trans (State.raise_emits ..).keepsRing

theorem State.timeRecord_keepsRing (bytes : List Byte) (a : Nat) : KeepsRing s (s.timeRecord bytes a) := by
  unfold State.timeRecord
  simp only
  split
  · exact .refl s
  split
  · unfold State.markMessage
    simp only
    split
    · exact (s.setTime_keepsRing _).trans (State.violation_emits ..).keepsRing
    · exact s.setTime_keepsRing _
  split
  · unfold State.valueMessage
    split
    · exact (s.setTime_keepsRing _).trans (State.violation_emits ..).keepsRing
    · exact s.acceptValue_keepsRing ..
  · exact .refl s

/-- A dequeue itself puts out nothing. -/
theorem State.dequeue_keepsRing (q : Intake) (e : QueueEntry) : KeepsRing s ((s.setIntake q).countTaken e) :=
  .of_same (by simp) (by simp)

theorem State.judgeRing_keepsQueues : KeepsQueues s s.judgeRing := by
  refine .of_same ?_ (by simp)
  rw [State.judgeRing_notice]
  split <;> rfl

theorem State.rejudgeRing_keepsQueues : KeepsQueues s s.rejudgeRing := by
  unfold State.rejudgeRing
  split
  · exact s.judgeRing_keepsQueues
  · exact .refl s

end

/-! ## The commands -/

section
variable (s : State)

theorem State.doAttachCrane_emits : Emits s s.doAttachCrane.1 := by
  unfold State.doAttachCrane
  (repeat' split) <;> [exact .refl s; exact .refl s; exact .refl s; exact .refl s;
    exact (s.setCrane_emits _ _).trans (State.writeCraneMirror_emits ..)]

theorem State.doDetachCrane_emits : Emits s s.doDetachCrane.1 := by
  unfold State.doDetachCrane
  (repeat' split) <;> [exact .refl s; exact .refl s; exact .refl s;
    exact (s.setCrane_emits _ _).trans (State.writeCraneMirror_emits ..)]

theorem State.setHold_emits (flag : Bool) : Emits s (s.setHold flag).1 := by
  unfold State.setHold
  (repeat' split) <;> [exact .refl s; exact .refl s; exact .refl s;
    exact (s.setCrane_emits _ _).trans (State.writeCraneMirror_emits ..)]

theorem State.placeCell_emits (c : Fin 24) (identity : Nat) : Emits s (s.placeCell c identity) := s.setGrid_emits _

theorem State.doSetCell_emits : Emits s s.doSetCell.1 := by
  unfold State.doSetCell
  (repeat' split) <;> [exact .refl s; exact .refl s; exact .refl s; exact s.placeCell_emits ..; exact .refl s;
    exact (s.clearPlace_emits _).trans (State.placeCell_emits ..)]

theorem State.doClearCell_emits : Emits s s.doClearCell.1 := by
  unfold State.doClearCell
  split
  · exact .refl s
  · next c _ =>
    split
    · exact .refl s
    · simp only
      exact s.clearPlace_emits c

theorem State.doEnrolReefer_emits : Emits s s.doEnrolReefer.1 := by
  have henrol : ∀ tag c q, Emits s (s.enrolTag tag c q).1 := by
    intro tag c q
    unfold State.enrolTag
    simp only
    split
    · split
      · exact .refl s
      · exact (s.setEntry_emits _ _).trans (State.writeReeferMirror_emits ..)
    · split
      · exact (s.enrolAt_emits ..).trans (State.writeReeferMirror_emits ..)
      · exact .refl s
  unfold State.doEnrolReefer
  (repeat' split) <;> [exact .refl s; exact henrol ..; exact .refl s]

theorem State.doRemoveReefer_emits : Emits s s.doRemoveReefer.1 := by
  unfold State.doRemoveReefer
  (repeat' split) <;> [exact .refl s; exact (s.setEntry_emits _ _).trans (State.writeReeferMirror_emits ..); exact .refl s]

theorem State.setMirror_emits (x : MirrorWriter) : Emits s (s.setMirror x) := .of_same rfl rfl rfl rfl

theorem State.setCmd_emits (c : CommandUnit) : Emits s (s.setCmd c) := .of_same rfl rfl rfl rfl

theorem State.refreshRecord_emits (k : MirrorKind) (n : Nat) : Emits s (s.refreshRecord k n) := by
  unfold State.refreshRecord
  (repeat' split) <;> [exact s.writeReeferMirror_emits _; exact .refl s; exact s.writeGridMirror_emits _; exact .refl s;
    exact s.writeCraneMirror_emits _; exact .refl s]

theorem State.doReadCounters_emits : Emits s s.doReadCounters.1 := by
  unfold State.doReadCounters
  exact (s.hand_emits _ _).trans (State.hand_emits _ _ _)

theorem State.doSetNoticeEnables_keepsRing : KeepsRing s s.doSetNoticeEnables.1 := by
  unfold State.doSetNoticeEnables
  split
  · exact .refl s
  · exact ⟨.of_same rfl rfl, rfl⟩

theorem State.doSetIrqEnables_keepsRing : KeepsRing s s.doSetIrqEnables.1 := by
  unfold State.doSetIrqEnables
  split
  · exact .refl s
  · exact ⟨.of_same rfl rfl, rfl⟩

theorem State.doClearFlags_keepsRing : KeepsRing s s.doClearFlags.1 := by
  unfold State.doClearFlags
  split
  · exact .refl s
  · simp only
    split <;> exact ⟨.of_same rfl rfl, rfl⟩

theorem State.removeWindow_keepsQueues (i : Fin 32) : KeepsQueues s (s.removeWindow i) := by
  have h : KeepsQueues s (((s.dropSlotTable (s.window i)).setIntake (s.intake.uncountFrom i)).setWindow i .cleared) :=
    .of_same (by simp) (by simp)
  unfold State.removeWindow
  simp only
  split
  · exact h.trans (State.rejudgeRing_keepsQueues _)
  · exact h

theorem State.windowEffects_keepsQueues (w : Window) : KeepsQueues s (s.windowEffects w) := by
  unfold State.windowEffects
  (repeat' split) <;> [exact .of_same rfl rfl; exact s.rejudgeRing_keepsQueues; exact .of_same rfl rfl; exact .refl s; exact .refl s]

theorem State.doDeleteWindow_keepsQueues : KeepsQueues s s.doDeleteWindow.1 := by
  obtain ⟨r, h, -⟩ | ⟨i, -, -, -, h⟩ := s.doDeleteWindow_cases <;> rw [h]
  · exact .refl s
  · exact s.removeWindow_keepsQueues i

theorem State.doDefineWindow_keepsQueues : KeepsQueues s s.doDefineWindow.1 := by
  obtain ⟨r, h, -⟩ | ⟨i, k, -, h⟩ := s.doDefineWindow_cases <;> rw [h]
  · exact .refl s
  · have hvacated : KeepsQueues s (s.vacated i) := by
      unfold State.vacated
      split
      · exact s.removeWindow_keepsQueues i
      · exact .refl s
    exact (hvacated.trans (State.setWindow_emits ..).keepsRing.toKeepsQueues).trans (State.windowEffects_keepsQueues ..)

theorem State.restartMirrors_emits : Emits s s.restartMirrors :=
  Emits.foldl (fun u i => by
    split
    · exact .refl u
    · exact u.writeCraneMirror_emits i) _ s

theorem State.abortLong_keepsRing : KeepsRing s s.abortLong := by
  unfold State.abortLong
  split
  · have h : KeepsRing s (s.closeLong .aborted) := .of_same rfl rfl
    exact h.trans (State.hand_emits ..).keepsRing
  · exact .refl s

/-- RESTART empties the pending queue, and leaves the ring alone (R158). -/
theorem State.restartBlocks_keepsRing : KeepsRing s s.restartBlocks := by
  unfold State.restartBlocks
  simp only
  refine KeepsRing.trans ⟨⟨fun _ => ?_, fun h => ?_⟩, ?_⟩ (State.restartMirrors_emits _).keepsRing
  · simp [QueueFits, QueueOrdered]
  · simpa using h
  · simp [NoticeUnit.ringPart]

theorem State.restarted_keepsRing (h : InHand) : KeepsRing s (s.restarted h) := by
  have hpick : KeepsRing s (s.pickUp h) := .of_same (by simp) (by simp)
  have hbegin := (hpick.trans (State.beginEvent_keepsRing _ .command)).trans (State.take_keepsRing _)
  have hblocks := (hbegin.trans (State.abortLong_keepsRing _)).trans (State.restartBlocks_keepsRing _)
  have hfinish := (hblocks.trans (State.complete_keepsRing _ .done)).trans (State.finish_keepsRing _)
  unfold State.restarted State.carryOut State.doRestart
  generalize State.finish _ = u at hfinish ⊢
  exact hfinish.trans (.of_same rfl rfl)

theorem State.handleInHand_keepsRing (h : InHand) : KeepsRing s (s.handleInHand h) := by
  have hevent : ∀ (u v : State) (k : Work), KeepsRing s u → KeepsRing (u.beginEvent k) v → KeepsRing s v.finish := fun u v k hu hv =>
    ((hu.trans (u.beginEvent_keepsRing k)).trans hv).trans v.finish_keepsRing
  exact handleInHand_keeps (P := fun u => KeepsRing s u) (.refl s) (fun u l a hu => hevent u _ _ hu (State.measureRecord_emits ..).keepsRing)
    (fun u l a hu => hevent u _ _ hu (State.reeferRecord_emits ..).keepsRing)
    (fun u l a hu => hevent u _ _ hu (State.timeRecord_keepsRing ..))

end

end Sys2Proof.Machine
end

section
/-! SUPPORT. The invariants of the queues and of the ring definition (R34, R39, R148, R150 to R153). -/

namespace Sys2Proof.Machine

/-! ## The commands that can move the ring -/

/-- The commands that can change the ring definition, its marks or its indices: the writes of the page, the window commands, the posting
of a notice, and POWER_ON_RESET. -/
def movesRing : Instr → Bool
  | .powerOnReset _ _ | .writeTransfer _ _ _ | .ringBaseWrite _ _ | .ringLengthWrite _ _ | .consumerIndexWrite _ _
  | .controlPageWrite _ _ _ | .noticePost | .defineWindow | .deleteWindow => true
  | _ => false

theorem restart_keepsRing {s t : State} (h : execRestart s = .next t) : KeepsRing s t := by
  obtain rfl | ⟨-, -, rfl⟩ := restart_cases h
  · exact .refl _
  · exact (s.restarted_keepsRing _).trans (State.handleInHand_keepsRing _ _)

theorem present_read_keepsRing {m : MasterId} {a : Address} {n : Nat} {s t : State} (h : present (.read m a n) s = .next t) :
    KeepsRing s t := by
  obtain rfl | ⟨-, -, rfl⟩ | ⟨-, -, rfl⟩ := present_cases h
  · exact .refl _
  · exact .of_same rfl rfl
  · have hidle : KeepsRing s (s.setScratch .idle) := .of_same rfl rfl
    exact (hidle.trans (State.passRead_keepsRing _ m a n)).trans (State.finish_keepsRing _)

theorem State.longOperationEnd_keepsRing (s : State) : KeepsRing s
    (((s.setScratch { s.scratch with work := .command }).stopOperation.closeLong .done).flushStatus).writeResult := by
  refine ⟨⟨fun h => by simpa using h, fun h => ?_⟩, by simp [NoticeUnit.ringPart]⟩
  unfold State.writeResult State.hand
  rw [State.setArb_arb, State.flushStatus_arb]
  refine Arbiter.hand_own_length _ _ _ ?_
  split
  · exact Arbiter.hand_own_length _ _ _ (by simpa using h)
  · simpa using h

/-- No other command changes the ring, and every one of them keeps the queues as they should be. -/
theorem exec_keepsRing {c : Instr} {s t : State} (h : exec c s = .next t) (hc : movesRing c = false) : KeepsRing s t := by
  cases c <;> simp only [exec] at h
  case powerOnReset | writeTransfer | ringBaseWrite | ringLengthWrite | consumerIndexWrite | controlPageWrite | noticePost | defineWindow
    | deleteWindow => cases hc
  case readTransfer => exact present_read_keepsRing h
  case forwardDownstream =>
    exact quietEvent_keepsRing (.of_same (by simp) (by simp only [State.setArb_arb, Arbiter.sendPassing]; split <;> rfl)) h
  case ownWriteIssue =>
    refine quietEvent_keepsRing ⟨⟨fun hq => hq, fun ho => ?_⟩, rfl⟩ h
    simp only [State.setArb_arb, Arbiter.sendOwn]
    split
    · next hown => rw [hown] at ho; simp at ho ⊢; omega
    · exact ho
  case heldWriteJoin =>
    obtain rfl | ⟨-, hen, rfl⟩ := quietEvent_cases h
    · exact .refl _
    · refine ⟨⟨fun hq => hq, fun _ => ?_⟩, rfl⟩
      simp only [Bool.and_eq_true, decide_eq_true_eq] at hen
      simp only [State.setArb_arb, Arbiter.joinHeld]
      split
      · simp; omega
      · omega
  case ownWriteResponse | slewStep | localTimeAdvance | agingPassStart | silenceSweepStart =>
    exact quietEvent_keepsRing (.of_same rfl rfl) h
  case readDataReturn | writeResponse => exact quietEvent_keepsRing (by split <;> exact .of_same rfl rfl) h
  case timeRecordDequeue =>
    refine event_keepsRing (fun u => ?_) h
    split
    · exact (u.dequeue_keepsRing _ _).trans (State.timeRecord_keepsRing ..)
    · exact .refl u
  case measurementRecordDequeue =>
    refine event_keepsRing (fun u => ?_) h
    split
    · exact (u.dequeue_keepsRing _ _).trans (State.measureRecord_emits ..).keepsRing
    · exact .refl u
  case reeferReportDequeue =>
    refine event_keepsRing (fun u => ?_) h
    split
    · exact (u.dequeue_keepsRing _ _).trans (State.reeferRecord_emits ..).keepsRing
    · exact .refl u
  case uplinkRecordDequeue =>
    refine event_keepsRing (fun u => ?_) h
    split
    · simp only
      split
      · exact (u.dequeue_keepsRing _ _).trans (State.uplinkRecord_emits ..).keepsRing
      · exact u.dequeue_keepsRing _ _
    · exact .refl u
  case holdoverExpiry =>
    exact event_keepsRing (fun u => (((u.setTime_keepsRing _).trans (State.callStatus_keepsRing _)).trans
      (State.setFlag_emits ..).keepsRing).trans (State.raise_emits ..).keepsRing) h
  case heartbeatExpiry i => exact event_keepsRing (fun u => (u.expireHeartbeat_emits i).keepsRing) h
  case slotExpiry i =>
    refine event_keepsRing (fun u => ?_) h
    split
    · exact (u.expireSlot_emits ..).keepsRing
    · exact .refl u
  case agingVisit =>
    refine event_keepsRing (fun u => ?_) h
    split
    · exact (u.ageSquare_emits _).keepsRing
    · exact .refl u
  case clearGridVisit =>
    refine event_keepsRing (fun u => ?_) h
    split
    · exact (u.clearSquare_emits _).keepsRing
    · exact .refl u
  case sweepVisit =>
    refine event_keepsRing (fun u => ?_) h
    split
    · exact (u.sweepEntry_emits _).keepsRing
    · exact .refl u
  case refreshVisit =>
    refine event_keepsRing (fun u => ?_) h
    split
    · exact ((u.refreshRecord_emits _ _).trans (State.setMirror_emits ..)).keepsRing
    · exact .refl u
  case longOperationEnd => exact event_keepsRing (fun u => u.longOperationEnd_keepsRing) h
  case busyRefusal =>
    exact event_keepsRing (fun u => ((u.setCmd_emits _).trans (State.hand_emits _ _ _)).keepsRing) h
  case unknownCommand => exact event_keepsRing (fun u => u.take_keepsRing.trans (State.complete_keepsRing _ _)) h
  case offerJudgement => exact event_keepsRing (fun u => (u.setCmd_emits _).keepsRing) h
  case attachCrane => exact command_keepsRing (fun u => u.doAttachCrane_emits.keepsRing) h
  case detachCrane => exact command_keepsRing (fun u => u.doDetachCrane_emits.keepsRing) h
  case holdCrane => exact command_keepsRing (fun u => (u.setHold_emits true).keepsRing) h
  case releaseCrane => exact command_keepsRing (fun u => (u.setHold_emits false).keepsRing) h
  case setCell => exact command_keepsRing (fun u => u.doSetCell_emits.keepsRing) h
  case clearCell => exact command_keepsRing (fun u => u.doClearCell_emits.keepsRing) h
  case enrolReefer => exact command_keepsRing (fun u => u.doEnrolReefer_emits.keepsRing) h
  case removeReefer => exact command_keepsRing (fun u => u.doRemoveReefer_emits.keepsRing) h
  case readCounters => exact command_keepsRing (fun u => u.doReadCounters_emits.keepsRing) h
  case setNoticeEnables => exact command_keepsRing (fun u => u.doSetNoticeEnables_keepsRing) h
  case setIrqEnables => exact command_keepsRing (fun u => u.doSetIrqEnables_keepsRing) h
  case clearFlags => exact command_keepsRing (fun u => u.doClearFlags_keepsRing) h
  case restart => exact restart_keepsRing h
  case resetAssertion =>
    injection h with h
    split at h <;> subst h
    · exact .refl _
    · exact ⟨⟨fun hq => hq, fun _ => by simp⟩, rfl⟩
  all_goals exact command_keepsRing (fun u => .of_same (by simp) (by simp)) h

/-! ## The queues (R34, R39, R148) -/

theorem State.ringWrite_keepsQueues (s : State) (a : Nat) (l : List Lane) : KeepsQueues s (s.ringWrite a l) := by
  have hcopied : KeepsQueues s (s.setNotice (s.ringCopied a l)) := .of_same rfl rfl
  have hincomplete : ∀ u : State, KeepsQueues u u.ringIncomplete := fun u => by
    unfold State.ringIncomplete
    split
    · exact .of_same rfl rfl
    · exact .refl u
  have hconsumer : ∀ u : State, KeepsQueues u u.consumerWrite := fun u => by
    unfold State.consumerWrite
    simp only
    split
    · exact .of_same rfl rfl
    · exact (u.setFlag_emits _).keepsRing.toKeepsQueues
  have hcomplete : ∀ u : State, KeepsQueues u u.completeRing := fun u => by
    unfold State.completeRing
    exact KeepsQueues.trans (.of_same (by simp) (by simp)) (State.judgeRing_keepsQueues _)
  unfold State.ringWrite
  simp only
  split
  · exact hcopied.trans (hcomplete _)
  · have h2 : KeepsQueues s (if s.dropsMark a l then (s.setNotice (s.ringCopied a l)).ringIncomplete
        else s.setNotice (s.ringCopied a l)) := by
      split
      · exact hcopied.trans (hincomplete _)
      · exact hcopied
    split
    · exact h2.trans (hconsumer _)
    · exact h2

theorem State.passWrite_keepsQueues (s : State) (m : MasterId) (a : Address) (l : List Lane) : KeepsQueues s (s.passWrite m a l) := by
  unfold State.passWrite
  split
  · unfold State.pageWrite
    split
    · exact (s.blockWrite_emits ..).keepsRing.toKeepsQueues
    · have hcommand : KeepsQueues s (s.commandWrite a.toNat l) := .of_same rfl rfl
      exact (hcommand.trans (State.ringWrite_keepsQueues ..)).trans (State.forward_keepsRing ..).toKeepsQueues
  split
  · exact (s.windowWrite_keepsRing ..).toKeepsQueues
  · exact (s.forward_keepsRing _).toKeepsQueues

theorem State.takeTransfer_keepsQueues (s : State) (x : Transfer) : KeepsQueues s (s.takeTransfer x) := by
  have hidle : KeepsQueues s (s.setScratch .idle) := .of_same rfl rfl
  unfold State.takeTransfer
  refine KeepsQueues.trans ?_ (State.finish_keepsRing _).toKeepsQueues
  cases x with
  | read m a n => exact hidle.trans (State.passRead_keepsRing ..).toKeepsQueues
  | write m a l => exact hidle.trans (State.passWrite_keepsQueues ..)

theorem present_keepsQueues {x : Transfer} {s t : State} (h : present x s = .next t) : KeepsQueues s t := by
  obtain rfl | ⟨-, -, rfl⟩ | ⟨-, -, rfl⟩ := present_cases h
  · exact .refl _
  · exact .of_same rfl rfl
  · exact s.takeTransfer_keepsQueues x

theorem exec_keepsQueues {c : Instr} {s t : State} (h : exec c s = .next t) (hc : ∀ b m, c ≠ .powerOnReset b m) : KeepsQueues s t := by
  by_cases hm : movesRing c = false
  · exact (exec_keepsRing h hm).toKeepsQueues
  cases c
  case powerOnReset b m => exact absurd rfl (hc b m)
  case writeTransfer | ringBaseWrite | ringLengthWrite | consumerIndexWrite => exact present_keepsQueues h
  case controlPageWrite =>
    obtain h | rfl := controlPageWrite_cases h
    · exact present_keepsQueues h
    · exact .refl _
  case noticePost =>
    simp only [exec] at h
    refine event_keepsQueues (fun u => ?_) h
    split
    · next n rest hq =>
      refine ⟨fun ⟨hl, ho⟩ => ?_, fun ho => ?_⟩
      · rw [hq] at hl ho
        exact ⟨(by simp at hl ⊢; omega), (List.pairwise_cons.1 ho).2⟩
      · exact Arbiter.hand_own_length _ _ _ ho
    · exact .refl u
  case defineWindow => simp only [exec] at h; exact command_keepsQueues (fun u => u.doDefineWindow_keepsQueues) h
  case deleteWindow => simp only [exec] at h; exact command_keepsQueues (fun u => u.doDeleteWindow_keepsQueues) h
  all_goals exact absurd rfl hm

/-- Every intake queue is within its capacity (R34). -/
def Intake.Fits (q : Intake) : Prop := ∀ k size capacity, k.intakeShape = some (size, capacity) → (q.queue k).length ≤ capacity

theorem Intake.fits_iff (q : Intake) :
    q.Fits ↔ q.uplink.length ≤ 16 ∧ q.reefer.length ≤ 32 ∧ q.measure.length ≤ 16 ∧ q.time.length ≤ 4 := by
  refine ⟨fun h => ⟨h .craneUp _ _ rfl, h .reeferIn _ _ rfl, h .measureIn _ _ rfl, h .timeIn _ _ rfl⟩, ?_⟩
  rintro ⟨hu, hr, hm, ht⟩ k size capacity hk
  cases k <;> simp only [WindowKind.intakeShape, Option.some.injEq, Prod.mk.injEq, reduceCtorEq] at hk <;> obtain ⟨-, rfl⟩ := hk
  · exact hu
  · exact hr
  · exact hm
  · exact ht

theorem Intake.setQueue_queue (q : Intake) (k j : WindowKind) (l : List QueueEntry) :
    (q.setQueue k l).queue j = q.queue j ∨ (j = k ∧ (q.setQueue k l).queue j = l) := by
  cases k <;> cases j <;> simp [Intake.setQueue, Intake.queue]

/-- A settled position joins the queue only where a place is free (R34). -/
theorem Settlement.settle_queue_length (x : Settlement) (capacity position : Nat) (bytes : List (Option Byte))
    (entry : List Byte → QueueEntry) (h : x.queue.length ≤ capacity) : (x.settle capacity position bytes entry).queue.length ≤ capacity := by
  unfold Settlement.settle
  split
  · exact h
  split
  · exact h
  split
  · simp; omega
  · exact h

theorem State.settlement_queue_length (s : State) (i : Fin 32) (k : WindowKind) (size capacity a : Nat) (l : List Lane)
    (h : (s.intake.queue k).length ≤ capacity) : (s.settlement i k size capacity a l).queue.length ≤ capacity := by
  unfold State.settlement
  simp only
  generalize reachedPositions _ _ _ = positions
  generalize hx : ({ queue := s.intake.queue k, torn := [], missed := [] } : Settlement) = x
  replace h : x.queue.length ≤ capacity := by rw [← hx]; exact h
  clear hx
  induction positions generalizing x with
  | nil => exact h
  | cons p positions ih => exact ih _ (Settlement.settle_queue_length _ _ _ _ _ h)

theorem State.intakeWrite_fits (s : State) (i : Fin 32) (k : WindowKind) (m : MasterId) (a : Nat) (l : List Lane)
    (h : s.intake.Fits) : (s.intakeWrite i k m a l).intake.Fits := by
  unfold State.intakeWrite
  split
  · exact h
  · next size capacity hk =>
    simp only [State.reportPositions_intake, State.setWindow_intake, State.setIntake_intake]
    intro j size' capacity' hj
    obtain hsame | ⟨rfl, hnew⟩ := s.intake.setQueue_queue k j (s.settlement i k size capacity a l).queue
    · rw [hsame]; exact h j _ _ hj
    · rw [hnew]
      obtain ⟨rfl, rfl⟩ : size = size' ∧ capacity = capacity' := by simpa [hk] using hj
      exact s.settlement_queue_length i _ _ _ a l (h _ _ _ hk)

theorem State.takeTransfer_fits (s : State) (x : Transfer) (h : s.intake.Fits) : (s.takeTransfer x).intake.Fits := by
  unfold State.takeTransfer
  rw [State.finish_intake]
  cases x with
  | read m a n => simpa using h
  | write m a l =>
    simp only
    unfold State.passWrite
    split
    · simpa using h
    split
    · unfold State.windowWrite
      simp only
      split
      · simpa using h
      split
      · simpa using h
      · rw [State.forward_intake]
        split
        · exact State.intakeWrite_fits _ _ _ _ _ _ h
        · exact h
    · exact h

/-- A queue that has lost some of its entries, or their marks, still fits. -/
theorem Intake.Fits.of_le {q r : Intake} (h : q.Fits) (hle : ∀ k, (r.queue k).length ≤ (q.queue k).length) : r.Fits :=
  fun k _ _ hk => (hle k).trans (h k _ _ hk)

theorem Intake.uncountFrom_length (q : Intake) (i : Fin 32) (k : WindowKind) :
    ((q.uncountFrom i).queue k).length = (q.queue k).length := by
  cases k <;> simp [Intake.queue, Intake.uncountFrom, Machine.uncountFrom]

theorem State.removeWindow_intake (s : State) (i : Fin 32) : (s.removeWindow i).intake = s.intake.uncountFrom i := by
  unfold State.removeWindow
  simp only
  split <;> simp

theorem event_fits {k : Work} {s t : State} {enabled : Bool} {f : State → State} (hf : ∀ u, u.intake.Fits → (f u).intake.Fits)
    (hs : s.intake.Fits) (h : event k s enabled f = .next t) : t.intake.Fits := by
  obtain rfl | ⟨-, -, -, rfl⟩ := event_cases h
  · exact hs
  · rw [State.finish_intake]
    exact hf _ hs

theorem command_fits {k : Command} {s t : State} {f : State → State × ResultCode} (hf : ∀ u, u.intake.Fits → (f u).1.intake.Fits)
    (hs : s.intake.Fits) (h : command k s f = .next t) : t.intake.Fits :=
  event_fits (fun u hu => by rw [State.carryOut, State.complete_intake]; exact hf _ hu) hs h

theorem present_fits {x : Transfer} {s t : State} (hs : s.intake.Fits) (h : present x s = .next t) : t.intake.Fits := by
  obtain rfl | ⟨-, -, rfl⟩ | ⟨-, -, rfl⟩ := present_cases h
  · exact hs
  · exact hs
  · exact s.takeTransfer_fits x hs

theorem State.restarted_intake (s : State) (h : InHand) :
    (s.restarted h).intake = { uplink := [], reefer := [], measure := [], time := [] } := by
  simp [State.restarted, State.carryOut, State.doRestart, State.restartBlocks, State.discardIntake]

theorem exec_fits {c : Instr} {s t : State} (hs : s.intake.Fits) (h : exec c s = .next t) (hc : ∀ b m, c ≠ .powerOnReset b m) :
    t.intake.Fits := by
  by_cases hi : .intake ∈ touchedBy c
  case neg => rw [(exec_frames h hc).intake hi]; exact hs
  case pos =>
  cases c <;> simp only [touchedBy, writeBlocks, List.mem_cons, List.not_mem_nil, reduceCtorEq, or_false, or_self] at hi <;>
    simp only [exec] at h
  case powerOnReset b m => exact absurd rfl (hc b m)
  case writeTransfer | ringBaseWrite | ringLengthWrite | consumerIndexWrite => exact present_fits hs h
  case controlPageWrite =>
    obtain h | rfl := controlPageWrite_cases h
    · exact present_fits hs h
    · exact hs
  case timeRecordDequeue | measurementRecordDequeue | reeferReportDequeue =>
    refine event_fits (fun u hu => ?_) hs h
    split
    · next e rest hq =>
      refine hu.of_le fun k => ?_
      cases k <;> simp [Intake.queue, hq]
    · exact hu
  case uplinkRecordDequeue =>
    refine event_fits (fun u hu => ?_) hs h
    split
    · next e rest hq =>
      refine hu.of_le fun k => ?_
      simp only
      split <;> cases k <;> simp [Intake.queue, hq]
    · exact hu
  case defineWindow =>
    refine command_fits (fun u hu => ?_) hs h
    obtain ⟨r, he, -⟩ | ⟨i, k, -, he⟩ := u.doDefineWindow_cases <;> rw [he]
    · exact hu
    · rw [State.windowEffects_intake, State.setWindow_intake, State.vacated]
      split
      · rw [State.removeWindow_intake]
        exact hu.of_le fun j => (Intake.uncountFrom_length _ _ j).le
      · exact hu
  case deleteWindow =>
    refine command_fits (fun u hu => ?_) hs h
    obtain ⟨r, he, -⟩ | ⟨i, -, -, -, he⟩ := u.doDeleteWindow_cases <;> rw [he]
    · exact hu
    · rw [State.removeWindow_intake]
      exact hu.of_le fun j => (Intake.uncountFrom_length _ _ j).le
  case clearCounters =>
    refine command_fits (fun u hu => ?_) hs h
    rw [u.doClearCounters_intake]
    refine hu.of_le fun k => ?_
    cases k <;> simp [Intake.queue, Intake.uncountAll]
  case restart =>
    obtain rfl | ⟨-, -, rfl⟩ := restart_cases h
    · exact hs
    · rw [State.handleInHand_intake, State.restarted_intake, Intake.fits_iff]
      simp

theorem buffersWf_iff (s : State) : BuffersWf s ↔ s.intake.Fits ∧ s.arb.own.length ≤ 64 ∧ QueueFits s.notice.queue := by
  simp [BuffersWf, Intake.fits_iff, QueueFits, and_assoc]

/-- Settles O59: a queue grows only where a place is free, and a notice joins the pending queue behind its own class. -/
theorem buffersKept : Obligations.BuffersKept := by
  intro s t hs h
  refine step_keeps (P := BuffersWf) (fun _ _ h => h) (fun c s t hs h => ?_) hs h
  rw [buffersWf_iff] at hs ⊢
  obtain ⟨hi, ho, hq⟩ := hs
  by_cases hc : ∀ b m, c ≠ .powerOnReset b m
  · have hk := exec_keepsQueues h hc
    exact ⟨exec_fits hi h hc, hk.own ho, hk.queue hq⟩
  · push Not at hc
    obtain ⟨b, m, rfl⟩ := hc
    refine powerOnReset_induction (P := fun u => u.intake.Fits ∧ u.arb.own.length ≤ 64 ∧ QueueFits u.notice.queue) ?_ ?_ h
    · rw [Intake.fits_iff, State.powerOn_intake, State.powerOn_arb, State.powerOn_notice]
      simp [QueueFits, QueueOrdered, NoticeUnit.powerOn]
    · rintro u x ⟨hi, ho, hq⟩
      have hk := u.takeTransfer_keepsQueues x
      exact ⟨u.takeTransfer_fits x hi, hk.own ho, hk.queue hq⟩

end Sys2Proof.Machine
end

section
/-! SUPPORT. The ring definition (R150 to R153). -/

namespace Sys2Proof.Machine

/-! ## The invariant of the ring in two parts -/

/-- What holds of the ring's marks, state, length in force and indices whatever the windows are. -/
structure NoticeUnit.RingCoherent (u : NoticeUnit) : Prop where
  marks : (u.baseMark = true ∧ u.lengthMark = true) ↔ (u.ring = .ready ∨ u.ring = .invalid)
  length : ringLengthGood u.defLength = true → u.ring ≠ .undefined → u.lengthInForce = u.defLength
  indices : (u.producer - u.consumer).toNat ≤ u.lengthInForce

theorem State.ringValid_iff (s : State) : s.ringValid = true ↔ ringLengthGood s.notice.defLength = true ∧ s.notice.defBase % 32 = 0 ∧
    s.notice.defBase < 2 ^ 40 ∧ ∃ i, (s.window i).coversRing s.notice.defBase s.notice.defLength = true := by
  simp [State.ringValid, toList_eq_map_get, State.window, and_assoc]

theorem Window.coversRing_iff (w : Window) (base length : Nat) : w.coversRing base length = true ↔
    w.inUse = true ∧ w.kind = some .noticeRing ∧ w.base ≤ base ∧ base + 32 * length ≤ w.base + w.size := by
  simp [Window.coversRing, and_assoc]

/-- The invariant of the ring: it is coherent, and READY only where the definition in force is valid. -/
theorem ringWf_iff (s : State) : RingWf s ↔ s.notice.RingCoherent ∧ (s.notice.ring = .ready → s.ringValid = true) := by
  have hjudged : s.notice.ring = .ready → (RingJudgedOn s.window s.notice = s.notice ↔ s.ringValid = true) := by
    intro hr
    rw [s.ringValid_iff, RingJudgedOn, if_pos (.inl hr)]
    simp only [Window.coversRing_iff]
    split
    · next hv => exact ⟨fun _ => hv, fun _ => by rw [← hr]⟩
    · next hv =>
      refine ⟨fun h => ?_, fun h => absurd h hv⟩
      have := congrArg NoticeUnit.ring h
      simp [hr] at this
  refine ⟨fun ⟨h1, h2, h3, h4⟩ => ⟨⟨h1, h2, h4⟩, fun hr => (hjudged hr).1 (h3 hr)⟩, fun ⟨⟨h1, h2, h4⟩, h3⟩ => ?_⟩
  exact ⟨h1, h2, fun hr => (hjudged hr).2 (h3 hr), h4⟩

theorem NoticeUnit.RingCoherent.of_same {u v : NoticeUnit} (h : u.RingCoherent) (hr : v.ringPart = u.ringPart) : v.RingCoherent := by
  simp only [NoticeUnit.ringPart, Prod.mk.injEq] at hr
  obtain ⟨h1, h2, h3, h4, h5, h6, h7, h8⟩ := hr
  obtain ⟨hm, hl, hi⟩ := h
  exact ⟨by rw [h1, h2, h3]; exact hm, by rw [h3, h5, h6]; exact hl, by rw [h6, h7, h8]; exact hi⟩

/-- A ring that stays as it is keeps the invariant where its definition stays valid. -/
theorem RingWf.of_same {s t : State} (h : RingWf s) (hr : t.notice.ringPart = s.notice.ringPart)
    (hw : s.ringValid = true → t.ringValid = true) : RingWf t := by
  rw [ringWf_iff] at h ⊢
  have hring : t.notice.ring = s.notice.ring := congrArg (·.2.2.1) hr
  exact ⟨h.1.of_same hr, fun hready => hw (h.2 (hring ▸ hready))⟩

/-- The validity of a definition in force that stays as it is needs the covering window only. -/
theorem State.ringValid_of_covered {s t : State} (hr : t.notice.ringPart = s.notice.ringPart) (hv : s.ringValid = true)
    (hw : ∀ i, (s.window i).coversRing s.notice.defBase s.notice.defLength = true →
      ∃ j, (t.window j).coversRing s.notice.defBase s.notice.defLength = true) : t.ringValid = true := by
  simp only [NoticeUnit.ringPart, Prod.mk.injEq] at hr
  obtain ⟨-, -, -, hbase, hlength, -⟩ := hr
  obtain ⟨h1, h2, h3, i, hi⟩ := (State.ringValid_iff _).1 hv
  rw [State.ringValid_iff, hbase, hlength]
  exact ⟨h1, h2, h3, hw i hi⟩

theorem Window.coversRing_congr {w v : Window} (h : w.definition = v.definition) (base length : Nat) :
    w.coversRing base length = v.coversRing base length := by
  simp only [Window.coversRing, Window.inUse_congr h, Window.kind_congr h, Window.base_congr h, Window.size_congr h]

/-- A ring that stays as it is keeps the invariant where every window keeps its definition. -/
theorem RingWf.of_definitions {s t : State} (h : RingWf s) (hr : t.notice.ringPart = s.notice.ringPart)
    (hw : KeepsDefinitions s.windows t.windows) : RingWf t :=
  h.of_same hr fun hv => State.ringValid_of_covered hr hv fun i hi => ⟨i, by rw [Window.coversRing_congr (hw.window i)]; exact hi⟩

theorem RingWf.of_notice {s t : State} (h : RingWf s) (hn : t.notice = s.notice) (hw : t.windows = s.windows) : RingWf t :=
  h.of_definitions (by rw [hn]) (by rw [hw]; exact .refl _)

/-! ## The judgement (R151) -/

theorem State.judgeRing_coherent {s : State} (hm : s.notice.baseMark = true ∧ s.notice.lengthMark = true)
    (hl : ringLengthGood s.notice.defLength = true → s.notice.lengthInForce = s.notice.defLength)
    (hi : (s.notice.producer - s.notice.consumer).toNat ≤ s.notice.lengthInForce) : s.judgeRing.notice.RingCoherent := by
  rw [State.judgeRing_notice]
  split
  · exact ⟨by simp [hm], fun hg _ => hl hg, hi⟩
  · exact ⟨by simp [hm], fun hg _ => hl hg, hi⟩

/-- A judged ring is READY only where its definition is valid. -/
theorem State.judgeRing_ready {s : State} (h : s.judgeRing.notice.ring = .ready) : s.judgeRing.ringValid = true := by
  have hvalid : s.ringValid = true := by
    by_contra hv
    simp [State.judgeRing_notice, hv] at h
  have hn : s.judgeRing.notice = { s.notice with ring := .ready } := by rw [State.judgeRing_notice, if_pos hvalid]
  rw [State.ringValid_iff] at hvalid ⊢
  rw [hn]
  simpa [State.window] using hvalid

theorem State.rejudgeRing_wf {s : State} (h : s.notice.RingCoherent) : RingWf s.rejudgeRing := by
  unfold State.rejudgeRing
  split
  · next hring =>
    have hdefined : s.notice.ring ≠ .undefined := by rintro hu; simp [hu] at hring
    exact (ringWf_iff _).2 ⟨State.judgeRing_coherent (h.marks.2 hring) (fun hg => h.length hg hdefined) h.indices, State.judgeRing_ready⟩
  · next hring => exact (ringWf_iff s).2 ⟨h, fun hr => absurd (.inl hr) hring⟩

/-! ## The window commands (R151) -/

/-- Removing a window leaves the ring well formed: the ring is judged again where a NOTICE_RING window goes, and no other window holds it. -/
theorem State.removeWindow_ringWf {s : State} (h : RingWf s) (i : Fin 32) : RingWf (s.removeWindow i) := by
  have hw := s.removeWindow_window i
  unfold State.removeWindow at hw ⊢
  simp only at hw ⊢
  split at hw
  · next hk =>
    rw [if_pos hk]
    exact State.rejudgeRing_wf (by simpa using ((ringWf_iff s).1 h).1)
  · next hk =>
    rw [if_neg hk]
    refine h.of_same (by simp) fun hv => State.ringValid_of_covered (by simp) hv fun j hj => ⟨j, ?_⟩
    have hji : j ≠ i := by
      rintro rfl
      exact hk ((Window.coversRing_iff _ _ _).1 hj).2.1
    rw [hw, if_neg hji]
    exact hj

theorem State.windowEffects_notice (s : State) (w : Window) :
    (s.windowEffects w).notice = if w.kind = some .noticeRing then s.rejudgeRing.notice else s.notice := by
  unfold State.windowEffects
  (repeat' split) <;> simp_all

/-- A definition leaves the ring well formed, since a new NOTICE_RING window has it judged. -/
theorem State.defined_ringWf {s : State} {i : Fin 32} {w : Window} (h : RingWf s) (hfree : (s.window i).inUse = false) :
    RingWf ((s.setWindow i w).windowEffects w) := by
  have hwindows : ∀ j, ((s.setWindow i w).windowEffects w).window j = if j = i then w else s.window j := fun j => by
    have : ((s.setWindow i w).windowEffects w).window j = (s.setWindow i w).window j := by simp [State.window]
    rw [this, State.setWindow_window]
  have hnotice := (s.setWindow i w).windowEffects_notice w
  split at hnotice
  · have hwf := State.rejudgeRing_wf (s := s.setWindow i w) (by simpa using ((ringWf_iff s).1 h).1)
    refine hwf.of_definitions (by rw [hnotice]) ⟨fun j => ?_⟩
    have : (((s.setWindow i w).windowEffects w).windows.get j) = (s.setWindow i w).windows.get j := by simp
    rw [this]
    simp
  · refine h.of_same (by rw [hnotice]; simp) fun hv => State.ringValid_of_covered (by rw [hnotice]; simp) hv fun j hj => ⟨j, ?_⟩
    have hji : j ≠ i := by
      rintro rfl
      exact absurd ((Window.coversRing_iff _ _ _).1 hj).1 (by simp [hfree])
    rw [hwindows, if_neg hji]
    exact hj

theorem State.vacated_free (s : State) (i : Fin 32) : ((s.vacated i).window i).inUse = false := by
  unfold State.vacated
  split
  · rw [State.removeWindow_window, if_pos rfl]; rfl
  · next h => simpa using h

theorem State.vacated_ringWf {s : State} (h : RingWf s) (i : Fin 32) : RingWf (s.vacated i) := by
  unfold State.vacated
  split
  · exact State.removeWindow_ringWf h i
  · exact h

theorem State.doDefineWindow_ringWf {s : State} (h : RingWf s) : RingWf s.doDefineWindow.1 := by
  obtain ⟨r, he, -⟩ | ⟨i, k, -, he⟩ := s.doDefineWindow_cases <;> rw [he]
  · exact h
  · exact State.defined_ringWf (State.vacated_ringWf h i) (s.vacated_free i)

theorem State.doDeleteWindow_ringWf {s : State} (h : RingWf s) : RingWf s.doDeleteWindow.1 := by
  obtain ⟨r, he, -⟩ | ⟨i, -, -, -, he⟩ := s.doDeleteWindow_cases <;> rw [he]
  · exact h
  · exact State.removeWindow_ringWf h i

/-- A lock level is nothing to the ring. -/
theorem lockEffect_ringWf {s u : State} (h : RingWf s) (hu : u = s ∨ ∃ i level, (s.window i).inUse = true ∧
    (s.window i).lock ≠ .tight ∧ u = s.setWindow i { s.window i with lock := level }) : RingWf u := by
  obtain rfl | ⟨i, level, -, -, rfl⟩ := hu
  · exact h
  · refine h.of_same rfl fun hv => State.ringValid_of_covered (s := s) rfl hv fun j hj => ⟨j, ?_⟩
    rw [State.setWindow_window]
    split
    · next hji => subst hji; exact hj
    · exact hj

/-! ## Writes of the page (R150, R153) -/

/-- A completion defines the ring, and makes its indices equal (R150, R153). -/
theorem State.completeRing_wf {s : State} (hmarks : s.notice.baseMark = true ∧ s.notice.lengthMark = true) : RingWf s.completeRing := by
  unfold State.completeRing
  exact (ringWf_iff _).2 ⟨State.judgeRing_coherent hmarks (fun hg => if_pos hg) (by simp), State.judgeRing_ready⟩

/-- The pair rule without a completion: a mark falls, or both marks are set only if they were before (R150). -/
theorem pairRule_marks (b l base length : Bool) (h : (pairRule b l base length).2.2 = false) :
    let b' := (pairRule b l base length).1
    let l' := (pairRule b l base length).2.1
    let drops := (b && !b') || (l && !l')
    (drops = true → ¬(b' = true ∧ l' = true)) ∧ (drops = false → ((b' = true ∧ l' = true) ↔ (b = true ∧ l = true))) := by
  revert h
  cases b <;> cases l <;> cases base <;> cases length <;> decide

theorem pairRule_completes (b l base length : Bool) (h : (pairRule b l base length).2.2 = true) :
    (pairRule b l base length).1 = true ∧ (pairRule b l base length).2.1 = true := by
  revert h
  cases b <;> cases l <;> cases base <;> cases length <;> decide

theorem State.ringIncomplete_notice (s : State) : s.ringIncomplete.notice =
    if s.notice.ring = .ready ∨ s.notice.ring = .invalid then { s.notice with ring := .incomplete } else s.notice := by
  unfold State.ringIncomplete
  split <;> simp [State.setRing]

/-- A consumer index write that the length in force permits, and one that it does not (R153). -/
theorem State.consumerWrite_wf {s : State} (h : RingWf s) : RingWf s.consumerWrite := by
  unfold State.consumerWrite
  simp only
  split
  · next hroom =>
    rw [ringWf_iff] at h ⊢
    obtain ⟨⟨hm, hl, -⟩, hv⟩ := h
    exact ⟨⟨hm, hl, hroom⟩, hv⟩
  · exact h.of_same (by simp [NoticeUnit.ringPart]) fun hv => by
      rw [State.ringValid_iff] at hv ⊢
      simpa [State.window] using hv

theorem State.ringWrite_wf {s : State} (h : RingWf s) (a : Nat) (l : List Lane) : RingWf (s.ringWrite a l) := by
  unfold State.ringWrite
  simp only
  split
  · next hc => exact State.completeRing_wf (pairRule_completes _ _ _ _ hc)
  · next hc =>
    obtain ⟨⟨hm, hl, hi⟩, hv⟩ := (ringWf_iff s).1 h
    have hrule := pairRule_marks s.notice.baseMark s.notice.lengthMark (s.touchesBase a l) (s.touchesLength a l) (Bool.eq_false_of_not_eq_true hc)
    have h2 : RingWf (if s.dropsMark a l then (s.setNotice (s.ringCopied a l)).ringIncomplete
        else s.setNotice (s.ringCopied a l)) := by
      rw [ringWf_iff]
      split
      · next hd =>
        have hmarks := hrule.1 hd
        rw [State.ringIncomplete_notice]
        split
        · next hr =>
          have hdefined : s.notice.ring ≠ .undefined := by rintro hu; simp [State.ringCopied, hu] at hr
          exact ⟨⟨by simpa [State.ringCopied, State.marksAfter] using hmarks, fun hg _ => hl hg hdefined, hi⟩, by simp⟩
        · next hr =>
          refine ⟨⟨?_, hl, hi⟩, fun hready => absurd (.inl hready) hr⟩
          exact ⟨fun hb => absurd hb hmarks, fun hb => absurd hb hr⟩
      · next hd =>
        have hmarks := hrule.2 (by simpa [State.dropsMark, State.marksAfter] using hd)
        refine ⟨⟨hmarks.trans hm, hl, hi⟩, fun hready => ?_⟩
        have := hv hready
        rw [State.ringValid_iff] at this ⊢
        exact this
    split
    · exact State.consumerWrite_wf h2
    · exact h2

theorem State.passWrite_ringWf {s : State} (h : RingWf s) (m : MasterId) (a : Address) (l : List Lane) : RingWf (s.passWrite m a l) := by
  unfold State.passWrite
  split
  · unfold State.pageWrite
    split
    · exact h.of_definitions (s.blockWrite_emits ..).keepsRing.ring (by simp only [State.blockWrite_windows]; exact .refl _)
    · have hcommand : RingWf (s.commandWrite a.toNat l) := h.of_notice (by simp) (by simp)
      exact (State.ringWrite_wf hcommand a.toNat l).of_notice (by simp) (by simp)
  split
  · exact h.of_definitions (s.windowWrite_keepsRing ..).ring (State.windowWrite_definitions ..)
  · exact h.of_notice (by simp) (by simp)

theorem State.finish_ringWf {s : State} (h : RingWf s) : RingWf s.finish :=
  h.of_definitions s.finish_keepsRing.ring (by rw [State.finish_windows]; exact .refl _)

theorem State.takeTransfer_ringWf {s : State} (h : RingWf s) (x : Transfer) : RingWf (s.takeTransfer x) := by
  have hidle : RingWf (s.setScratch .idle) := h.of_notice (by simp) (by simp)
  unfold State.takeTransfer
  refine State.finish_ringWf ?_
  cases x with
  | read m a n => exact hidle.of_definitions (State.passRead_keepsRing ..).ring (by rw [State.passRead_windows]; exact .refl _)
  | write m a l => exact State.passWrite_ringWf hidle m a l

/-! ## Every command -/

theorem present_ringWf {x : Transfer} {s t : State} (hs : RingWf s) (h : present x s = .next t) : RingWf t := by
  obtain rfl | ⟨-, -, rfl⟩ | ⟨-, -, rfl⟩ := present_cases h
  · exact hs
  · exact hs.of_notice (by simp) (by simp)
  · exact State.takeTransfer_ringWf hs x

theorem command_ringWf {k : Command} {s t : State} {f : State → State × ResultCode} (hf : ∀ u, RingWf u → RingWf (f u).1)
    (hs : RingWf s) (h : command k s f = .next t) : RingWf t := by
  obtain rfl | ⟨-, -, -, rfl⟩ := event_cases h
  · exact hs
  · have htaking : RingWf (s.beginEvent .command).take := hs.of_notice (by simp) (by simp)
    exact State.finish_ringWf ((hf _ htaking).of_notice (State.complete_notice ..) (State.complete_windows ..))

/-- The posting of a notice takes a free slot of the ring (R152). -/
theorem noticePost_ringWf {s t : State} (hs : RingWf s) (h : exec .noticePost s = .next t) : RingWf t := by
  simp only [exec] at h
  obtain rfl | ⟨-, hen, -, rfl⟩ := event_cases h
  · exact hs
  refine State.finish_ringWf ?_
  obtain ⟨⟨hm, hl, hi⟩, hv⟩ := (ringWf_iff s).1 hs
  simp only [NoticeUnit.canPost, Bool.and_eq_true, beq_iff_eq, decide_eq_true_eq] at hen
  obtain ⟨⟨hready, -⟩, hroom⟩ := hen
  have hgood := ((State.ringValid_iff s).1 (hv hready)).1
  have hlength := hl hgood (by simp [hready])
  split
  · rw [ringWf_iff]
    refine ⟨⟨hm, hl, ?_⟩, fun _ => (State.ringValid_iff _).2 ((State.ringValid_iff s).1 (hv hready))⟩
    show (s.notice.producer + 1 - s.notice.consumer).toNat ≤ s.notice.lengthInForce
    rw [hlength]
    bv_omega
  · exact hs.of_notice (by simp) (by simp)

/-- Settles O52, over the commands that move the ring; every other one leaves it alone and keeps the window that holds it. -/
theorem ringDefinitionKept : Obligations.RingDefinitionKept := by
  intro s t hs h
  refine step_keeps (P := RingWf) (fun _ _ h => h) (fun c s t hs h => ?_) hs h
  by_cases hm : movesRing c = false
  · have hr := (exec_keepsRing h hm).ring
    by_cases ht : movesTable c = false
    · exact hs.of_definitions hr (exec_definitions h ht)
    cases c
    case lockWindow =>
      simp only [exec] at h
      exact command_ringWf (fun u hu => lockEffect_ringWf hu u.doLockWindow_cases) hs h
    case unlockWindow =>
      simp only [exec] at h
      exact command_ringWf (fun u hu => lockEffect_ringWf hu u.doUnlockWindow_cases) hs h
    case powerOnReset | defineWindow | deleteWindow => cases hm
    all_goals exact absurd rfl ht
  cases c
  case powerOnReset b m =>
    refine powerOnReset_induction ?_ (fun u x hu => State.takeTransfer_ringWf hu x) h
    rw [ringWf_iff, State.powerOn_notice]
    exact ⟨⟨by simp [NoticeUnit.powerOn], by simp [NoticeUnit.powerOn], by simp [NoticeUnit.powerOn]⟩, by simp [NoticeUnit.powerOn]⟩
  case writeTransfer | ringBaseWrite | ringLengthWrite | consumerIndexWrite => exact present_ringWf hs h
  case controlPageWrite =>
    obtain h | rfl := controlPageWrite_cases h
    · exact present_ringWf hs h
    · exact hs
  case noticePost => exact noticePost_ringWf hs h
  case defineWindow => simp only [exec] at h; exact command_ringWf (fun _ => State.doDefineWindow_ringWf) hs h
  case deleteWindow => simp only [exec] at h; exact command_ringWf (fun _ => State.doDeleteWindow_ringWf) hs h
  all_goals exact absurd rfl hm

end Sys2Proof.Machine
end

section
/-! SUPPORT. The pending list of a crane through the operations on its slots (R54 to R57). -/

namespace Sys2Proof.Machine

/-! ## Slot records -/

/-- How many slots the crane's table has. -/
def Crane.slotCount (c : Crane) : Nat := (c.slots.getD []).length

theorem Crane.slot_of_count_le {c : Crane} {n : Nat} (h : c.slotCount ≤ n) : c.slot n = .setup := by
  rw [Crane.slot, List.getElem?_eq_none h]; rfl

theorem Crane.setSlot_slot (c : Crane) (n m : Nat) (x : Slot) :
    (c.setSlot n x).slot m = if m = n ∧ n < c.slotCount then x else c.slot m := by
  unfold Crane.slot Crane.setSlot Crane.slotCount
  cases hs : c.slots with
  | none => simp
  | some l =>
    simp only [Option.map_some, Option.getD_some, List.getElem?_set]
    by_cases hm : m = n
    · subst hm
      by_cases hl : m < l.length <;> simp [hl]
    · simp [hm, Ne.symm hm]

theorem Crane.setSlot_slotCount (c : Crane) (n : Nat) (x : Slot) : (c.setSlot n x).slotCount = c.slotCount := by
  unfold Crane.slotCount Crane.setSlot
  cases c.slots <;> simp

/-- A slot given a record that is not PENDING is not PENDING, in the table or not. -/
theorem Crane.setSlot_not_pending (c : Crane) (n : Nat) {x : Slot} (hx : x.state ≠ .pending) :
    ((c.setSlot n x).slot n).state ≠ .pending := by
  rw [Crane.setSlot_slot]
  split
  · exact hx
  · next h =>
    rw [c.slot_of_count_le (by simpa using h)]
    simp [Slot.setup]

/-! ## What a pending list says -/

/-- Slot m stands strictly before slot n (R55). -/
def Crane.Earlier (c : Crane) (m n : Nat) : Prop :=
  (c.slot m).deadline < (c.slot n).deadline ∨ ((c.slot m).deadline = (c.slot n).deadline ∧ (c.slot m).madeNo < (c.slot n).madeNo)

theorem Crane.Earlier.trans {c : Crane} {l m n : Nat} (h : c.Earlier l m) (h' : c.Earlier m n) : c.Earlier l n := by
  unfold Crane.Earlier at *
  omega

theorem Crane.Earlier.deadline_le {c : Crane} {m n : Nat} (h : c.Earlier m n) : (c.slot m).deadline ≤ (c.slot n).deadline := by
  unfold Crane.Earlier at h
  omega

/-- A pending list is kept where no slot's state, deadline and write number change. -/
theorem PendingWf.of_same {c d : Crane} (h : PendingWf c)
    (hs : ∀ n, (d.slot n).state = (c.slot n).state ∧ (d.slot n).deadline = (c.slot n).deadline ∧ (d.slot n).madeNo = (c.slot n).madeNo)
    (hl : d.pendingSlots = c.pendingSlots) (hm : d.madeCount = c.madeCount) : PendingWf d := by
  unfold PendingWf at h ⊢
  simp only [(hs _).1, (hs _).2.1, (hs _).2.2, hl, hm]
  exact h

/-- Fields beside the slot table are nothing to the pending list. -/
theorem PendingWf.of_fields {c d : Crane} (h : PendingWf c) (hs : d.slots = c.slots) (hl : d.pendingSlots = c.pendingSlots)
    (hm : d.madeCount = c.madeCount) : PendingWf d :=
  h.of_same (fun n => by simp [Crane.slot, hs]) hl hm

/-- A crane without PENDING slots has an empty pending list. -/
theorem PendingWf.of_none {c : Crane} (hs : ∀ n, (c.slot n).state ≠ .pending) (hl : c.pendingSlots = []) : PendingWf c := by
  refine ⟨fun n => by simp [hl, hs n], by simp [hl], by simp [hl], fun n hn => absurd hn (hs n), fun m n hm => absurd hm (hs m)⟩

/-- A slot that is no longer PENDING leaves the pending list. -/
theorem PendingWf.without {c d : Crane} {n : Nat} (h : PendingWf c) (hs : ∀ m, m ≠ n → d.slot m = c.slot m)
    (hn : (d.slot n).state ≠ .pending) (hl : d.pendingSlots = c.pendingSlots.filter (· != n)) (hm : d.madeCount = c.madeCount) :
    PendingWf d := by
  obtain ⟨hmem, hnodup, hsorted, hmax, hinj⟩ := h
  have hne : ∀ {m}, (d.slot m).state = .pending → m ≠ n := by rintro m hp rfl; exact hn hp
  refine ⟨fun m => ?_, hl ▸ hnodup.filter _, ?_, fun m hp => ?_, fun l m hp hq he => ?_⟩
  · rw [hl, List.mem_filter, hmem]
    by_cases hmn : m = n
    · subst hmn; simp [hn]
    · simp [hmn, hs m hmn]
  · rw [hl]
    refine (hsorted.filter (p := (· != n))).imp_of_mem fun {a b} ha hb hab => ?_
    have ha' : a ≠ n := by simpa using (List.mem_filter.1 ha).2
    have hb' : b ≠ n := by simpa using (List.mem_filter.1 hb).2
    rw [hs a ha', hs b hb']
    exact hab
  · have hmn := hne hp
    rw [hs m hmn] at hp ⊢
    rw [hm]
    exact hmax m hp
  · have hln := hne hp
    have hmn := hne hq
    rw [hs l hln, hs m hmn] at he
    rw [hs l hln] at hp
    rw [hs m hmn] at hq
    exact hinj l m hp hq he

theorem PendingWf.filter_eq_self {c : Crane} {n : Nat} (h : PendingWf c) (hn : (c.slot n).state ≠ .pending) :
    c.pendingSlots.filter (· != n) = c.pendingSlots := by
  refine List.filter_eq_self.2 fun m hm => ?_
  have hp := (h.1 m).1 hm
  simp only [bne_iff_ne, ne_eq]
  rintro rfl
  exact hn hp

/-- A touched slot leaves the pending list, if it was on it (R54). -/
theorem PendingWf.touchSlot_pendingSlots {c : Crane} (h : PendingWf c) (n : Nat) :
    (c.touchSlot n).pendingSlots = c.pendingSlots.filter (· != n) := by
  unfold Crane.touchSlot
  split
  · rfl
  · next hn => rw [h.filter_eq_self hn]

/-! ## The place of a slot in a list (R55) -/

theorem Crane.placeSlot_perm (c : Crane) (n : Nat) (l : List Nat) : (c.placeSlot n l).Perm (n :: l) := by
  induction l with
  | nil => exact .refl _
  | cons m rest ih =>
    unfold Crane.placeSlot
    split
    · exact (ih.cons m).trans (.swap ..)
    · exact .refl _

theorem Crane.slotBefore_iff (c : Crane) (m n : Nat) : c.slotBefore m n = true ↔ (c.slot m).deadline < (c.slot n).deadline ∨
    ((c.slot m).deadline = (c.slot n).deadline ∧ (c.slot m).madeNo ≤ (c.slot n).madeNo) := by
  simp [Crane.slotBefore]

theorem Crane.placeSlot_congr {c d : Crane} (h : c.slots = d.slots) (n : Nat) (l : List Nat) : c.placeSlot n l = d.placeSlot n l := by
  have hslot : c.slot = d.slot := by funext m; rw [Crane.slot, Crane.slot, h]
  have hbefore : ∀ a b, c.slotBefore a b = d.slotBefore a b := fun a b => by rw [Crane.slotBefore, Crane.slotBefore, hslot]
  induction l with
  | nil => rfl
  | cons m rest ih => rw [Crane.placeSlot, Crane.placeSlot, hbefore, ih]

/-- A slot placed in an ordered list of slots written at other times leaves it ordered. -/
theorem Crane.placeSlot_ordered {c : Crane} {n : Nat} {l : List Nat} (hl : l.Pairwise c.Earlier)
    (hn : ∀ m ∈ l, (c.slot m).madeNo ≠ (c.slot n).madeNo) : (c.placeSlot n l).Pairwise c.Earlier := by
  induction l with
  | nil => exact List.pairwise_singleton ..
  | cons m rest ih =>
    obtain ⟨hm, hrest⟩ := List.pairwise_cons.1 hl
    have hmn := hn m (by simp)
    unfold Crane.placeSlot
    split
    · next hb =>
      rw [Crane.slotBefore_iff] at hb
      refine List.pairwise_cons.2 ⟨fun x hx => ?_, ih hrest fun y hy => hn y (by simp [hy])⟩
      obtain rfl | hx := List.mem_cons.1 ((c.placeSlot_perm n rest).mem_iff.1 hx)
      · unfold Crane.Earlier; omega
      · exact hm x hx
    · next hb =>
      rw [Crane.slotBefore_iff] at hb
      have hnm : c.Earlier n m := by unfold Crane.Earlier; omega
      refine List.pairwise_cons.2 ⟨fun x hx => ?_, hl⟩
      obtain rfl | hx := List.mem_cons.1 hx
      · exact hnm
      · exact hnm.trans (hm x hx)

/-! ## A slot made PENDING (R49 to R55) -/

/-- A slot made PENDING takes the next write number and its place in the list. -/
theorem PendingWf.placed {c d : Crane} {n : Nat} (h : PendingWf c) (hs : ∀ m, m ≠ n → d.slot m = c.slot m)
    (hp : (d.slot n).state = .pending) (hno : (d.slot n).madeNo = c.madeCount + 1)
    (hl : d.pendingSlots = d.placeSlot n (c.pendingSlots.filter (· != n))) (hm : d.madeCount = c.madeCount + 1) : PendingWf d := by
  obtain ⟨hmem, hnodup, hsorted, hmax, hinj⟩ := h
  have hperm := d.placeSlot_perm n (c.pendingSlots.filter (· != n))
  rw [← hl] at hperm
  have hfilter : ∀ {m}, m ∈ c.pendingSlots.filter (· != n) ↔ m ≠ n ∧ (c.slot m).state = .pending := fun {m} => by
    rw [List.mem_filter, hmem]; simp [and_comm]
  have hold : ∀ {m}, m ≠ n → (d.slot m).state = .pending → (d.slot m).madeNo ≤ c.madeCount := fun {m} hmn hp => by
    rw [hs m hmn] at hp ⊢; exact hmax m hp
  refine ⟨fun m => ?_, hperm.nodup_iff.2 (List.nodup_cons.2 ⟨by simp, hnodup.filter _⟩), ?_, fun m hpm => ?_, fun l m hpl hpm he => ?_⟩
  · rw [hperm.mem_iff, List.mem_cons, hfilter]
    by_cases hmn : m = n
    · subst hmn; simp [hp]
    · simp [hmn, hs m hmn]
  · rw [hl]
    refine Crane.placeSlot_ordered ?_ fun m hmf => ?_
    · refine (hsorted.filter (p := (· != n))).imp_of_mem fun {a b} ha hb hab => ?_
      rw [Crane.Earlier, hs a (hfilter.1 ha).1, hs b (hfilter.1 hb).1]
      exact hab
    · obtain ⟨hmn, hpm⟩ := hfilter.1 hmf
      have := hold hmn (by rwa [hs m hmn])
      omega
  · by_cases hmn : m = n
    · subst hmn; omega
    · have := hold hmn hpm; omega
  · by_cases hln : l = n <;> by_cases hmn : m = n
    · rw [hln, hmn]
    · subst hln; have := hold hmn hpm; omega
    · subst hmn; have := hold hln hpl; omega
    · rw [hs l hln] at he hpl
      rw [hs m hmn] at he hpm
      exact hinj l m hpl hpm he

/-! ## The operations of the Downlink Supervisor -/

/-- The record that a fully written header beat gives its slot (R49 to R55). -/
def Crane.frameSlot (c : Crane) (size n t : Nat) (header : List Byte) : Slot :=
  { c.slot n with
    state := (c.judgeFrame size header).slotState
    sequence := (FrameHeader.read header).sequence
    writeTime := t
    lastVerdict := .hold
    deadline := if c.judgeFrame size header = .pending then c.deadlineAt t (FrameHeader.read header).validity else (c.slot n).deadline
    madeNo := if c.judgeFrame size header = .pending then c.madeCount + 1 else (c.slot n).madeNo }

theorem Crane.touchSlot_slots (c : Crane) (n : Nat) : (c.touchSlot n).slots = c.slots := by
  unfold Crane.touchSlot
  split <;> rfl

theorem Crane.fullWrite_slots (c : Crane) (size n t : Nat) (header : List Byte) :
    (c.fullWrite size n t header).slots = c.slots.map fun l => l.set n (c.frameSlot size n t header) := by
  rw [← c.touchSlot_slots n]; rfl

theorem Crane.fullWrite_slot (c : Crane) (size n t : Nat) (header : List Byte) (m : Nat) :
    (c.fullWrite size n t header).slot m = if m = n ∧ n < c.slotCount then c.frameSlot size n t header else c.slot m := by
  have h := c.setSlot_slot n m (c.frameSlot size n t header)
  rw [Crane.slot, Crane.setSlot] at h
  rw [← h, Crane.slot, c.fullWrite_slots]

theorem Crane.fullWrite_pendingSlots (c : Crane) (size n t : Nat) (header : List Byte) :
    (c.fullWrite size n t header).pendingSlots = if c.judgeFrame size header = .pending then
      (c.fullWrite size n t header).placeSlot n (c.touchSlot n).pendingSlots else (c.touchSlot n).pendingSlots := by
  conv_lhs => unfold Crane.fullWrite
  simp only
  split
  · next ho =>
    refine Crane.placeSlot_congr ?_ n _
    rw [c.fullWrite_slots, Crane.setSlot, c.touchSlot_slots]
    simp [Crane.frameSlot, ho]
  · rfl

section
variable {c : Crane} (h : PendingWf c)
include h

theorem PendingWf.afterExpiry (n : Nat) : PendingWf (c.afterExpiry n) :=
  h.without (n := n) (fun m hm => by
      have := c.setSlot_slot n m { c.slot n with state := .expired }
      rw [if_neg (by simp [hm])] at this
      exact this)
    (c.setSlot_not_pending n (x := { c.slot n with state := .expired }) (by simp)) rfl rfl

theorem PendingWf.passRead (n : Nat) : PendingWf (c.passRead n) :=
  h.without (n := n) (fun m hm => by
      have := c.setSlot_slot n m { c.slot n with state := .sent, lastVerdict := .pass }
      rw [if_neg (by simp [hm])] at this
      exact this)
    (c.setSlot_not_pending n (x := { c.slot n with state := .sent, lastVerdict := .pass }) (by simp)) rfl rfl

theorem PendingWf.holdRead (n : Nat) : PendingWf (c.holdRead n) := by
  refine h.of_same (fun m => ?_) rfl rfl
  have hslot : (c.holdRead n).slot m = (c.setSlot n { c.slot n with lastVerdict := .hold }).slot m := rfl
  rw [hslot, Crane.setSlot_slot]
  split
  · next hm => rw [hm.1]; exact ⟨rfl, rfl, rfl⟩
  · exact ⟨rfl, rfl, rfl⟩

theorem PendingWf.tornWrite (n t : Nat) : PendingWf (c.tornWrite n t) := by
  have hcount : (c.touchSlot n).madeCount = c.madeCount := by unfold Crane.touchSlot; split <;> rfl
  refine h.without (n := n) (fun m hm => ?_) ((c.touchSlot n).setSlot_not_pending n (by simp)) (h.touchSlot_pendingSlots n) hcount
  unfold Crane.tornWrite
  rw [Crane.setSlot_slot, if_neg (by simp [hm])]
  simp [Crane.slot, c.touchSlot_slots]

theorem PendingWf.fullWrite {n : Nat} (hn : n < c.slotCount) (size t : Nat) (header : List Byte) :
    PendingWf (c.fullWrite size n t header) := by
  have hother : ∀ m, m ≠ n → (c.fullWrite size n t header).slot m = c.slot m := fun m hm => by
    rw [c.fullWrite_slot, if_neg (by simp [hm])]
  have hself : (c.fullWrite size n t header).slot n = c.frameSlot size n t header := by
    rw [c.fullWrite_slot, if_pos ⟨rfl, hn⟩]
  have hlist := c.fullWrite_pendingSlots size n t header
  rw [h.touchSlot_pendingSlots] at hlist
  by_cases ho : c.judgeFrame size header = .pending
  · rw [if_pos ho] at hlist
    exact h.placed hother (by rw [hself]; simp [Crane.frameSlot, ho, HeaderOutcome.slotState])
      (by rw [hself]; simp [Crane.frameSlot, ho]) hlist (by simp [Crane.fullWrite, ho])
  · rw [if_neg ho] at hlist
    refine h.without hother ?_ hlist (by simp [Crane.fullWrite, ho])
    rw [hself]
    cases hj : c.judgeFrame size header <;> simp_all [Crane.frameSlot, HeaderOutcome.slotState]

end

end Sys2Proof.Machine
end

section
/-! SUPPORT. The link transitions and the judgements of a crane, as functions of its context (R57, R84 to R86). -/

namespace Sys2Proof.Machine

/-! ## Capped deadlines (R57) -/

/-- Slots written at different times, placed one by one, come out in order. -/
theorem Crane.placeAll_ordered {c : Crane} {l acc : List Nat} (hacc : acc.Pairwise c.Earlier)
    (hno : (acc ++ l).Pairwise fun m n => (c.slot m).madeNo ≠ (c.slot n).madeNo) :
    (l.foldl (fun a n => c.placeSlot n a) acc).Pairwise c.Earlier ∧ (l.foldl (fun a n => c.placeSlot n a) acc).Perm (acc ++ l) := by
  induction l generalizing acc with
  | nil => simpa using hacc
  | cons n rest ih =>
    have hperm : (c.placeSlot n acc ++ rest).Perm (acc ++ n :: rest) :=
      ((c.placeSlot_perm n acc).append_right rest).trans List.perm_middle.symm
    have hacc' : (c.placeSlot n acc).Pairwise c.Earlier := Crane.placeSlot_ordered hacc fun m hm =>
      (List.pairwise_append.1 hno).2.2 m hm n (by simp)
    obtain ⟨h1, h2⟩ := ih hacc' ((hperm.pairwise_iff Ne.symm).2 hno)
    exact ⟨h1, h2.trans hperm⟩

theorem Crane.capDeadlines_slot (c : Crane) (n : Nat) : c.capDeadlines.slot n = (c.slot n).capped c.params.cap := by
  have hsetup : Slot.setup = Slot.setup.capped c.params.cap := rfl
  unfold Crane.slot Crane.capDeadlines
  cases c.slots with
  | none => exact hsetup
  | some l => cases hn : l[n]? <;> simp [hn, ← hsetup]

theorem Slot.capped_fields (x : Slot) (cap : Nat) : (x.capped cap).state = x.state ∧ (x.capped cap).madeNo = x.madeNo ∧
    (x.capped cap).writeTime = x.writeTime := by
  unfold Slot.capped
  split <;> simp

/-- The capped pending list holds the same slots, in the order of their new deadlines. -/
theorem PendingWf.capDeadlines {c : Crane} (h : PendingWf c) :
    PendingWf c.capDeadlines ∧ c.capDeadlines.pendingSlots.length = c.pendingSlots.length := by
  obtain ⟨hmem, hnodup, hsorted, hmax, hinj⟩ := h
  have hstate : ∀ n, (c.capDeadlines.slot n).state = (c.slot n).state := fun n => by
    rw [c.capDeadlines_slot]; exact (Slot.capped_fields _ _).1
  have hmade : ∀ n, (c.capDeadlines.slot n).madeNo = (c.slot n).madeNo := fun n => by
    rw [c.capDeadlines_slot]; exact (Slot.capped_fields _ _).2.1
  have hno : ([] ++ c.pendingSlots).Pairwise fun m n => (c.capDeadlines.slot m).madeNo ≠ (c.capDeadlines.slot n).madeNo := by
    refine (List.nodup_iff_pairwise_ne.1 hnodup).imp_of_mem fun {m n} hm hn hmn he => hmn ?_
    rw [hmade, hmade] at he
    exact hinj m n ((hmem m).1 hm) ((hmem n).1 hn) he
  obtain ⟨hordered, hperm⟩ := Crane.placeAll_ordered (c := c.capDeadlines) .nil hno
  have hlist : c.capDeadlines.pendingSlots = c.pendingSlots.foldl (fun l n => c.capDeadlines.placeSlot n l) [] := by
    conv_lhs => unfold Crane.capDeadlines
    simp only
    congr 1
    funext l n
    refine Crane.placeSlot_congr ?_ n l
    rfl
  rw [← hlist] at hordered hperm
  rw [List.nil_append] at hperm
  refine ⟨⟨fun n => ?_, hperm.nodup_iff.2 hnodup, hordered, fun n hn => ?_, fun m n hm hn he => ?_⟩, hperm.length_eq⟩
  · rw [hperm.mem_iff, hmem, hstate]
  · rw [hmade]
    exact hmax n (hstate n ▸ hn)
  · rw [hmade, hmade] at he
    exact hinj m n (hstate m ▸ hm) (hstate n ▸ hn) he

/-! ## Expiries at the head of the list (R56, R57) -/

/-- The slot at the head of the pending list, if its deadline has passed at local time lt. -/
def Crane.passedHead (c : Crane) (lt : Nat) : Option Nat :=
  match c.pendingSlots.head? with
  | some n => if (c.slot n).state = .pending ∧ (c.slot n).deadline < lt then some n else none
  | none => none

/-- The crane after the slots at the head whose deadlines have passed have expired; the count bounds the slots looked at. -/
def Crane.expirePassed (c : Crane) (lt : Nat) : Nat → Crane
  | 0 => c
  | k + 1 => match c.passedHead lt with | some n => (c.afterExpiry n).expirePassed lt k | none => c

theorem Crane.afterExpiry_slot_other (c : Crane) {n m : Nat} (h : m ≠ n) : (c.afterExpiry n).slot m = c.slot m := by
  have := c.setSlot_slot n m { c.slot n with state := .expired }
  rwa [if_neg (by simp [h])] at this

theorem Crane.afterExpiry_slot_not_pending (c : Crane) (n : Nat) : ((c.afterExpiry n).slot n).state ≠ .pending :=
  c.setSlot_not_pending n (x := { c.slot n with state := .expired }) (by simp)

/-- The slots that have passed, from the head of the list on. -/
def Crane.passedSlots (c : Crane) (lt : Nat) : List Nat := c.pendingSlots.takeWhile fun n => decide ((c.slot n).deadline < lt)

theorem takeWhile_congr_of_mem {α : Type} {p q : α → Bool} {l : List α} (h : ∀ x ∈ l, p x = q x) : l.takeWhile p = l.takeWhile q := by
  induction l with
  | nil => rfl
  | cons x l ih => rw [List.takeWhile_cons, List.takeWhile_cons, h x (by simp), ih fun y hy => h y (by simp [hy])]

/-- The head of the list has not passed, or it expires and leaves the other passed slots passed. -/
theorem PendingWf.passedSlots_cases {c : Crane} (h : PendingWf c) (lt : Nat) :
    (c.passedHead lt = none ∧ c.passedSlots lt = []) ∨
    ∃ n, c.passedHead lt = some n ∧ c.passedSlots lt = n :: (c.afterExpiry n).passedSlots lt ∧
      (c.afterExpiry n).pendingSlots.length < c.pendingSlots.length := by
  cases hl : c.pendingSlots with
  | nil => simp [Crane.passedHead, Crane.passedSlots, hl]
  | cons n rest =>
    have hn : (c.slot n).state = .pending := (h.1 n).1 (by simp [hl])
    have hnodup : (n :: rest).Nodup := hl ▸ h.2.1
    have hrest : (c.afterExpiry n).pendingSlots = rest := by
      have hfilter : (c.afterExpiry n).pendingSlots = c.pendingSlots.filter (· != n) := rfl
      rw [hfilter, hl, List.filter_cons_of_neg (by simp), List.filter_eq_self]
      intro m hm
      have : m ≠ n := by rintro rfl; exact (List.nodup_cons.1 hnodup).1 hm
      simpa using this
    by_cases hd : (c.slot n).deadline < lt
    · refine .inr ⟨n, by simp [Crane.passedHead, hl, hn, hd], ?_, by rw [hrest]; simp⟩
      unfold Crane.passedSlots
      rw [hl, hrest, List.takeWhile_cons_of_pos (by simpa using hd)]
      congr 1
      refine takeWhile_congr_of_mem fun m hm => ?_
      rw [c.afterExpiry_slot_other (by rintro rfl; exact (List.nodup_cons.1 hnodup).1 hm)]
    · exact .inl (by simp [Crane.passedHead, Crane.passedSlots, hl, hd])

/-- What expires is what has passed at the head of the list. -/
theorem PendingWf.expirePassed {c : Crane} (h : PendingWf c) (lt : Nat) {k : Nat} (hk : c.pendingSlots.length ≤ k) :
    c.expirePassed lt k = (c.passedSlots lt).foldl Crane.afterExpiry c := by
  induction k generalizing c with
  | zero =>
    have hnil : c.pendingSlots = [] := List.length_eq_zero_iff.1 (by omega)
    simp [Crane.expirePassed, Crane.passedSlots, hnil]
  | succ k ih =>
    rw [Crane.expirePassed]
    obtain ⟨hhead, hslots⟩ | ⟨n, hhead, hslots, hlength⟩ := h.passedSlots_cases lt
    · rw [hhead, hslots]
      rfl
    · rw [hhead, hslots]
      exact ih (h.afterExpiry n) (by omega)

/-- The slots that are PENDING after the expiries have their old records, with deadlines that have not passed. -/
theorem PendingWf.expirePassed_pending {c : Crane} (h : PendingWf c) (lt : Nat) {k : Nat} (hk : c.pendingSlots.length ≤ k) {n : Nat}
    (hn : ((c.expirePassed lt k).slot n).state = .pending) :
    (c.expirePassed lt k).slot n = c.slot n ∧ lt ≤ (c.slot n).deadline := by
  induction k generalizing c with
  | zero =>
    have hnil : c.pendingSlots = [] := List.length_eq_zero_iff.1 (by omega)
    have := (h.1 n).2 hn
    simp [hnil] at this
  | succ k ih =>
    rw [Crane.expirePassed] at hn ⊢
    cases hp : c.passedHead lt with
    | some m =>
      rw [hp] at hn
      have hm : m ∈ c.pendingSlots := by
        unfold Crane.passedHead at hp
        split at hp
        · next x hx =>
          split at hp
          · obtain rfl : x = m := by simpa using hp
            exact List.mem_of_mem_head? hx
          · cases hp
        · cases hp
      have hlength : (c.afterExpiry m).pendingSlots.length ≤ k := by
        have hlist : (c.afterExpiry m).pendingSlots = c.pendingSlots.filter (· != m) := rfl
        have hlt : (c.pendingSlots.filter (· != m)).length < c.pendingSlots.length :=
          List.length_filter_lt_length_iff_exists.2 ⟨m, hm, by simp⟩
        rw [hlist]; omega
      obtain ⟨hslot, hd⟩ := ih (h.afterExpiry m) hlength hn
      have hnm : n ≠ m := by
        rintro rfl
        have hstate := hn
        simp only at hstate
        rw [hslot] at hstate
        exact c.afterExpiry_slot_not_pending n hstate
      rw [c.afterExpiry_slot_other hnm] at hslot hd
      exact ⟨hslot, hd⟩
    | none =>
      rw [hp] at hn
      refine ⟨rfl, ?_⟩
      have hmem := (h.1 n).2 hn
      cases hl : c.pendingSlots with
      | nil => simp [hl] at hmem
      | cons x rest =>
        have hx : (c.slot x).state = .pending := (h.1 x).1 (by simp [hl])
        have hlx : lt ≤ (c.slot x).deadline := by
          by_contra hcon
          simp [Crane.passedHead, hl, hx, Nat.lt_of_not_le hcon] at hp
        have hsorted : (x :: rest).Pairwise c.Earlier := hl ▸ h.2.2.1
        obtain rfl | hr := List.mem_cons.1 (hl ▸ hmem)
        · exact hlx
        · exact hlx.trans ((List.pairwise_cons.1 hsorted).1 n hr).deadline_le

theorem PendingWf.expirePassed_wf {c : Crane} (h : PendingWf c) (lt k : Nat) : PendingWf (c.expirePassed lt k) := by
  induction k generalizing c with
  | zero => exact h
  | succ k ih =>
    rw [Crane.expirePassed]
    split
    · exact ih (h.afterExpiry _)
    · exact h

/-- Expiries touch the slots, the pending list and the unsent count only. -/
theorem Crane.expirePassed_fields (c : Crane) (lt k : Nat) : (c.expirePassed lt k).link = c.link ∧
    (c.expirePassed lt k).params = c.params ∧ (c.expirePassed lt k).square = c.square ∧
    (c.expirePassed lt k).prevArrival = c.prevArrival ∧ (c.expirePassed lt k).heartbeat = c.heartbeat ∧
    (c.expirePassed lt k).slotCount = c.slotCount ∧ ((c.expirePassed lt k).slots.isSome = c.slots.isSome) := by
  induction k generalizing c with
  | zero => simp [Crane.expirePassed]
  | succ k ih =>
    rw [Crane.expirePassed]
    split
    · next n _ =>
      obtain ⟨h1, h2, h3, h4, h5, h6, h7⟩ := ih (c.afterExpiry n)
      have hcount : (c.afterExpiry n).slotCount = c.slotCount := c.setSlot_slotCount n { c.slot n with state := .expired }
      have hsome : (c.afterExpiry n).slots.isSome = c.slots.isSome := by simp [Crane.afterExpiry]
      exact ⟨h1, h2, h3, h4, h5, h6.trans hcount, h7.trans hsome⟩
    · simp

/-! ## The transitions and judgements (R84 to R86) -/

/-- The crane after its entry into DEGRADED at local time lt (R57). -/
def Crane.degradedAt (c : Crane) (lt : Nat) : Crane :=
  Crane.expirePassed ({ c with link := .degraded } : Crane).capDeadlines lt c.pendingSlots.length

/-- The crane after the judgement of R86 on its square's change of state. -/
def Crane.judgedOnSquare (c : Crane) (lt : Nat) (before after : SquareState) : Crane :=
  match c.link with
  | .linked => if after.weak then c.degradedAt lt else c
  | .degraded => if !after.weak && before.weak && !c.tooManyErrors then { c with link := .linked } else c
  | .lost => c
  | .dormant => c

/-- The crane after the judgement of R84 and R85 at the end of a record, in a weak square or not. -/
def Crane.judgedOnRecord (c : Crane) (lt : Nat) (own : UplinkOutcome) (weak : Bool) : Crane :=
  match c.link with
  | .lost =>
    if own = .good ∧ c.params.recover ≤ c.goodCount then
      if c.tooManyErrors || weak then c.degradedAt lt else { c with link := .linked }
    else c
  | .linked => if c.tooManyErrors || weak then c.degradedAt lt else c
  | .degraded => if c.tooManyErrors || weak then c else { c with link := .linked }
  | .dormant => c

theorem Crane.degradedAt_fields (c : Crane) (lt : Nat) : (c.degradedAt lt).link = .degraded ∧ (c.degradedAt lt).params = c.params ∧
    (c.degradedAt lt).square = c.square ∧ (c.degradedAt lt).prevArrival = c.prevArrival ∧ (c.degradedAt lt).heartbeat = c.heartbeat ∧
    (c.degradedAt lt).slotCount = c.slotCount ∧ (c.degradedAt lt).slots.isSome = c.slots.isSome := by
  obtain ⟨h1, h2, h3, h4, h5, h6, h7⟩ :=
    Crane.expirePassed_fields ({ c with link := .degraded } : Crane).capDeadlines lt c.pendingSlots.length
  refine ⟨h1, h2, h3, h4, h5, h6.trans ?_, h7.trans (by simp [Crane.capDeadlines])⟩
  unfold Crane.slotCount Crane.capDeadlines
  cases c.slots <;> simp

/-- An entry into DEGRADED keeps the pending list, and leaves no PENDING slot beyond its cap or passed (R57). -/
theorem PendingWf.degradedAt {c : Crane} (h : PendingWf c) (lt : Nat) : PendingWf (c.degradedAt lt) ∧
    ∀ n, ((c.degradedAt lt).slot n).state = .pending →
      ((c.degradedAt lt).slot n).deadline ≤ ((c.degradedAt lt).slot n).writeTime + 1000 * (c.degradedAt lt).params.cap ∧
      lt ≤ ((c.degradedAt lt).slot n).deadline := by
  have hlink : PendingWf ({ c with link := .degraded } : Crane) := h.of_fields rfl rfl rfl
  obtain ⟨hcapped, hlength⟩ := hlink.capDeadlines
  refine ⟨hcapped.expirePassed_wf lt _, fun n hn => ?_⟩
  obtain ⟨hslot, hlt⟩ := hcapped.expirePassed_pending lt hlength.le hn
  have hparams : (c.degradedAt lt).params = c.params := (c.degradedAt_fields lt).2.1
  have hslot' : (c.degradedAt lt).slot n = (c.slot n).capped c.params.cap := by
    rw [Crane.degradedAt, hslot, Crane.capDeadlines_slot]; rfl
  rw [Crane.capDeadlines_slot] at hlt
  rw [hparams, hslot'] 
  have hstate : (c.slot n).state = .pending := by
    have := hslot' ▸ hn
    rwa [(Slot.capped_fields _ _).1] at this
  refine ⟨?_, hlt⟩
  simp [Slot.capped, hstate]

end Sys2Proof.Machine
end

section
/-! SUPPORT. What the events of chapters 4 to 6 do to the crane contexts: the judgements of each crane by itself (R83 to R86). -/

namespace Sys2Proof.Machine

/-! ## Transitions -/

theorem State.crane_of_cranes {s t : State} (h : t.cranes = s.cranes) (i : Fin 16) : t.crane i = s.crane i := by
  rw [State.crane, State.crane, h]

theorem State.passedHead_eq (s : State) (i : Fin 16) : s.passedHead i = (s.crane i).passedHead s.time.lt := rfl

section
variable (s : State) (i j : Fin 16)

theorem State.expireSlot_crane (n : Nat) : (s.expireSlot i n).crane j = if j = i then (s.crane i).afterExpiry n else s.crane j := by
  unfold State.expireSlot
  rw [State.crane_of_cranes (State.raise_cranes ..), State.setCrane_crane]
  rfl

theorem State.expirePassed_crane (k : Nat) :
    (s.expirePassed i k).crane j = if j = i then (s.crane i).expirePassed s.time.lt k else s.crane j := by
  induction k generalizing s with
  | zero => split <;> simp_all [State.expirePassed, Crane.expirePassed]
  | succ k ih =>
    rw [State.expirePassed, Crane.expirePassed, State.passedHead_eq]
    cases (s.crane i).passedHead s.time.lt with
    | some n =>
      simp only
      rw [ih, State.expireSlot_time, s.expireSlot_crane i i, s.expireSlot_crane i j, if_pos rfl]
      split <;> rfl
    | none => split <;> simp_all

theorem State.enterDegraded_crane : (s.enterDegraded i).crane j = if j = i then (s.crane i).degradedAt s.time.lt else s.crane j := by
  have hcapped : ∀ k a b c, ((s.setCrane i ({ s.crane i with link := .degraded } : Crane).capDeadlines).raise k i.val a b c).crane j =
      if j = i then ({ s.crane i with link := .degraded } : Crane).capDeadlines else s.crane j := fun k a b c => by
    rw [State.crane_of_cranes (State.raise_cranes ..), State.setCrane_crane]
  unfold State.enterDegraded
  simp only
  rw [State.crane_of_cranes (State.writeCraneMirror_cranes ..), State.expirePassed_crane]
  split
  · next hj =>
    subst hj
    rw [hcapped, if_pos rfl]
    rfl
  · next hj => rw [hcapped, if_neg hj]

theorem State.enterLinked_crane (k : NoticeKind) :
    (s.enterLinked i k).crane j = if j = i then { s.crane i with link := .linked } else s.crane j := by
  unfold State.enterLinked
  rw [State.crane_of_cranes (State.writeCraneMirror_cranes ..), State.crane_of_cranes (State.raise_cranes ..), State.setCrane_crane]

theorem State.judgeOnSquare_crane (before after : SquareState) : (s.judgeOnSquare i before after).crane j =
    if j = i then (s.crane i).judgedOnSquare s.time.lt before after else s.crane j := by
  have hsame : s.crane j = if j = i then s.crane i else s.crane j := by split <;> simp_all
  unfold State.judgeOnSquare Crane.judgedOnSquare
  simp only
  cases (s.crane i).link with
  | linked =>
    by_cases hw : after.weak = true
    · rw [if_pos hw, if_pos hw]
      exact s.enterDegraded_crane i j
    · rw [if_neg hw, if_neg hw]
      exact hsame
  | degraded =>
    by_cases hr : (!after.weak && before.weak && !(s.crane i).tooManyErrors) = true
    · rw [if_pos hr, if_pos hr]
      exact s.enterLinked_crane i j _
    · rw [if_neg hr, if_neg hr]
      exact hsame
  | lost | dormant => exact hsame

/-- A change of a square's state judges each crane by itself (R86). -/
theorem State.reportSquare_crane (q : Fin 512) (before after : SquareState) : (s.reportSquare q before after).crane j =
    if (s.crane j).square = some q then (s.crane j).judgedOnSquare s.time.lt before after else s.crane j := by
  have hfold : ∀ (l : List (Fin 16)) (t : State), l.Nodup → (l.foldl (fun t i => if (t.crane i).square = some q then
        t.judgeOnSquare i before after else t) t).crane j =
      if j ∈ l ∧ (t.crane j).square = some q then (t.crane j).judgedOnSquare t.time.lt before after else t.crane j := by
    intro l
    induction l with
    | nil => simp
    | cons i l ih =>
      intro t hl
      obtain ⟨hi, hl⟩ := List.nodup_cons.1 hl
      rw [List.foldl_cons, ih _ hl]
      by_cases hq : (t.crane i).square = some q
      · rw [if_pos hq, State.judgeOnSquare_time, State.judgeOnSquare_crane]
        by_cases hji : j = i
        · subst hji; simp [hi, hq]
        · simp [hji]
      · rw [if_neg hq]
        by_cases hji : j = i
        · subst hji; simp [hi, hq]
        · simp [hji]
  have := hfold (List.finRange 16) s (List.nodup_finRange 16)
  simpa [State.reportSquare] using this

theorem State.judgeOnRecord_crane (own : UplinkOutcome) : (s.judgeOnRecord i own).crane j =
    if j = i then (s.crane i).judgedOnRecord s.time.lt own (s.weakSquare i) else s.crane j := by
  have hsame : s.crane j = if j = i then s.crane i else s.crane j := by split <;> simp_all
  unfold State.judgeOnRecord Crane.judgedOnRecord
  simp only
  have hlinked : ∀ k, (s.enterLinked i k).crane j = if j = i then { s.crane i with link := .linked } else s.crane j :=
    fun k => s.enterLinked_crane i j k
  cases (s.crane i).link with
  | lost =>
    simp only
    by_cases hg : own = .good ∧ (s.crane i).params.recover ≤ (s.crane i).goodCount
    · rw [if_pos hg, if_pos hg]
      by_cases hb : ((s.crane i).tooManyErrors || s.weakSquare i) = true
      · rw [if_pos hb, if_pos hb]
        exact s.enterDegraded_crane i j
      · rw [if_neg hb, if_neg hb]
        exact hlinked _
    · rw [if_neg hg, if_neg hg]
      exact hsame
  | linked =>
    simp only
    by_cases hb : ((s.crane i).tooManyErrors || s.weakSquare i) = true
    · rw [if_pos hb, if_pos hb]
      exact s.enterDegraded_crane i j
    · rw [if_neg hb, if_neg hb]
      exact hsame
  | degraded =>
    simp only
    by_cases hb : ((s.crane i).tooManyErrors || s.weakSquare i) = true
    · rw [if_pos hb, if_pos hb]
      exact hsame
    · rw [if_neg hb, if_neg hb]
      exact hlinked _
  | dormant => exact hsame

end

/-! ## Events that judge cranes by their squares only -/

/-- The crane after some judgements of R86 at local time lt. -/
inductive Crane.Judged (lt : Nat) (c : Crane) : Crane → Prop
  | refl : Crane.Judged lt c c
  | judge {d : Crane} (before after : SquareState) (h : Crane.Judged lt c d) : Crane.Judged lt c (d.judgedOnSquare lt before after)

theorem Crane.Judged.trans {lt : Nat} {c d e : Crane} (h : c.Judged lt d) (h' : d.Judged lt e) : c.Judged lt e := by
  induction h' with
  | refl => exact h
  | judge before after _ ih => exact ih.judge before after

/-- What every judgement keeps, some judgements keep. -/
theorem Crane.Judged.induction {P : Crane → Prop} {lt : Nat} {c d : Crane} (h : c.Judged lt d) (hc : P c)
    (hjudge : ∀ e before after, P e → P (e.judgedOnSquare lt before after)) : P d := by
  induction h with
  | refl => exact hc
  | judge before after _ ih => exact hjudge _ _ _ ih

/-- Every crane has been judged at the unchanged local time, and nothing else has happened to it. -/
structure CranesJudged (s t : State) : Prop where
  lt : t.time.lt = s.time.lt
  crane : ∀ i, (s.crane i).Judged s.time.lt (t.crane i)

theorem CranesJudged.trans {s t u : State} (h : CranesJudged s t) (h' : CranesJudged t u) : CranesJudged s u :=
  ⟨h'.lt.trans h.lt, fun i => (h.crane i).trans (h.lt ▸ h'.crane i)⟩

theorem CranesJudged.of_same {s t : State} (hc : t.cranes = s.cranes) (ht : t.time = s.time) : CranesJudged s t :=
  ⟨by rw [ht], fun i => by rw [State.crane_of_cranes hc]; exact .refl⟩

theorem CranesJudged.refl (s : State) : CranesJudged s s := .of_same rfl rfl

theorem CranesJudged.foldl {α : Type} {f : State → α → State} (hf : ∀ u x, CranesJudged u (f u x)) (l : List α) (s : State) :
    CranesJudged s (l.foldl f s) := by
  induction l generalizing s with
  | nil => exact .refl s
  | cons x l ih => exact (hf s x).trans (ih _)

section
variable (s : State)

theorem State.setSquare_judged (q : Fin 512) (x : Square) : CranesJudged s (s.setSquare q x) := .of_same rfl rfl

theorem State.setGrid_judged (g : Grid) : CranesJudged s (s.setGrid g) := .of_same rfl rfl

theorem State.reportSquare_judged (q : Fin 512) (before after : SquareState) : CranesJudged s (s.reportSquare q before after) := by
  refine ⟨by simp, fun i => ?_⟩
  rw [State.reportSquare_crane]
  split
  · exact .judge _ _ .refl
  · exact .refl

theorem State.afterRecompute_judged (q : Fin 512) (old : Square) : CranesJudged s (s.afterRecompute q old) := by
  unfold State.afterRecompute
  simp only
  have h1 : CranesJudged s (if (s.square q).state = old.state then s else s.raise .squareState q.val (word old.state.code)
      (word (s.square q).state.code) (wordI ((s.square q).bestEstimate.getD 0))) := by
    split
    · exact .refl s
    · exact .of_same (State.raise_cranes ..) (State.raise_time ..)
  have h2 : ∀ u : State, CranesJudged u
      (if (s.square q).state = old.state ∧ (s.square q).best = old.best then u else u.writeGridMirror q) := by
    intro u
    split
    · exact .refl u
    · exact .of_same (State.writeGridMirror_cranes ..) (State.writeGridMirror_time ..)
  have h3 : ∀ u : State, CranesJudged u
      (if (s.square q).state = old.state then u else u.reportSquare q old.state (s.square q).state) := by
    intro u
    split
    · exact .refl u
    · exact u.reportSquare_judged ..
  exact (h1.trans (h2 _)).trans (h3 _)

theorem State.changeSquare_judged (q : Fin 512) (entries : Vector CellEntry 24) : CranesJudged s (s.changeSquare q entries) := by
  unfold State.changeSquare
  exact (s.setSquare_judged ..).trans (State.afterRecompute_judged ..)

theorem State.sample_judged (segment band identity : Nat) (level : Int) (arrival : Nat) (src : SampleSource) :
    CranesJudged s (s.sample segment band identity level arrival src) := by
  unfold State.sample
  simp only
  split
  · exact s.changeSquare_judged ..
  · exact .of_same (by simp) (by simp)

theorem State.measureRecord_judged (bytes : List Byte) (arrival : Nat) : CranesJudged s (s.measureRecord bytes arrival) := by
  unfold State.measureRecord
  simp only
  split
  · exact .of_same rfl rfl
  · refine (s.setGrid_judged _).trans (CranesJudged.foldl (fun u x => ?_) _ _)
    unfold State.measurePair
    split
    · exact .refl u
    · exact u.sample_judged ..

theorem State.ageSquare_judged (q : Fin 512) : CranesJudged s (s.ageSquare q) := by
  unfold State.ageSquare
  exact (s.setGrid_judged _).trans (State.changeSquare_judged ..)

theorem State.clearPlace_judged (c : Fin 24) : CranesJudged s (s.clearPlace c) := by
  unfold State.clearPlace
  exact (s.setGrid_judged _).trans (CranesJudged.foldl (fun u _ => u.changeSquare_judged _ _) _ _)

theorem State.clearSquare_judged (q : Fin 512) : CranesJudged s (s.clearSquare q) := by
  unfold State.clearSquare
  simp only
  have h : CranesJudged s ((s.setGrid { s.grid with clearPosition := q.val + 1 }).changeSquare q (Vector.replicate 24 .absent)) :=
    (s.setGrid_judged _).trans (State.changeSquare_judged ..)
  split
  · exact h.trans (.of_same (by simp) (by simp))
  · exact h

end

end Sys2Proof.Machine
end

section
/-! SUPPORT. What an uplink record does to the crane contexts (R75 to R85). -/

namespace Sys2Proof.Machine

/-! ## Steps of a record -/

/-- The crane after outcomes have joined its error window (R80). -/
def Crane.WithOutcomes (c d : Crane) : Prop := ∃ errors goodCount, d = { c with errors, goodCount }

theorem Crane.WithOutcomes.refl (c : Crane) : c.WithOutcomes c := ⟨_, _, rfl⟩

theorem Crane.WithOutcomes.giveOutcome {c d : Crane} (h : c.WithOutcomes d) (o : UplinkOutcome) : c.WithOutcomes (d.giveOutcome o) := by
  obtain ⟨e, g, rfl⟩ := h
  exact ⟨_, _, rfl⟩

/-- The square is in a weak state; no square is not (4.6). -/
def State.weakAt (s : State) (x : Option (Fin 512)) : Bool :=
  match x with
  | some q => (s.square q).state.weak
  | none => false

theorem State.weakSquare_eq (s : State) (i : Fin 16) : s.weakSquare i = s.weakAt (s.crane i).square := rfl

theorem State.weakAt_of_grid {s t : State} (h : t.grid = s.grid) (x : Option (Fin 512)) : t.weakAt x = s.weakAt x := by
  simp only [State.weakAt, State.square, h]

/-- Two states agree but for crane i, which is d in the second, and for notices and own writes. -/
structure OnlyCrane (s t : State) (i : Fin 16) (d : Crane) : Prop where
  crane : ∀ j, t.crane j = if j = i then d else s.crane j
  grid : t.grid = s.grid
  time : t.time = s.time

theorem OnlyCrane.self {s t : State} {i : Fin 16} {d : Crane} (h : OnlyCrane s t i d) : t.crane i = d := by rw [h.crane, if_pos rfl]

theorem OnlyCrane.trans {s t u : State} {i : Fin 16} {d e : Crane} (h : OnlyCrane s t i d) (h' : OnlyCrane t u i e) :
    OnlyCrane s u i e := by
  refine ⟨fun j => ?_, h'.grid.trans h.grid, h'.time.trans h.time⟩
  rw [h'.crane, h.crane]
  split <;> rfl

/-- What touches neither the cranes nor the grid afterwards makes no difference. -/
theorem OnlyCrane.after {s t u : State} {i : Fin 16} {d : Crane} (h : OnlyCrane s t i d) (hc : u.cranes = t.cranes)
    (hg : u.grid = t.grid) (ht : u.time = t.time) : OnlyCrane s u i d :=
  ⟨fun j => (State.crane_of_cranes hc j).trans (h.crane j), hg.trans h.grid, ht.trans h.time⟩

theorem OnlyCrane.before {r s t : State} {i : Fin 16} {d : Crane} (h : OnlyCrane s t i d) (hc : s.cranes = r.cranes)
    (hg : s.grid = r.grid) (ht : s.time = r.time) : OnlyCrane r t i d :=
  ⟨fun j => by rw [h.crane, State.crane_of_cranes hc], h.grid.trans hg, h.time.trans ht⟩

theorem OnlyCrane.of_same {s t : State} (i : Fin 16) (hc : t.cranes = s.cranes) (hg : t.grid = s.grid) (ht : t.time = s.time) :
    OnlyCrane s t i (s.crane i) := by
  refine ⟨fun j => ?_, hg, ht⟩
  rw [State.crane_of_cranes hc]
  split <;> simp_all

section
variable (s : State) (i : Fin 16)

theorem State.setCrane_onlyCrane (c : Crane) : OnlyCrane s (s.setCrane i c) i c := ⟨fun j => s.setCrane_crane i j c, rfl, rfl⟩

theorem State.giveOutcome_onlyCrane (o : UplinkOutcome) : OnlyCrane s (s.giveOutcome i o) i ((s.crane i).giveOutcome o) := by
  have h := s.setCrane_onlyCrane i ((s.crane i).giveOutcome o)
  unfold State.giveOutcome
  simp only
  split
  · exact h.after (State.setFlag_cranes ..) (State.setFlag_grid ..) (State.setFlag_time ..)
  · exact h

theorem State.giveMissing_onlyCrane (k : Nat) : ∃ d, (s.crane i).WithOutcomes d ∧ OnlyCrane s (s.giveMissing i k) i d := by
  suffices h : ∀ (k : Nat) (u : State) (c : Crane), (s.crane i).WithOutcomes c → OnlyCrane s u i c →
      ∃ d, (s.crane i).WithOutcomes d ∧ OnlyCrane s (u.giveMissing i k) i d from
    h k s _ (.refl _) (.of_same i rfl rfl rfl)
  intro k
  induction k with
  | zero => exact fun u c hc hu => ⟨c, hc, hu⟩
  | succ k ih =>
    intro u c hc hu
    have hgive := u.giveOutcome_onlyCrane i .missing
    rw [hu.self] at hgive
    exact ih (u.giveOutcome i .missing) _ (hc.giveOutcome .missing) (hu.trans hgive)

theorem State.judgeOnRecord_onlyCrane (own : UplinkOutcome) :
    OnlyCrane s (s.judgeOnRecord i own) i ((s.crane i).judgedOnRecord s.time.lt own (s.weakSquare i)) :=
  ⟨fun j => s.judgeOnRecord_crane i j own, State.judgeOnRecord_grid .., State.judgeOnRecord_time ..⟩

theorem State.steerCheck_onlyCrane (arrival : Nat) :
    ∃ hold, OnlyCrane s (s.steerCheck i arrival) i { s.crane i with steerHoldoff := hold } := by
  have hsame : OnlyCrane s s i { s.crane i with steerHoldoff := (s.crane i).steerHoldoff } := .of_same i rfl rfl rfl
  unfold State.steerCheck
  simp only
  split
  · split
    · split
      · refine ⟨some (arrival + 1000000 * s.grid.params.steerHoldoff), ?_⟩
        exact (s.setCrane_onlyCrane i _).after (State.raise_cranes ..) (State.raise_grid ..) (State.raise_time ..)
      · exact ⟨_, hsame⟩
    · exact ⟨_, hsame⟩
  · exact ⟨_, hsame⟩

end

/-! ## A whole record -/

/-- Everything an uplink record can do to the cranes and the grid: nothing (R75); an outcome and a judgement (R76, R80, R85); or, for a used
record, its outcomes and values, the sample, a judgement, and the steer check (R79). -/
inductive UplinkMove (s t : State) (i : Fin 16) : Prop
  | discarded (hc : t.cranes = s.cranes) (hg : t.grid = s.grid)
  | unused (c : Crane) (o : UplinkOutcome) (ho : o ≠ .good) (hc : (s.crane i).WithOutcomes c)
      (h : OnlyCrane s t i (c.judgedOnRecord s.time.lt o (s.weakAt c.square)))
  | used (c : Crane) (x : UplinkHeader) (arrival : Nat) (now : Stamp) (own : UplinkOutcome) (u v : State) (hold : Option Nat)
      (hc : (s.crane i).WithOutcomes c) (hu : OnlyCrane s u i (c.used x arrival s.grid.params.segmentCount now))
      (hv : v = u ∨ ∃ segment level source, v = u.sample segment x.band x.serving level arrival source)
      (h : OnlyCrane v t i { (v.crane i).judgedOnRecord s.time.lt own (v.weakSquare i) with steerHoldoff := hold })

theorem Crane.judgeHeader_unused {c : Crane} {bytes : List Byte} {o : UplinkOutcome} (h : c.judgeHeader bytes = .unused o) :
    o ≠ .good := by
  rintro rfl
  unfold Crane.judgeHeader at h
  simp only at h
  split at h
  · cases h
  split at h
  · cases h
  split at h
  · cases h
  split at h <;> cases h

theorem State.judgeUplink_move (s : State) (i : Fin 16) (bytes : List Byte) (arrival : Nat) :
    UplinkMove s (s.judgeUplink i bytes arrival) i := by
  unfold State.judgeUplink
  split
  · next o ho =>
    have hgive := s.giveOutcome_onlyCrane i o
    have hjudge := (s.giveOutcome i o).judgeOnRecord_onlyCrane i o
    rw [State.weakSquare_eq, hgive.self, hgive.time, State.weakAt_of_grid hgive.grid] at hjudge
    exact .unused _ o (Crane.judgeHeader_unused ho) (Crane.WithOutcomes.giveOutcome (.refl _) o) (hgive.trans hjudge)
  · next missing _ =>
    simp only
    generalize (if (s.crane i).early arrival = true then UplinkOutcome.cadence else UplinkOutcome.good) = own
    obtain ⟨d, hd, hmissing⟩ := s.giveMissing_onlyCrane i missing
    have hgive := (s.giveMissing i missing).giveOutcome_onlyCrane i own
    rw [hmissing.self] at hgive
    have houtcomes := hmissing.trans hgive
    generalize (s.giveMissing i missing).giveOutcome i own = w at houtcomes
    unfold State.useRecord
    simp only
    rw [houtcomes.self, houtcomes.grid]
    generalize hu : (w.setCrane i _).setScratch _ = u
    have hused : OnlyCrane s u i ((d.giveOutcome own).used (UplinkHeader.read bytes) arrival s.grid.params.segmentCount w.stamp) := by
      rw [← hu]
      exact houtcomes.trans ⟨fun j => w.setCrane_crane i j _, rfl, rfl⟩
    generalize hv : (if (UplinkHeader.read bytes).serving = 0 then u else _ : State) = v
    have hsample : v = u ∨ ∃ segment level source, v = u.sample segment (UplinkHeader.read bytes).band
        (UplinkHeader.read bytes).serving level arrival source := by
      rw [← hv]
      split
      · exact .inl rfl
      · exact .inr ⟨_, _, _, rfl⟩
    have htime : v.time = s.time := by
      obtain rfl | ⟨_, _, _, rfl⟩ := hsample
      · exact hused.time
      · rw [State.sample_time]; exact hused.time
    have hjudge := v.judgeOnRecord_onlyCrane i own
    obtain ⟨hold, hsteer⟩ := (v.judgeOnRecord i own).steerCheck_onlyCrane i arrival
    rw [hjudge.self] at hsteer
    rw [htime] at hjudge hsteer
    exact .used _ _ arrival w.stamp own u v hold (hd.giveOutcome own) hused hsample (hjudge.trans hsteer)

/-- What touches neither the cranes nor the grid, before the record or after it, makes no difference. -/
theorem UplinkMove.between {r s t u : State} {i : Fin 16} (h : UplinkMove s t i)
    (hs : s.cranes = r.cranes ∧ s.grid = r.grid ∧ s.time = r.time) (hu : u.cranes = t.cranes ∧ u.grid = t.grid ∧ u.time = t.time) :
    UplinkMove r u i := by
  obtain ⟨hsc, hsg, hst⟩ := hs
  obtain ⟨huc, hug, hut⟩ := hu
  have hcrane := State.crane_of_cranes hsc i
  cases h with
  | discarded hc hg => exact .discarded (huc.trans (hc.trans hsc)) (hug.trans (hg.trans hsg))
  | unused c o ho hc h =>
    rw [hcrane] at hc
    rw [hst, State.weakAt_of_grid hsg] at h
    exact .unused c o ho hc ((h.before hsc hsg hst).after huc hug hut)
  | used c x a now own v w hold hc hv hw h =>
    rw [hcrane] at hc
    rw [hsg] at hv
    rw [hst] at h
    exact .used c x a now own v w hold hc (hv.before hsc hsg hst) hw (h.after huc hug hut)

theorem State.uplinkRecord_move (s : State) (i : Fin 16) (bytes : List Byte) (arrival : Nat) :
    UplinkMove s (s.uplinkRecord i bytes arrival) i := by
  unfold State.uplinkRecord
  split
  · exact .discarded rfl rfl
  · simp only
    have hmove := (s.setScratch { s.scratch with deferred := some i, craneDue := false }).judgeUplink_move i bytes arrival
    generalize (s.setScratch { s.scratch with deferred := some i, craneDue := false }).judgeUplink i bytes arrival = w at hmove
    split
    · exact hmove.between ⟨rfl, rfl, rfl⟩ ⟨by simp, by simp, by simp⟩
    · exact hmove.between ⟨rfl, rfl, rfl⟩ ⟨rfl, rfl, rfl⟩

end Sys2Proof.Machine
end

section
/-! SUPPORT. The slot tables and pending lists through every command (R44, R54 to R57, R66, R67). -/

namespace Sys2Proof.Machine

/-! ## What a command keeps of one crane -/

/-- A slot table of the second context is one of the first, of as many slots. -/
def Crane.KeepsTable (c d : Crane) : Prop := ∀ l', d.slots = some l' → ∃ l, c.slots = some l ∧ l.length = l'.length

theorem Crane.KeepsTable.refl (c : Crane) : c.KeepsTable c := fun l' h => ⟨l', h, rfl⟩

theorem Crane.KeepsTable.trans {c d e : Crane} (h : c.KeepsTable d) (h' : d.KeepsTable e) : c.KeepsTable e := by
  intro l' hl'
  obtain ⟨l, hl, hlength⟩ := h' l' hl'
  obtain ⟨l0, hl0, hlength0⟩ := h l hl
  exact ⟨l0, hl0, hlength0.trans hlength⟩

theorem Crane.KeepsTable.of_slots {c d : Crane} (h : d.slots = c.slots) : c.KeepsTable d := fun l' hl' => ⟨l', h ▸ hl', rfl⟩

theorem Crane.KeepsTable.of_none {c d : Crane} (h : d.slots = none) : c.KeepsTable d := fun l' hl' => by rw [h] at hl'; cases hl'

theorem Crane.KeepsTable.of_map {c d : Crane} {f : List Slot → List Slot} (h : d.slots = c.slots.map f)
    (hf : ∀ l, (f l).length = l.length) : c.KeepsTable d := by
  intro l' hl'
  rw [h] at hl'
  obtain ⟨l, hl, rfl⟩ := Option.map_eq_some_iff.1 hl'
  exact ⟨l, hl, (hf l).symm⟩

theorem Crane.KeepsTable.of_count {c d : Crane} (h : d.slotCount = c.slotCount) (hs : d.slots.isSome = c.slots.isSome) :
    c.KeepsTable d := by
  intro l' hl'
  unfold Crane.slotCount at h
  rw [hl'] at h hs
  cases hc : c.slots with
  | none => simp [hc] at hs
  | some l => exact ⟨l, rfl, by simpa [hc] using h.symm⟩

/-- No PENDING slot is beyond its cap or passed at local time lt (R57). -/
def Crane.Capped (c : Crane) (lt : Nat) : Prop :=
  ∀ n, (c.slot n).state = .pending → (c.slot n).deadline ≤ (c.slot n).writeTime + 1000 * c.params.cap ∧ lt ≤ (c.slot n).deadline

/-- What a command at local time lt keeps of crane c, which becomes d: its pending list, the cap of an entry into DEGRADED, and the size of
its slot table. -/
structure Crane.DownKept (lt : Nat) (c d : Crane) : Prop where
  pending : PendingWf d
  capped : c.link ≠ .degraded → d.link = .degraded → d.Capped lt
  table : c.KeepsTable d

namespace Crane.DownKept
variable {lt : Nat} {c d e : Crane}

theorem start (h : PendingWf c) : DownKept lt c c := ⟨h, fun h h' => absurd h' h, .refl c⟩

/-- Work on the slots of a crane whose link state stays as it is. -/
theorem of_link (h : PendingWf d) (hl : d.link = c.link) (ht : c.KeepsTable d) : DownKept lt c d :=
  ⟨h, fun hn hd => absurd (hl ▸ hd) hn, ht⟩

theorem fields (h : DownKept lt c d) (hs : e.slots = d.slots) (hp : e.pendingSlots = d.pendingSlots) (hm : e.madeCount = d.madeCount)
    (hparams : e.params = d.params) (hl : e.link = d.link ∨ e.link ≠ .degraded) : DownKept lt c e := by
  refine ⟨h.pending.of_fields hs hp hm, fun hn hd => ?_, h.table.trans (.of_slots hs)⟩
  obtain hl | hl := hl
  · have := h.capped hn (hl ▸ hd)
    simpa only [Crane.Capped, Crane.slot, hs, hparams] using this
  · exact absurd hd hl

theorem degradedAt (h : DownKept lt c d) : DownKept lt c (d.degradedAt lt) := by
  obtain ⟨hp, hc⟩ := h.pending.degradedAt lt
  obtain ⟨-, -, -, -, -, hcount, hsome⟩ := d.degradedAt_fields lt
  exact ⟨hp, fun _ _ => hc, h.table.trans (.of_count hcount hsome)⟩

theorem linked (h : DownKept lt c d) : DownKept lt c { d with link := .linked } := h.fields rfl rfl rfl rfl (.inr (by simp))

theorem judgedOnSquare (h : DownKept lt c d) (before after : SquareState) : DownKept lt c (d.judgedOnSquare lt before after) := by
  unfold Crane.judgedOnSquare
  split
  · split
    · exact h.degradedAt
    · exact h
  · split
    · exact h.linked
    · exact h
  · exact h
  · exact h

theorem judgedOnRecord (h : DownKept lt c d) (own : UplinkOutcome) (weak : Bool) : DownKept lt c (d.judgedOnRecord lt own weak) := by
  unfold Crane.judgedOnRecord
  split
  · split
    · split
      · exact h.degradedAt
      · exact h.linked
    · exact h
  · split
    · exact h.degradedAt
    · exact h
  · split
    · exact h
    · exact h.linked
  · exact h

theorem judged (h : DownKept lt c d) (hj : d.Judged lt e) : DownKept lt c e :=
  hj.induction h fun _ before after h => h.judgedOnSquare before after

end Crane.DownKept

/-- What a command keeps of every crane. -/
def DownKept (s t : State) : Prop := ∀ i, (s.crane i).DownKept t.time.lt (t.crane i)

theorem DownKept.of_cranes {s t : State} (hs : ∀ i, PendingWf (s.crane i)) (hc : t.cranes = s.cranes) : DownKept s t := by
  intro i
  rw [State.crane_of_cranes hc]
  exact .start (hs i)

/-- A command that works on crane i only and leaves its link state as it is. -/
theorem DownKept.of_crane {s t : State} (hs : ∀ i, PendingWf (s.crane i)) {i : Fin 16} {d : Crane}
    (ht : ∀ j, t.crane j = if j = i then d else s.crane j) (hd : (s.crane i).DownKept t.time.lt d) : DownKept s t := by
  intro j
  rw [ht]
  split
  · next hj => rw [hj]; exact hd
  · exact .start (hs j)

/-! ## Judgements and records -/

theorem DownKept.of_judged {s t : State} (hs : ∀ i, PendingWf (s.crane i)) (h : CranesJudged s t) : DownKept s t := by
  intro i
  rw [h.lt]
  exact (Crane.DownKept.start (hs i)).judged (h.crane i)

theorem Crane.DownKept.withOutcomes {lt : Nat} {b c d : Crane} (h : b.DownKept lt c) (ho : c.WithOutcomes d) : b.DownKept lt d := by
  obtain ⟨e, g, rfl⟩ := ho
  exact h.fields rfl rfl rfl rfl (.inl rfl)

theorem DownKept.of_uplink {s t : State} {i : Fin 16} (hs : ∀ i, PendingWf (s.crane i)) (h : UplinkMove s t i) : DownKept s t := by
  cases h with
  | discarded hc _ => exact .of_cranes hs hc
  | unused c o _ hc h =>
    refine .of_crane hs h.crane ?_
    rw [h.time]
    exact ((Crane.DownKept.start (hs i)).withOutcomes hc).judgedOnRecord _ _
  | used c x arrival now own u v hold hc hu hv h =>
    have huv : CranesJudged u v := by
      obtain rfl | ⟨_, _, _, rfl⟩ := hv
      · exact .refl _
      · exact u.sample_judged ..
    have hlt : t.time.lt = s.time.lt := by rw [h.time, huv.lt, hu.time]
    have hmid : ∀ j, (s.crane j).DownKept s.time.lt (v.crane j) := by
      intro j
      have hused : (s.crane j).DownKept s.time.lt (u.crane j) := by
        rw [hu.crane]
        split
        · next hj =>
          rw [hj]
          exact ((Crane.DownKept.start (hs i)).withOutcomes hc).fields rfl rfl rfl rfl (.inl rfl)
        · exact .start (hs j)
      exact hused.judged (hu.time ▸ huv.crane j)
    intro j
    rw [hlt, h.crane]
    split
    · next hj =>
      rw [hj]
      exact ((hmid i).judgedOnRecord own _).fields rfl rfl rfl rfl (.inl rfl)
    · exact hmid j

end Sys2Proof.Machine
end

section
/-! SUPPORT. The slot tables and pending lists through the transfers (R23, R48 to R63). -/

namespace Sys2Proof.Machine

/-! ## Work on the slots of a crane -/

/-- The Downlink Supervisor has worked on the slots of crane c, which has become d: its pending list is kept, and its link state and the
size of its table are as they were. -/
structure Crane.SlotWork (c d : Crane) : Prop where
  pending : PendingWf d
  link : d.link = c.link
  count : d.slotCount = c.slotCount
  table : d.slots.isSome = c.slots.isSome

namespace Crane.SlotWork
variable {c d e : Crane}

theorem refl (h : PendingWf c) : SlotWork c c := ⟨h, rfl, rfl, rfl⟩

theorem trans (h : SlotWork c d) (h' : SlotWork d e) : SlotWork c e :=
  ⟨h'.pending, h'.link.trans h.link, h'.count.trans h.count, h'.table.trans h.table⟩

/-- Work that sets the record of one slot. -/
theorem of_set {n : Nat} {x : Slot} (hp : PendingWf d) (hl : d.link = c.link) (hs : d.slots = c.slots.map fun l => l.set n x) :
    SlotWork c d := by
  refine ⟨hp, hl, ?_, by simp [hs]⟩
  have := c.setSlot_slotCount n x
  rwa [Crane.slotCount, Crane.setSlot, ← hs] at this

theorem afterRead (h : PendingWf c) (n t : Nat) : SlotWork c (c.afterRead n t) := by
  unfold Crane.afterRead
  split
  · exact .of_set (h.passRead n) rfl (by rw [Crane.passRead_eq])
  · exact .of_set (h.holdRead n) rfl (by rw [Crane.holdRead_eq])

theorem fullWrite (h : PendingWf c) {n : Nat} (hn : n < c.slotCount) (size t : Nat) (header : List Byte) :
    SlotWork c (c.fullWrite size n t header) := by
  have htouch : (c.touchSlot n).link = c.link := by unfold Crane.touchSlot; split <;> rfl
  exact .of_set (h.fullWrite hn size t header) htouch (c.fullWrite_slots size n t header)

theorem tornWrite (h : PendingWf c) (n t : Nat) : SlotWork c (c.tornWrite n t) := by
  have htouch : (c.touchSlot n).link = c.link := by unfold Crane.touchSlot; split <;> rfl
  have hslots : (c.tornWrite n t).slots =
      c.slots.map fun l => l.set n { c.slot n with state := .faulted .torn, writeTime := t, lastVerdict := .hold } := by
    rw [Crane.tornWrite, Crane.setSlot, c.touchSlot_slots]
  exact .of_set (h.tornWrite n t) htouch hslots

theorem downKept (h : SlotWork c d) (lt : Nat) : c.DownKept lt d := .of_link h.pending h.link (.of_count h.count h.table)

end Crane.SlotWork

/-- Work on the slots of the cranes. -/
structure SlotsWorked (s t : State) : Prop where
  crane : ∀ i, (s.crane i).SlotWork (t.crane i)

theorem SlotsWorked.trans {s t u : State} (h : SlotsWorked s t) (h' : SlotsWorked t u) : SlotsWorked s u :=
  ⟨fun i => (h.crane i).trans (h'.crane i)⟩

theorem SlotsWorked.pending {s t : State} (h : SlotsWorked s t) (i : Fin 16) : PendingWf (t.crane i) := (h.crane i).pending

theorem SlotsWorked.of_cranes {s t : State} (hs : ∀ i, PendingWf (s.crane i)) (hc : t.cranes = s.cranes) : SlotsWorked s t :=
  ⟨fun i => by rw [State.crane_of_cranes hc]; exact .refl (hs i)⟩

theorem SlotsWorked.of_crane {s t : State} (hs : ∀ i, PendingWf (s.crane i)) {i : Fin 16} {d : Crane}
    (hc : t.cranes = upd s.cranes i d) (hd : (s.crane i).SlotWork d) : SlotsWorked s t := by
  refine ⟨fun j => ?_⟩
  rw [State.crane.eq_def t, hc, upd_get]
  split
  · next hj => rw [hj]; exact hd
  · exact .refl (hs j)

/-! ## Reads -/

theorem State.readBeats_worked {s : State} (hs : ∀ i, PendingWf (s.crane i)) (i : Fin 16) (size off k : Nat) :
    SlotsWorked s (s.readBeats i size off k).1 := by
  induction k generalizing s off with
  | zero => exact .of_cranes hs rfl
  | succ k ih =>
    rw [State.readBeats_succ]
    have hbeat : SlotsWorked s (s.readBeat i size off).1 := by
      unfold State.readBeat
      split
      · exact .of_crane hs State.headerRead_cranes (.afterRead (hs i) _ _)
      · exact .of_cranes hs rfl
    exact hbeat.trans (ih hbeat.pending _)

theorem State.passRead_worked {s : State} (hs : ∀ i, PendingWf (s.crane i)) (m : MasterId) (a : Address) (beats : Nat) :
    SlotsWorked s (s.passRead m a beats) := by
  unfold State.passRead
  split
  · exact .of_cranes hs rfl
  split
  · exact .of_cranes hs rfl
  · exact (State.readBeats_worked hs ..).trans (.of_cranes (State.readBeats_worked hs ..).pending rfl)

/-! ## Writes -/

theorem State.headerWrite_worked {s : State} (hs : ∀ i, PendingWf (s.crane i)) (w : Fin 32) (i : Fin 16) {n : Nat}
    (hn : n < (s.crane i).slotCount) (size : Nat) (m : MasterId) (beat : List Lane) : SlotsWorked s (s.headerWrite w i size n m beat).1 := by
  unfold State.headerWrite
  split
  · exact .of_cranes hs rfl
  split
  · exact .of_crane hs rfl (.fullWrite (hs i) hn ..)
  · exact .of_crane hs rfl (.tornWrite (hs i) ..)

/-- The header beats of a write that stays in the window are those of slots that the table has. -/
theorem State.writeBeats_worked {s : State} (hs : ∀ i, PendingWf (s.crane i)) (w : Fin 32) (i : Fin 16) {size off : Nat} (m : MasterId)
    {beats : List (List Lane)} (hin : beats ≠ [] → off + 16 * beats.length ≤ (s.crane i).slotCount * size) :
    SlotsWorked s (s.writeBeats w i size m off beats).1 := by
  induction beats generalizing s off with
  | nil => exact .of_cranes hs rfl
  | cons beat rest ih =>
    rw [State.writeBeats_cons]
    simp only
    have hroom := hin (by simp)
    simp only [List.length_cons] at hroom
    have hbeat : SlotsWorked s (if off % size = 0 then s.headerWrite w i size (off / size) m beat else (s, beat)).1 := by
      split
      · refine State.headerWrite_worked hs w i ?_ size m beat
        exact Nat.div_lt_of_lt_mul (by rw [Nat.mul_comm]; omega)
      · exact .of_cranes hs rfl
    refine hbeat.trans (ih hbeat.pending fun _ => ?_)
    rw [(hbeat.crane i).count]
    omega

theorem State.downWindow_eq_some {s : State} {w : Window} {i : Fin 16} {size : Nat} (h : s.downWindow w = some (i, size)) :
    w.kind = some .craneDown ∧ w.crane = some i ∧ w.slotSize = some size ∧ (s.crane i).slots.isSome = true := by
  unfold State.downWindow at h
  split at h
  · next hk hc hz =>
    split at h
    · next hs =>
      obtain ⟨rfl, rfl⟩ : _ = i ∧ _ = size := by simpa using h
      exact ⟨hk, hc, hz, hs⟩
    · cases h
  · cases h

theorem State.windowAt_contains {s : State} {a : Nat} {w : Fin 32} (h : s.windowAt a = some w) : (s.window w).contains a = true :=
  (firstIndex_some h).1

theorem beatsOf_length (k : Nat) (l : List Lane) : (beatsOf k l).length = k := by
  induction k generalizing l with
  | zero => rfl
  | succ k ih => rw [beatsOf, List.length_cons, ih]

/-- A transfer from an address of a window of whole pages stays in the window (R20, R21). -/
theorem span_in_window {a n base size : Nat} (hspan : spanWf a n = true) (hbase : base % 4096 = 0) (hsize : size % 4096 = 0)
    (hlo : base ≤ a) (hhi : a < base + size) : a - base + n ≤ size := by
  simp only [spanWf, Bool.and_eq_true, beq_iff_eq, decide_eq_true_eq] at hspan
  omega

theorem State.windowWrite_worked {s : State} (hs : ∀ i, PendingWf (s.crane i)) (hfit : TablesFit s) {w : Fin 32} {a : Address}
    (hat : s.windowAt a.toNat = some w) {l : List Lane} (hspan : spanWf a.toNat l.length = true) (m : MasterId) :
    SlotsWorked s (s.windowWrite w m a l) := by
  obtain ⟨hu, hlo, hhi⟩ := (Window.contains_iff _ _).1 (State.windowAt_contains hat)
  unfold State.windowWrite
  simp only
  split
  · exact .of_cranes hs (by simp)
  split
  · next i size hdown =>
    obtain ⟨hk, hc, hz, hsome⟩ := State.downWindow_eq_some hdown
    obtain ⟨table, htable⟩ := Option.isSome_iff_exists.1 hsome
    obtain ⟨hbase, hpages, -, hcount⟩ := hfit w i size table hu hk hc hz htable
    have hcount' : (s.crane i).slotCount * size = (s.window w).size := by rw [← hcount, Crane.slotCount, htable]; rfl
    have hbeats : SlotsWorked s (s.writeBeats w i size m (a.toNat - (s.window w).base) (beatsOf (l.length / 16) l)).1 := by
      refine State.writeBeats_worked hs w i m fun _ => ?_
      rw [beatsOf_length, hcount']
      have := span_in_window hspan hbase hpages hlo hhi
      have : 16 * (l.length / 16) ≤ l.length := Nat.mul_div_le ..
      omega
    exact hbeats.trans (.of_cranes hbeats.pending rfl)
  · refine .of_cranes hs ?_
    rw [State.forward_cranes]
    split <;> simp

theorem State.passWrite_worked {s : State} (hs : ∀ i, PendingWf (s.crane i)) (hfit : TablesFit s) {a : Address} {l : List Lane}
    (hspan : spanWf a.toNat l.length = true) (m : MasterId) : SlotsWorked s (s.passWrite m a l) := by
  unfold State.passWrite
  split
  · exact .of_cranes hs (by simp)
  split
  · next w hat => exact State.windowWrite_worked hs hfit hat hspan m
  · exact .of_cranes hs (by simp)

theorem SlotsWorked.finish {s t : State} (h : SlotsWorked s t) : SlotsWorked s t.finish :=
  h.trans (.of_cranes h.pending (State.finish_cranes t))

theorem State.takeTransfer_worked {s : State} (hs : ∀ i, PendingWf (s.crane i)) (hfit : TablesFit s) {x : Transfer} (hx : x.wf = true) :
    SlotsWorked s (s.takeTransfer x) := by
  have hidle : SlotsWorked s (s.setScratch .idle) := .of_cranes hs rfl
  unfold State.takeTransfer
  cases x with
  | read m a n => exact (hidle.trans (State.passRead_worked hidle.pending m a n)).finish
  | write m a l => exact (hidle.trans (State.passWrite_worked hidle.pending hfit hx m)).finish

/-- Without a window, a transfer works on no slot. -/
theorem State.takeTransfer_no_window {s : State} (hw : ∀ i, (s.window i).inUse = false) (x : Transfer) :
    (s.takeTransfer x).cranes = s.cranes := by
  have hat : ∀ a, (s.setScratch .idle).windowAt a = none := by
    intro a
    cases h : (s.setScratch .idle).windowAt a with
    | none => rfl
    | some w =>
      have hu := ((Window.contains_iff _ _).1 (State.windowAt_contains h)).1
      have := hw w
      rw [State.window] at this
      rw [State.window, State.setScratch_windows, this] at hu
      cases hu
  unfold State.takeTransfer
  rw [State.finish_cranes]
  cases x with
  | read m a n => simp [State.passRead, hat]
  | write m a l =>
    simp only [State.passWrite, hat]
    split <;> simp

end Sys2Proof.Machine
end

section
/-! SUPPORT. The slot tables and pending lists through every command (R44, R54 to R57, R66, R67). -/

namespace Sys2Proof.Machine

/-! ## Slot tables set up, emptied and discarded (R44, R66, R67) -/

theorem Crane.setupSlots_slot (c : Crane) (count n : Nat) : (c.setupSlots count).slot n = .setup := by
  simp only [Crane.slot, Crane.setupSlots, Option.getD_some, List.getElem?_replicate]
  split <;> rfl

theorem pendingWf_setupSlots (c : Crane) (count : Nat) : PendingWf (c.setupSlots count) :=
  .of_none (fun n => by rw [c.setupSlots_slot]; simp [Slot.setup]) rfl

theorem Crane.slot_of_no_table {c : Crane} (h : c.slots = none) (n : Nat) : c.slot n = .setup := by
  simp [Crane.slot, h]

theorem pendingWf_discardSlots (c : Crane) : PendingWf c.discardSlots :=
  .of_none (fun n => by rw [Crane.slot_of_no_table rfl]; simp [Slot.setup]) rfl

theorem pendingWf_of_cleared {c : Crane} (hs : c.slots = none) (hl : c.pendingSlots = []) : PendingWf c :=
  .of_none (fun n => by rw [Crane.slot_of_no_table hs]; simp [Slot.setup]) hl

theorem PendingWf.restarted {c : Crane} (h : PendingWf c) : PendingWf c.restarted := by
  unfold Crane.restarted
  simp only
  split
  · refine .of_none (fun n => ?_) rfl
    have hsetup : ∀ l : List Slot, ((l.map fun _ => Slot.setup)[n]?).getD .setup = .setup := fun l => by
      rw [List.getElem?_map]
      cases l[n]? <;> rfl
    unfold Crane.slot
    cases c.slots with
    | none => simp [Slot.setup]
    | some l => simp only [Option.map_some, Option.getD_some, hsetup]; simp [Slot.setup]
  · split
    · exact h
    · exact h.of_fields rfl rfl rfl

/-- RESTART leaves no crane LINKED or DEGRADED (R91), and keeps the size of its slot table. -/
theorem Crane.restarted_link (c : Crane) : c.restarted.link = .lost ∨ c.restarted.link = .dormant := by
  unfold Crane.restarted
  simp only
  split
  · split
    · next h => exact .inr h
    · exact .inl rfl
  · split
    · next h => exact .inr h
    · exact .inl rfl

theorem Crane.restarted_keepsTable (c : Crane) : c.KeepsTable c.restarted := by
  unfold Crane.restarted
  simp only
  split
  · exact .of_map (f := fun l => l.map fun _ => Slot.setup) rfl (by simp)
  · split
    · exact .refl c
    · exact .of_slots rfl

/-- A judgement of R86 leaves a LOST or DORMANT crane as it is. -/
theorem Crane.Judged.eq_of_unlinked {lt : Nat} {c d : Crane} (h : c.Judged lt d) (hc : c.link = .lost ∨ c.link = .dormant) : d = c :=
  h.induction (P := (· = c)) rfl fun e before after he => by
    subst he
    unfold Crane.judgedOnSquare
    obtain hl | hl := hc <;> simp [hl]

/-! ## Reefer reports (R125) -/

section
variable (s : State)

theorem State.useReport_judged (n : Fin 4096) (r : ReeferReport) (arrival : Nat) : CranesJudged s (s.useReport n r arrival) := by
  have hraises : ∀ (l : List ArithmeticNotice) (u : State), CranesJudged u (l.foldl (fun t x => t.raise x.kind n.val x.value1 x.value2 x.value3) u) :=
    fun l u => CranesJudged.foldl (fun v x => .of_same (State.raise_cranes ..) (State.raise_time ..)) l u
  have hsample : ∀ (u : State) e, CranesJudged u (u.reeferSample n e r arrival) := fun u e => by
    unfold State.reeferSample
    split
    · split
      · exact .refl u
      · exact u.sample_judged ..
    · exact .refl u
  have hreturn : ∀ (u : State) x y, CranesJudged u (u.noticeReturn n x y arrival) := fun u x y => .of_same (by simp) (by simp)
  have halarms : ∀ (u : State) x y, CranesJudged u (u.noticeAlarms n x y) := fun u x y => .of_same (by simp) (by simp)
  have hsetpoint : ∀ (u : State) x y, CranesJudged u (u.noticeSetpoint n x y) := fun u x y => .of_same (by simp) (by simp)
  have hentry : ∀ (u : State) e, CranesJudged u (u.setEntry n e) := fun u e => .of_same rfl rfl
  have hmirror : ∀ u : State, CranesJudged u (u.writeReeferMirror n) := fun u => .of_same (by simp) (by simp)
  unfold State.useReport
  exact ((((((hreturn _ _ _).trans (halarms _ _ _)).trans (hsetpoint _ _ _)).trans (hsample _ _)).trans (hentry _ _)).trans
    (hraises _ _)).trans (hmirror _)

theorem State.reportFor_judged (n : Fin 4096) (r : ReeferReport) (arrival : Nat) : CranesJudged s (s.reportFor n r arrival) := by
  unfold State.reportFor
  simp only
  split
  · exact s.useReport_judged ..
  · exact .of_same (by simp) (by simp)

theorem State.reeferRecord_judged (bytes : List Byte) (arrival : Nat) : CranesJudged s (s.reeferRecord bytes arrival) := by
  unfold State.reeferRecord
  simp only
  split
  · exact .of_same rfl rfl
  split
  · exact s.reportFor_judged ..
  · unfold State.unknownTag
    split
    · exact .of_same rfl rfl
    split
    · next n evicted _ =>
      have henrol : ∀ t, CranesJudged s ((s.enrolAt n evicted (ReeferReport.read bytes).tag 0 none arrival).noticeEnrolment n t evicted) :=
        fun t => .of_same (by simp) (by simp)
      exact (henrol _).trans (State.reportFor_judged ..)
    · exact .of_same (by simp) (by simp)

end

/-! ## Commands on windows and RESTART -/

theorem State.vacated_crane (s : State) (i : Fin 32) (j : Fin 16) :
    (s.vacated i).crane j = s.crane j ∨ (s.vacated i).crane j = (s.crane j).discardSlots := by
  have hdrop : ∀ w : Window, (s.dropSlotTable w).crane j = s.crane j ∨ (s.dropSlotTable w).crane j = (s.crane j).discardSlots := by
    intro w
    unfold State.dropSlotTable
    split
    · next c _ _ =>
      rw [State.setCrane_crane]
      split
      · next hj => rw [hj]; exact .inr rfl
      · exact .inl rfl
    · exact .inl rfl
  unfold State.vacated
  split
  · have hcranes : (s.removeWindow i).cranes = (s.dropSlotTable (s.window i)).cranes := by
      unfold State.removeWindow
      simp only
      split <;> simp
    rw [State.crane_of_cranes hcranes]
    exact hdrop _
  · exact .inl rfl

theorem State.removeWindow_crane (s : State) (i : Fin 32) (h : (s.window i).inUse = true) (j : Fin 16) :
    (s.removeWindow i).crane j = s.crane j ∨ (s.removeWindow i).crane j = (s.crane j).discardSlots := by
  have := s.vacated_crane i j
  rwa [State.vacated, if_pos h] at this

/-- A new CRANE_DOWN window sets up its crane's slot table, and no other definition touches a crane (R29, R44). -/
theorem State.windowEffects_crane (s : State) (w : Window) (j : Fin 16) :
    (∃ size, w.kind = some .craneDown ∧ w.crane = some j ∧ w.slotSize = some size ∧
      (s.windowEffects w).crane j = (s.crane j).setupSlots (w.size / size)) ∨
    (¬(w.kind = some .craneDown ∧ w.crane = some j ∧ w.slotSize.isSome = true) ∧ (s.windowEffects w).crane j = s.crane j) := by
  unfold State.windowEffects
  split
  · next c size hk hc hz =>
    rw [State.setCrane_crane]
    split
    · next hj => subst hj; exact .inl ⟨size, hk, hc, hz, rfl⟩
    · next hj =>
      refine .inr ⟨?_, rfl⟩
      rintro ⟨-, hc', -⟩
      rw [hc] at hc'
      exact hj (Option.some_inj.1 hc').symm
  · next hk => exact .inr ⟨by simp [hk], State.crane_of_cranes (State.rejudgeRing_cranes s) j⟩
  · next k _ hk hdefault =>
    refine .inr ⟨?_, ?_⟩
    · rintro ⟨hdown, hcrane, hsize⟩
      obtain ⟨size, hsize⟩ := Option.isSome_iff_exists.1 hsize
      exact hdefault j size hcrane hsize (Option.some_inj.1 (hk.symm.trans hdown))
    · split <;> rfl
  · next hk => exact .inr ⟨by simp [hk], rfl⟩

theorem State.restarted_crane (s : State) (h : InHand) (i : Fin 16) : (s.restarted h).crane i = (s.crane i).restarted := by
  have hcranes : (s.restarted h).cranes = Vector.ofFn fun i => (s.crane i).restarted := by
    simp [State.restarted, State.carryOut, State.doRestart, State.restartBlocks, State.crane]
  rw [State.crane, hcranes, ofFn_get]

/-- The records in hand at a RESTART change no crane: none is LINKED or DEGRADED. -/
theorem State.handleInHand_crane (s : State) (h : InHand) (i : Fin 16) :
    ((s.restarted h).handleInHand h).crane i = (s.crane i).restarted := by
  have hjudged : ∀ (u v : State) (k : Work), (∀ i, u.crane i = (s.crane i).restarted) → CranesJudged (u.beginEvent k) v →
      ∀ i, v.finish.crane i = (s.crane i).restarted := by
    intro u v k hu hv i
    have hi : (u.beginEvent k).crane i = (s.crane i).restarted := (State.crane_of_cranes (State.beginEvent_cranes ..) i).trans (hu i)
    have := hv.crane i
    rw [hi] at this
    rw [State.crane_of_cranes (State.finish_cranes v)]
    exact this.eq_of_unlinked (s.crane i).restarted_link
  exact handleInHand_keeps (P := fun u => ∀ i, u.crane i = (s.crane i).restarted) (s.restarted_crane h)
    (fun u l a hu => hjudged u _ _ hu (State.measureRecord_judged ..)) (fun u l a hu => hjudged u _ _ hu (State.reeferRecord_judged ..))
    (fun u l a hu i => (State.crane_of_cranes (by simp) i).trans (hu i)) i

end Sys2Proof.Machine
end

section
/-! SUPPORT. The pending lists and slot tables after every step (R44, R55, R57). -/

namespace Sys2Proof.Machine

/-! ## Every command but DEFINE_WINDOW and POWER_ON_RESET -/

/-- What touches neither the cranes nor local time, before a work or after it, makes no difference. -/
theorem DownKept.between {r s t u : State} (h : DownKept s t) (hs : s.cranes = r.cranes)
    (hu : u.cranes = t.cranes ∧ u.time.lt = t.time.lt) : DownKept r u := by
  intro i
  rw [hu.2, State.crane_of_cranes hu.1, ← State.crane_of_cranes hs i]
  exact h i

theorem event_downKept {k : Work} {s t : State} {enabled : Bool} {f : State → State}
    (hf : ∀ u, (∀ i, PendingWf (u.crane i)) → DownKept u (f u)) (hs : ∀ i, PendingWf (s.crane i))
    (h : event k s enabled f = .next t) : DownKept s t := by
  obtain rfl | ⟨-, -, -, rfl⟩ := event_cases h
  · exact .of_cranes hs rfl
  · exact (hf (s.beginEvent k) hs).between rfl ⟨State.finish_cranes _, by rw [State.finish_time]⟩

theorem command_downKept {k : Command} {s t : State} {f : State → State × ResultCode}
    (hf : ∀ u, (∀ i, PendingWf (u.crane i)) → DownKept u (f u).1) (hs : ∀ i, PendingWf (s.crane i))
    (h : command k s f = .next t) : DownKept s t :=
  event_downKept (fun u hu => (hf u.take hu).between rfl
    ⟨State.complete_cranes _ _, congrArg TimeBase.lt (State.complete_time (f u.take).1 (f u.take).2)⟩) hs h

theorem present_downKept {x : Transfer} {s t : State} (hs : ∀ i, PendingWf (s.crane i)) (hfit : TablesFit s)
    (h : present x s = .next t) : DownKept s t := by
  obtain rfl | ⟨-, -, rfl⟩ | ⟨hx, -, rfl⟩ := present_cases h
  · exact .of_cranes hs rfl
  · exact .of_cranes hs rfl
  · exact fun i => ((State.takeTransfer_worked hs hfit hx).crane i).downKept _

section
variable {s : State} (hs : ∀ i, PendingWf (s.crane i))
include hs

theorem State.expireHeartbeat_downKept (i : Fin 16) : DownKept s (s.expireHeartbeat i) := by
  unfold State.expireHeartbeat
  simp only
  split
  · have hlost : (s.crane i).DownKept (s.expireHeartbeat i).time.lt
        { s.crane i with heartbeat := none, expected := none, goodCount := 0, link := .lost } :=
      (Crane.DownKept.start (hs i)).fields rfl rfl rfl rfl (.inr (by simp))
    rw [State.expireHeartbeat_time] at hlost
    refine .of_crane hs (i := i) (fun j => ?_) (by simpa using hlost)
    rw [State.crane_of_cranes (State.writeCraneMirror_cranes ..), State.crane_of_cranes (State.raise_cranes ..), State.setCrane_crane]
  · exact .of_crane hs (fun j => State.setCrane_crane ..) ((Crane.DownKept.start (hs i)).fields rfl rfl rfl rfl (.inl rfl))

theorem State.expireSlot_downKept (i : Fin 16) (n : Nat) : DownKept s (s.expireSlot i n) :=
  have hwork : (s.crane i).SlotWork ((s.crane i).afterExpiry n) :=
    .of_set (n := n) (x := { (s.crane i).slot n with state := .expired }) ((hs i).afterExpiry n) rfl rfl
  .of_crane hs (fun j => s.expireSlot_crane i j n) (hwork.downKept _)

theorem DownKept.of_discarded {t : State} (h : ∀ j, t.crane j = s.crane j ∨ t.crane j = (s.crane j).discardSlots) : DownKept s t := by
  intro j
  obtain h | h := h j <;> rw [h]
  · exact .start (hs j)
  · exact .of_link (pendingWf_discardSlots _) rfl (.of_none rfl)

theorem State.doDeleteWindow_downKept : DownKept s s.doDeleteWindow.1 := by
  obtain ⟨r, h, -⟩ | ⟨i, -, hu, -, h⟩ := s.doDeleteWindow_cases <;> rw [h]
  · exact .of_cranes hs rfl
  · exact .of_discarded hs fun j => s.removeWindow_crane i hu j

/-- A command that gives crane i a context and writes its mirror record. -/
theorem State.setCraneMirror_downKept (i : Fin 16) {d : Crane} (hd : ∀ lt, (s.crane i).DownKept lt d) :
    DownKept s ((s.setCrane i d).writeCraneMirror i) := by
  refine .of_crane hs (fun j => ?_) (hd _)
  rw [State.crane_of_cranes (State.writeCraneMirror_cranes ..), State.setCrane_crane]

theorem State.doAttachCrane_downKept : DownKept s s.doAttachCrane.1 := by
  unfold State.doAttachCrane
  split
  · exact .of_cranes hs rfl
  · next i _ =>
    (repeat' split) <;> [exact .of_cranes hs rfl; exact .of_cranes hs rfl; exact .of_cranes hs rfl; skip]
    exact State.setCraneMirror_downKept hs i fun lt => ⟨pendingWf_of_cleared rfl rfl, fun _ hd => (by cases hd), .of_none rfl⟩

theorem State.doDetachCrane_downKept : DownKept s s.doDetachCrane.1 := by
  unfold State.doDetachCrane
  split
  · exact .of_cranes hs rfl
  · next i _ =>
    (repeat' split) <;> [exact .of_cranes hs rfl; exact .of_cranes hs rfl; skip]
    exact State.setCraneMirror_downKept hs i fun lt => ⟨pendingWf_of_cleared rfl rfl, fun _ hd => (by cases hd), .of_none rfl⟩

theorem State.doSetCraneParameters_downKept : DownKept s s.doSetCraneParameters.1 := by
  unfold State.doSetCraneParameters
  split
  · exact .of_cranes hs rfl
  · next i _ =>
    (repeat' split) <;> [exact .of_cranes hs rfl; exact .of_cranes hs rfl; exact .of_cranes hs rfl; skip]
    exact .of_crane hs (fun j => State.setCrane_crane ..) (.of_link ((hs i).of_fields rfl rfl rfl) rfl (.of_slots rfl))

theorem State.setHold_downKept (flag : Bool) : DownKept s (s.setHold flag).1 := by
  unfold State.setHold
  split
  · exact .of_cranes hs rfl
  · next i _ =>
    (repeat' split) <;> [exact .of_cranes hs rfl; exact .of_cranes hs rfl; skip]
    exact State.setCraneMirror_downKept hs i fun lt => (Crane.DownKept.start (hs i)).fields rfl rfl rfl rfl (.inl rfl)

end

theorem State.doSetCell_judged (s : State) : CranesJudged s s.doSetCell.1 := by
  unfold State.doSetCell
  split
  · exact .refl s
  · next c _ =>
    split
    · exact .refl s
    split
    · exact .refl s
    split
    · exact .of_same rfl rfl
    · split
      · exact .refl s
      · exact (s.clearPlace_judged c).trans (State.setGrid_judged ..)

theorem State.doClearCell_judged (s : State) : CranesJudged s s.doClearCell.1 := by
  unfold State.doClearCell
  split
  · exact .refl s
  · next c _ =>
    split
    · exact .refl s
    · simp only
      exact s.clearPlace_judged c

/-- A dequeue itself touches no crane. -/
theorem DownKept.of_dequeue {s t : State} {q : Intake} {e : QueueEntry}
    (h : DownKept ((s.setIntake q).countTaken e) t) : DownKept s t :=
  h.between (by simp) ⟨rfl, rfl⟩

/-- No command but DEFINE_WINDOW and POWER_ON_RESET gives a crane a new slot table; every one of them keeps the pending lists, and caps the
deadlines of a crane that it makes DEGRADED. -/
theorem exec_downKept {c : Instr} {s t : State} (hs : ∀ i, PendingWf (s.crane i)) (hfit : TablesFit s) (h : exec c s = .next t)
    (hc : ∀ b m, c ≠ .powerOnReset b m) (hd : c ≠ .defineWindow) : DownKept s t := by
  by_cases hcr : .cranes ∈ touchedBy c
  case neg => exact .of_cranes hs ((exec_frames h hc).cranes hcr)
  case pos =>
  cases c <;> simp only [touchedBy, writeBlocks, List.mem_cons, List.not_mem_nil, reduceCtorEq, or_false, or_self] at hcr <;>
    simp only [exec] at h
  case powerOnReset b m => exact absurd rfl (hc b m)
  case defineWindow => exact absurd rfl hd
  case readTransfer | writeTransfer | ringBaseWrite | ringLengthWrite | consumerIndexWrite => exact present_downKept hs hfit h
  case controlPageWrite =>
    obtain h | rfl := controlPageWrite_cases h
    · exact present_downKept hs hfit h
    · exact .of_cranes hs rfl
  case uplinkRecordDequeue =>
    refine event_downKept (fun u hu => ?_) hs h
    split
    · next e rest _ =>
      have hq : ∀ q i, PendingWf (((u.setIntake q).countTaken e).crane i) := fun q i => by
        rw [State.crane_of_cranes (s := u) (by simp)]; exact hu i
      refine .of_dequeue (q := { u.intake with uplink := rest }) (e := e) ?_
      simp only
      split
      · exact .of_uplink (hq _) (State.uplinkRecord_move ..)
      · exact .of_cranes (hq _) rfl
    · exact .of_cranes hu rfl
  case measurementRecordDequeue =>
    refine event_downKept (fun u hu => ?_) hs h
    split
    · next e rest _ =>
      have hq : ∀ q i, PendingWf (((u.setIntake q).countTaken e).crane i) := fun q i => by
        rw [State.crane_of_cranes (s := u) (by simp)]; exact hu i
      exact .of_dequeue (q := { u.intake with measure := rest }) (e := e) (.of_judged (hq _) (State.measureRecord_judged ..))
    · exact .of_cranes hu rfl
  case reeferReportDequeue =>
    refine event_downKept (fun u hu => ?_) hs h
    split
    · next e rest _ =>
      have hq : ∀ q i, PendingWf (((u.setIntake q).countTaken e).crane i) := fun q i => by
        rw [State.crane_of_cranes (s := u) (by simp)]; exact hu i
      exact .of_dequeue (q := { u.intake with reefer := rest }) (e := e) (.of_judged (hq _) (State.reeferRecord_judged ..))
    · exact .of_cranes hu rfl
  case heartbeatExpiry i => exact event_downKept (fun u hu => State.expireHeartbeat_downKept hu i) hs h
  case slotExpiry i =>
    refine event_downKept (fun u hu => ?_) hs h
    split
    · exact State.expireSlot_downKept hu i _
    · exact .of_cranes hu rfl
  case agingVisit =>
    refine event_downKept (fun u hu => ?_) hs h
    split
    · exact .of_judged hu (u.ageSquare_judged _)
    · exact .of_cranes hu rfl
  case clearGridVisit =>
    refine event_downKept (fun u hu => ?_) hs h
    split
    · exact .of_judged hu (u.clearSquare_judged _)
    · exact .of_cranes hu rfl
  case deleteWindow => exact command_downKept (fun _ hu => State.doDeleteWindow_downKept hu) hs h
  case attachCrane => exact command_downKept (fun _ hu => State.doAttachCrane_downKept hu) hs h
  case detachCrane => exact command_downKept (fun _ hu => State.doDetachCrane_downKept hu) hs h
  case setCraneParameters => exact command_downKept (fun _ hu => State.doSetCraneParameters_downKept hu) hs h
  case holdCrane => exact command_downKept (fun _ hu => State.setHold_downKept hu true) hs h
  case releaseCrane => exact command_downKept (fun _ hu => State.setHold_downKept hu false) hs h
  case setCell => exact command_downKept (fun u hu => .of_judged hu u.doSetCell_judged) hs h
  case clearCell => exact command_downKept (fun u hu => .of_judged hu u.doClearCell_judged) hs h
  case restart =>
    obtain rfl | ⟨-, -, rfl⟩ := restart_cases h
    · exact .of_cranes hs rfl
    · intro i
      rw [State.handleInHand_crane]
      refine ⟨(hs i).restarted, fun _ hl => ?_, (s.crane i).restarted_keepsTable⟩
      obtain hl' | hl' := (s.crane i).restarted_link <;> rw [hl'] at hl <;> cases hl

end Sys2Proof.Machine
end

section
/-! SUPPORT. The pending lists after every step, and the cap at an entry into DEGRADED (R44, R55, R57). -/

namespace Sys2Proof.Machine

/-! ## Slot tables and windows (R21, R44) -/

/-- Every window in use was in use before, of the same range, kind, slot size and crane. -/
structure WindowsLeft (s t : State) : Prop where
  window : ∀ j, (t.window j).inUse = true → (s.window j).inUse = true ∧ (t.window j).kind = (s.window j).kind ∧
    (t.window j).base = (s.window j).base ∧ (t.window j).size = (s.window j).size ∧ (t.window j).slotSize = (s.window j).slotSize ∧
    (t.window j).crane = (s.window j).crane

theorem WindowsLeft.of_definitions {s t : State} (h : KeepsDefinitions s.windows t.windows) : WindowsLeft s t :=
  ⟨fun j hu => ⟨Window.inUse_congr (h.window j) ▸ hu, Window.kind_congr (h.window j), Window.base_congr (h.window j),
    Window.size_congr (h.window j), Window.slotSize_congr (h.window j), Window.crane_congr (h.window j)⟩⟩

theorem WindowsLeft.of_windows {s t : State} (h : t.windows = s.windows) : WindowsLeft s t := .of_definitions (h ▸ .refl _)

theorem WindowsLeft.trans {s t u : State} (h : WindowsLeft s t) (h' : WindowsLeft t u) : WindowsLeft s u := by
  refine ⟨fun j hu => ?_⟩
  obtain ⟨hu', h1, h2, h3, h4, h5⟩ := h'.window j hu
  obtain ⟨hu'', k1, k2, k3, k4, k5⟩ := h.window j hu'
  exact ⟨hu'', h1.trans k1, h2.trans k2, h3.trans k3, h4.trans k4, h5.trans k5⟩

theorem lockEffect_windowsLeft {s u : State} (h : u = s ∨ ∃ i level, (s.window i).inUse = true ∧ (s.window i).lock ≠ .tight ∧
    u = s.setWindow i { s.window i with lock := level }) : WindowsLeft s u := by
  obtain rfl | ⟨i, level, hui, -, rfl⟩ := h
  · exact .of_windows rfl
  · refine ⟨fun j hu => ?_⟩
    rw [State.setWindow_window] at hu ⊢
    split
    · next hj => subst hj; exact ⟨hui, rfl, rfl, rfl, rfl, rfl⟩
    · next hj => rw [if_neg hj] at hu; exact ⟨hu, rfl, rfl, rfl, rfl, rfl⟩

theorem State.doDeleteWindow_windowsLeft (s : State) : WindowsLeft s s.doDeleteWindow.1 := by
  obtain ⟨r, h, -⟩ | ⟨i, -, -, -, h⟩ := s.doDeleteWindow_cases <;> rw [h]
  · exact .of_windows rfl
  · refine ⟨fun j hu => ?_⟩
    rw [State.removeWindow_window] at hu ⊢
    split
    · next hj => rw [if_pos hj] at hu; cases hu
    · next hj => rw [if_neg hj] at hu; exact ⟨hu, rfl, rfl, rfl, rfl, rfl⟩

theorem command_windowsLeft {k : Command} {s t : State} {f : State → State × ResultCode} (hf : ∀ u, WindowsLeft u (f u).1)
    (h : command k s f = .next t) : WindowsLeft s t := by
  obtain rfl | ⟨-, -, -, rfl⟩ := event_cases h
  · exact .of_windows rfl
  · have hbegin : WindowsLeft s (s.beginEvent .command).take := .of_windows rfl
    exact (hbegin.trans (hf _)).trans (.of_windows (by rw [State.finish_windows, State.carryOut, State.complete_windows]))

/-- No command but DEFINE_WINDOW brings a window into use. -/
theorem exec_windowsLeft {c : Instr} {s t : State} (h : exec c s = .next t) (hc : ∀ b m, c ≠ .powerOnReset b m)
    (hd : c ≠ .defineWindow) : WindowsLeft s t := by
  by_cases hm : movesTable c = false
  · exact .of_definitions (exec_definitions h hm)
  cases c
  case powerOnReset b m => exact absurd rfl (hc b m)
  case defineWindow => exact absurd rfl hd
  case deleteWindow => simp only [exec] at h; exact command_windowsLeft (fun u => u.doDeleteWindow_windowsLeft) h
  case lockWindow => simp only [exec] at h; exact command_windowsLeft (fun u => lockEffect_windowsLeft u.doLockWindow_cases) h
  case unlockWindow => simp only [exec] at h; exact command_windowsLeft (fun u => lockEffect_windowsLeft u.doUnlockWindow_cases) h
  all_goals exact absurd rfl hm

/-- Slot tables of the old sizes fit the windows that are left. -/
theorem TablesFit.of_left {s t : State} (hfit : TablesFit s) (hc : ∀ i, (s.crane i).KeepsTable (t.crane i)) (hw : WindowsLeft s t) :
    TablesFit t := by
  intro w i size l hu hk hcrane hsize hl
  obtain ⟨hu', hk', hb', hz', hs', hc'⟩ := hw.window w hu
  obtain ⟨l0, hl0, hlength⟩ := hc i l hl
  obtain ⟨h1, h2, h3, h4⟩ := hfit w i size l0 hu' (hk' ▸ hk) (hc' ▸ hcrane) (hs' ▸ hsize) hl0
  rw [hb', hz', ← hlength]
  exact ⟨h1, h2, h3, h4⟩

/-! ## DEFINE_WINDOW (R27 to R29, R44) -/

/-- A definition of a CRANE_DOWN window that passes check 3 of R27 is of whole pages that its slots fill, and names its crane. -/
theorem State.DefinePasses.craneDown {s : State} {i : Fin 32} (h : s.DefinePasses i .craneDown) :
    s.defineBase % 4096 = 0 ∧ s.defineSize % 4096 = 0 ∧ 256 ≤ s.arg 6 ∧ s.defineSize / s.arg 6 * s.arg 6 = s.defineSize ∧
      (s.definedWindow .craneDown).crane.isSome = true := by
  obtain ⟨-, -, -, hargs, -⟩ := h
  simp only [State.defineArgsBad, sizeRule, Bool.or_eq_false_iff, bne_eq_false_iff_eq, decide_eq_false_iff_not, Bool.and_eq_false_iff,
    Bool.not_eq_false', Bool.and_eq_true, beq_iff_eq, decide_eq_true_eq, WindowKind.ofCrane, Bool.true_eq_false, false_or] at hargs
  obtain ⟨⟨⟨⟨⟨hbase, -⟩, -⟩, -⟩, hcrane⟩, ⟨⟨hslot, hmod⟩, -⟩, -⟩ := hargs
  have hsize : 256 ≤ s.arg 6 := by
    simp only [List.contains_cons, List.contains_nil, Bool.or_false, Bool.or_eq_true, beq_iff_eq] at hslot
    omega
  refine ⟨by unfold State.defineBase; omega, by unfold State.defineSize; omega, hsize,
    Nat.div_mul_cancel (Nat.dvd_of_mod_eq_zero hmod), ?_⟩
  have hlt : s.arg 7 < 16 := by omega
  simp [State.definedWindow, WindowKind.ofCrane, asIndex, hlt]

/-- No other in-use window is of the kind and the crane of a definition that passes check 6 of R27. -/
theorem State.DefinePasses.other_crane {s : State} {i j : Fin 32} {k : WindowKind} {c : Fin 16} (h : s.DefinePasses i k)
    (hc : (s.definedWindow k).crane = some c) (hj : j ≠ i) (hu : (s.window j).inUse = true) (hk : (s.window j).kind = some k) :
    (s.window j).crane ≠ some c := by
  intro hjc
  obtain ⟨-, -, -, -, hconflict⟩ := h
  have hother : s.otherWindow i (fun w => w.kind == some k && w.crane == some c) = true :=
    (s.otherWindow_iff i _).2 ⟨j, hj, hu, by simp [hk, hjc]⟩
  unfold State.defineConflict at hconflict
  split at hconflict
  · cases hconflict
  · rw [hc] at hconflict
    simp only [hother, if_true] at hconflict
    split at hconflict <;> cases hconflict

/-- What a definition does to a crane: a new table, an old one gone, or nothing. -/
theorem State.doDefineWindow_kept {s : State} (hs : ∀ i, PendingWf (s.crane i)) (hfit : TablesFit s) :
    TablesFit s.doDefineWindow.1 ∧ ∀ j, PendingWf (s.doDefineWindow.1.crane j) ∧ (s.doDefineWindow.1.crane j).link = (s.crane j).link := by
  obtain ⟨r, he, -⟩ | ⟨i, k, hp, he⟩ := s.doDefineWindow_cases <;> rw [he]
  · exact ⟨hfit, fun j => ⟨hs j, rfl⟩⟩
  have hold : ∀ j, (((s.vacated i).setWindow i (s.definedWindow k)).crane j) = s.crane j ∨
      (((s.vacated i).setWindow i (s.definedWindow k)).crane j) = (s.crane j).discardSlots := s.vacated_crane i
  have hnew := ((s.vacated i).setWindow i (s.definedWindow k)).windowEffects_crane (s.definedWindow k)
  refine ⟨fun w c size l hu hk hc hz hl => ?_, fun j => ?_⟩
  · rw [s.defined_window] at hu hk hc hz ⊢
    simp only at hl
    by_cases hw : w = i
    · rw [if_pos hw] at hu hk hc hz ⊢
      obtain rfl : k = .craneDown := by simpa [State.definedWindow] using hk
      obtain ⟨hbase, hpages, hslot, hfill, -⟩ := hp.craneDown
      obtain rfl : size = s.arg 6 := by simpa [State.definedWindow] using hz.symm
      obtain ⟨size', -, -, hz', hcrane⟩ | ⟨hno, -⟩ := hnew c
      · obtain rfl : size' = s.arg 6 := by simpa [State.definedWindow] using hz'.symm
        rw [hcrane] at hl
        obtain rfl : List.replicate (s.defineSize / s.arg 6) Slot.setup = l := Option.some_inj.1 hl
        exact ⟨hbase, hpages, hslot, by rw [List.length_replicate]; exact hfill⟩
      · exact absurd ⟨hk, hc, by rw [hz]; rfl⟩ hno
    · rw [if_neg hw] at hu hk hc hz ⊢
      obtain ⟨size', hk', hc', -, -⟩ | ⟨-, hcrane⟩ := hnew c
      · obtain rfl : k = .craneDown := by simpa [State.definedWindow] using hk'
        exact absurd hc (hp.other_crane hc' hw hu hk)
      · rw [hcrane] at hl
        obtain h | h := hold c <;> rw [h] at hl
        · exact hfit w c size l hu hk hc hz hl
        · cases hl
  · simp only
    have hmid : PendingWf (((s.vacated i).setWindow i (s.definedWindow k)).crane j) ∧
        (((s.vacated i).setWindow i (s.definedWindow k)).crane j).link = (s.crane j).link := by
      obtain h | h := hold j <;> rw [h]
      · exact ⟨hs j, rfl⟩
      · exact ⟨pendingWf_discardSlots _, rfl⟩
    obtain ⟨size', -, -, -, hcrane⟩ | ⟨-, hcrane⟩ := hnew j <;> rw [hcrane]
    · exact ⟨pendingWf_setupSlots _ _, hmid.2⟩
    · exact hmid

/-! ## The statements -/

/-- What holds of the slot tables and the pending lists between steps. -/
def SlotsWf (s : State) : Prop := TablesFit s ∧ ∀ i, PendingWf (s.crane i)

theorem SlotsWf.of_same {s t : State} (h : SlotsWf s) (hw : t.windows = s.windows) (hc : t.cranes = s.cranes) : SlotsWf t :=
  ⟨h.1.of_left (fun i => by rw [State.crane_of_cranes hc]; exact .refl _) (.of_windows hw),
    fun i => by rw [State.crane_of_cranes hc]; exact h.2 i⟩

theorem command_slotsWf {k : Command} {s t : State} {f : State → State × ResultCode} (hs : SlotsWf s)
    (hf : ∀ u, SlotsWf u → SlotsWf (f u).1 ∧ ∀ j, ((f u).1.crane j).link = (u.crane j).link) (h : command k s f = .next t) :
    SlotsWf t ∧ ∀ j, (t.crane j).link = (s.crane j).link := by
  obtain rfl | ⟨-, -, -, rfl⟩ := event_cases h
  · exact ⟨hs, fun _ => rfl⟩
  have htake : SlotsWf s.taking := hs.of_same rfl rfl
  obtain ⟨hwf, hlink⟩ := hf s.taking htake
  have hw : ((s.beginEvent .command).carryOut f).finish.windows = (f s.taking).1.windows := by
    rw [State.finish_windows, State.carryOut, State.complete_windows]; rfl
  have hcr : ((s.beginEvent .command).carryOut f).finish.cranes = (f s.taking).1.cranes := by
    rw [State.finish_cranes, State.carryOut, State.complete_cranes]; rfl
  refine ⟨hwf.of_same hw hcr, fun j => ?_⟩
  rw [State.crane_of_cranes hcr, hlink j, State.crane_of_cranes (s := s) (t := s.taking) rfl]

theorem defineWindow_kept {s t : State} (hs : SlotsWf s) (h : exec .defineWindow s = .next t) :
    SlotsWf t ∧ ∀ j, (t.crane j).link = (s.crane j).link :=
  command_slotsWf (k := .defineWindow) (f := State.doDefineWindow) hs (fun _ hu =>
    have hd := State.doDefineWindow_kept hu.2 hu.1
    ⟨⟨hd.1, fun j => (hd.2 j).1⟩, fun j => (hd.2 j).2⟩) h

/-- After POWER_ON_RESET no window is in use and every crane is cleared. -/
theorem powerOnReset_cranes {b : BitVec 16} {m : BitVec 6} {s t : State} (h : exec (.powerOnReset b m) s = .next t) :
    (∀ i, (t.window i).inUse = false) ∧ ∀ i, t.crane i = .cleared := by
  refine powerOnReset_induction (P := fun u => (∀ i, (u.window i).inUse = false) ∧ ∀ i, u.crane i = .cleared)
    ⟨fun i => by rw [State.powerOn_window]; rfl, fun i => s.powerOn_crane b m i⟩ (fun u x hu => ?_) h
  obtain ⟨hw, hc⟩ := hu
  refine ⟨fun i => ?_, fun i => ?_⟩
  · rw [Window.inUse_congr ((u.takeTransfer_definitions x).window i)]; exact hw i
  · rw [State.crane_of_cranes (State.takeTransfer_no_window hw x)]; exact hc i

theorem exec_slotsWf {c : Instr} {s t : State} (hs : SlotsWf s) (h : exec c s = .next t) : SlotsWf t := by
  by_cases hc : ∀ b m, c ≠ .powerOnReset b m
  · by_cases hd : c = .defineWindow
    · subst hd; exact (defineWindow_kept hs h).1
    · have hk := exec_downKept hs.2 hs.1 h hc hd
      exact ⟨hs.1.of_left (fun i => (hk i).table) (exec_windowsLeft h hc hd), fun i => (hk i).pending⟩
  · push Not at hc
    obtain ⟨b, m, rfl⟩ := hc
    obtain ⟨hw, hcr⟩ := powerOnReset_cranes h
    refine ⟨fun w i size l hu => ?_, fun i => ?_⟩
    · rw [hw] at hu; cases hu
    · rw [hcr]; exact pendingWf_of_cleared rfl rfl

/-- Settles O25: the operations of the Downlink Supervisor keep each list, and a new table fits its window. -/
theorem pendingListsKept : Obligations.PendingListsKept := fun _ _ hfit hs h =>
  step_keeps (P := SlotsWf) (fun _ _ h => h) (fun _ _ _ hs h => exec_slotsWf hs h) ⟨hfit, hs⟩ h

theorem exec_caps {c : Instr} {s t : State} (hs : SlotsWf s) (h : exec c s = .next t) {i : Fin 16}
    (hbefore : (s.crane i).link ≠ .degraded) (hafter : (t.crane i).link = .degraded) : (t.crane i).Capped t.time.lt := by
  by_cases hc : ∀ b m, c ≠ .powerOnReset b m
  · by_cases hd : c = .defineWindow
    · subst hd
      exact absurd (((defineWindow_kept hs h).2 i).symm.trans hafter) hbefore
    · exact ((exec_downKept hs.2 hs.1 h hc hd) i).capped hbefore hafter
  · push Not at hc
    obtain ⟨b, m, rfl⟩ := hc
    rw [(powerOnReset_cranes h).2] at hafter
    cases hafter

/-- Settles O26: an entry into DEGRADED caps the deadlines and expires what has passed, and nothing later in the step makes a slot PENDING. -/
theorem degradedEntryCapsDeadlines : Obligations.DegradedEntryCapsDeadlines := by
  intro s t i n hfit hs h hbefore hafter hn
  unfold step at h
  split at h
  · next c rest _ =>
    generalize hu : ({ s with pending := rest } : State) = u at h
    have hcranes : u.cranes = s.cranes := by rw [← hu]
    have hwf : SlotsWf u := SlotsWf.of_same ⟨hfit, hs⟩ (by rw [← hu]) hcranes
    rw [← State.crane_of_cranes hcranes] at hbefore
    exact exec_caps hwf h hbefore hafter n hn
  · injection h with h
    subst h
    exact absurd hafter hbefore

end Sys2Proof.Machine
end

section
/-! SUPPORT. What the events of chapters 4 to 6 do to the grid and the cranes together: the squares that take new entries, one by one. -/

namespace Sys2Proof.Machine

/-! ## Squares that take new entries -/

/-- An entry of a square after a sample, an aging visit or a clearing, or left as it is (R94, R98, R102, R107). -/
inductive CellEntry.Moved (x : CellEntry) : CellEntry → Prop
  | same : CellEntry.Moved x x
  | dropped : CellEntry.Moved x .absent
  | sampled (level : Int) (source : SampleSource) (arrival : Nat) : CellEntry.Moved x (x.sampled level source.weight arrival)
  | aged (limit t : Nat) : CellEntry.Moved x (x.aged limit t)

theorem CellEntry.moved_upd {entries : Vector CellEntry 24} {c : Fin 24} {x : CellEntry} (h : (entries.get c).Moved x) (d : Fin 24) :
    (entries.get d).Moved ((upd entries c x).get d) := by
  rw [upd_get]
  split
  · next hd => rw [hd]; exact h
  · exact .same

/-- What happens to the grid and the cranes when squares take new entries one by one, places of the cell table change, and nothing else
touches a square or a crane. -/
inductive Regrids (s : State) : State → Prop
  | refl : Regrids s s
  | same {t u : State} (h : Regrids s t) (hc : u.cranes = t.cranes) (hq : u.grid.squares = t.grid.squares)
      (hcells : u.grid.cells = t.grid.cells) : Regrids s u
  | change {t : State} (h : Regrids s t) (q : Fin 512) (entries : Vector CellEntry 24)
      (he : ∀ c, ((t.square q).entries.get c).Moved (entries.get c)) : Regrids s (t.changeSquare q entries)
  | place {t : State} (h : Regrids s t) (c : Fin 24) (x : Option Nat)
      (hx : ∀ n, x = some n → n ≠ 0 ∧ ∀ d, d ≠ c → t.grid.cells.get d ≠ some n) :
      Regrids s (t.setGrid { t.grid with cells := upd t.grid.cells c x })

theorem Regrids.trans {s t u : State} (h : Regrids s t) (h' : Regrids t u) : Regrids s u := by
  induction h' with
  | refl => exact h
  | same _ hc hq hcells ih => exact ih.same hc hq hcells
  | change _ q entries he ih => exact ih.change q entries he
  | place _ c x hx ih => exact ih.place c x hx

theorem Regrids.of_same {s t : State} (hc : t.cranes = s.cranes) (hg : t.grid = s.grid) : Regrids s t :=
  Regrids.refl.same hc (by rw [hg]) (by rw [hg])

/-- A change of the grid beside its squares and its cell table. -/
theorem Regrids.of_grid {s : State} {g : Grid} (hq : g.squares = s.grid.squares := by rfl)
    (hcells : g.cells = s.grid.cells := by rfl) : Regrids s (s.setGrid g) := Regrids.refl.same rfl hq hcells

theorem Regrids.foldl {α : Type} {f : State → α → State} (hf : ∀ u x, Regrids u (f u x)) (l : List α) (s : State) :
    Regrids s (l.foldl f s) := by
  induction l generalizing s with
  | nil => exact .refl
  | cons x l ih => exact (hf s x).trans (ih _)

section
variable (s : State)

theorem State.raise_regrids (k : NoticeKind) (i : Nat) (a b c : Word) : Regrids s (s.raise k i a b c) := .of_same (by simp) (by simp)

theorem State.writeGridMirror_regrids (q : Fin 512) : Regrids s (s.writeGridMirror q) := .of_same (by simp) (by simp)

theorem State.unknownSample_regrids (q : Fin 512) (identity : Nat) (src : SampleSource) : Regrids s (s.unknownSample q identity src) := by
  unfold State.unknownSample
  simp only
  split
  · exact (Regrids.of_grid).trans (State.raise_regrids ..)
  · exact .of_grid

theorem State.sample_regrids (segment band identity : Nat) (level : Int) (arrival : Nat) (src : SampleSource) :
    Regrids s (s.sample segment band identity level arrival src) := by
  unfold State.sample
  simp only
  split
  · exact Regrids.refl.change _ _ (CellEntry.moved_upd (.sampled ..))
  · exact s.unknownSample_regrids ..

theorem State.measureRecord_regrids (bytes : List Byte) (arrival : Nat) : Regrids s (s.measureRecord bytes arrival) := by
  unfold State.measureRecord
  simp only
  split
  · exact .of_grid
  · refine Regrids.trans (.of_grid) (Regrids.foldl (fun u x => ?_) _ _)
    unfold State.measurePair
    split
    · exact .refl
    · exact u.sample_regrids ..

theorem State.ageSquare_regrids (q : Fin 512) : Regrids s (s.ageSquare q) := by
  unfold State.ageSquare
  simp only
  refine Regrids.change (.of_grid) q _ fun c => ?_
  rw [ofFn_get]
  exact .aged ..

theorem State.dropEntry_regrids (c : Fin 24) (q : Fin 512) : Regrids s (s.dropEntry c q) :=
  Regrids.refl.change q _ (CellEntry.moved_upd .dropped)

theorem State.clearPlace_regrids (c : Fin 24) : Regrids s (s.clearPlace c) :=
  (Regrids.refl.place c none (by simp)).trans (Regrids.foldl (fun u q => u.dropEntry_regrids c q) _ _)

theorem State.clearSquare_regrids (q : Fin 512) : Regrids s (s.clearSquare q) := by
  unfold State.clearSquare
  simp only
  have h : Regrids s ((s.setGrid { s.grid with clearPosition := q.val + 1 }).changeSquare q (Vector.replicate 24 .absent)) := by
    refine Regrids.change (.of_grid) q _ fun c => ?_
    rw [replicate_get]
    exact .dropped
  split
  · exact h.trans (State.writeGridMirror_regrids ..)
  · exact h

theorem State.useReport_regrids (n : Fin 4096) (r : ReeferReport) (arrival : Nat) : Regrids s (s.useReport n r arrival) := by
  have hreturn : ∀ (u : State) a b t, Regrids u (u.noticeReturn n a b t) := fun u _ _ _ => .of_same (by simp) (by simp)
  have halarms : ∀ (u : State) a b, Regrids u (u.noticeAlarms n a b) := fun u _ _ => .of_same (by simp) (by simp)
  have hsetpoint : ∀ (u : State) a b, Regrids u (u.noticeSetpoint n a b) := fun u _ _ => .of_same (by simp) (by simp)
  have hsample : ∀ (u : State) e, Regrids u (u.reeferSample n e r arrival) := fun u e => by
    unfold State.reeferSample
    split
    · split
      · exact .refl
      · exact u.sample_regrids ..
    · exact .refl
  have hentry : ∀ (u : State) e, Regrids u (u.setEntry n e) := fun u _ => .of_same (by simp) (by simp)
  have hraises : ∀ (l : List ArithmeticNotice) (u : State), Regrids u (l.foldl (fun t x => t.raise x.kind n.val x.value1 x.value2 x.value3) u) :=
    fun l u => Regrids.foldl (fun v x => v.raise_regrids ..) l u
  have hmirror : ∀ u : State, Regrids u (u.writeReeferMirror n) := fun u => .of_same (by simp) (by simp)
  unfold State.useReport
  exact ((((((hreturn _ _ _ _).trans (halarms _ _ _)).trans (hsetpoint _ _ _)).trans (hsample _ _)).trans (hentry _ _)).trans
    (hraises _ _)).trans (hmirror _)

theorem State.reportFor_regrids (n : Fin 4096) (r : ReeferReport) (arrival : Nat) : Regrids s (s.reportFor n r arrival) := by
  unfold State.reportFor
  simp only
  split
  · exact s.useReport_regrids ..
  · exact .of_same (by simp) (by simp)

theorem State.reeferRecord_regrids (bytes : List Byte) (arrival : Nat) : Regrids s (s.reeferRecord bytes arrival) := by
  unfold State.reeferRecord
  simp only
  split
  · exact .of_same rfl rfl
  split
  · exact s.reportFor_regrids ..
  · unfold State.unknownTag
    split
    · exact .of_same rfl rfl
    split
    · next n evicted _ =>
      have henrol : ∀ t, Regrids s ((s.enrolAt n evicted (ReeferReport.read bytes).tag 0 none arrival).noticeEnrolment n t evicted) :=
        fun t => .of_same (by simp) (by simp)
      exact (henrol _).trans (State.reportFor_regrids ..)
    · exact .of_same (by simp) (by simp)

/-- Clearing a place leaves the rest of the cell table as it is. -/
theorem State.clearPlace_cells (c : Fin 24) : (s.clearPlace c).grid.cells = upd s.grid.cells c none := by
  have hfold : ∀ (l : List (Fin 512)) (t : State), (l.foldl (fun t q => t.dropEntry c q) t).grid.cells = t.grid.cells := by
    intro l
    induction l with
    | nil => exact fun t => rfl
    | cons q l ih => exact fun t => (ih _).trans (by simp [State.dropEntry])
  unfold State.clearPlace
  rw [hfold]
  rfl

theorem State.doSetCell_regrids : Regrids s s.doSetCell.1 := by
  unfold State.doSetCell
  split
  · exact .refl
  next c _ =>
  split
  · exact .refl
  next hzero =>
  split
  · exact .refl
  next helse =>
  have hplace : ∀ d, d ≠ c → s.grid.cells.get d ≠ some (s.arg 2) := by
    intro d hd he
    refine helse ?_
    simp only [State.identityElsewhere, List.any_eq_true, Bool.and_eq_true, bne_iff_ne, beq_iff_eq]
    exact ⟨d, List.mem_finRange d, hd, he⟩
  have hput : ∀ n, some (s.arg 2) = some n → n ≠ 0 ∧ ∀ d, d ≠ c → s.grid.cells.get d ≠ some n := fun n hn => by
    obtain rfl := Option.some_inj.1 hn
    exact ⟨hzero, hplace⟩
  split
  · exact Regrids.refl.place c _ hput
  · split
    · exact .refl
    · refine (s.clearPlace_regrids c).place c (some (s.arg 2)) fun n hn => ⟨(hput n hn).1, fun d hd => ?_⟩
      rw [s.clearPlace_cells, upd_get, if_neg hd]
      exact (hput n hn).2 d hd

theorem State.doClearCell_regrids : Regrids s s.doClearCell.1 := by
  unfold State.doClearCell
  split
  · exact .refl
  · split
    · exact .refl
    · simp only
      exact s.clearPlace_regrids _

end

/-! ## The state of a square and the cranes in it (R71, R86) -/

theorem SquareState.weak_eq_false_iff (x : SquareState) : x.weak = false ↔ x ≠ .hole ∧ x ≠ .marginal := by
  cases x <;> simp [SquareState.weak]

theorem State.weakAt_eq_false_iff (s : State) (x : Option (Fin 512)) : s.weakAt x = false ↔
    ∀ q, x = some q → (s.square q).state ≠ .hole ∧ (s.square q).state ≠ .marginal := by
  cases x with
  | none => simp [State.weakAt]
  | some q =>
    simp only [State.weakAt, Option.some.injEq, forall_eq']
    exact SquareState.weak_eq_false_iff _

/-- A square that takes new entries judges the cranes in it when its state changes, and no other crane (R100). -/
theorem State.changeSquare_crane (s : State) (q : Fin 512) (entries : Vector CellEntry 24) (i : Fin 16) :
    (s.changeSquare q entries).crane i =
      if ((s.changeSquare q entries).square q).state ≠ (s.square q).state ∧ (s.crane i).square = some q then
        (s.crane i).judgedOnSquare s.time.lt (s.square q).state ((s.changeSquare q entries).square q).state
      else s.crane i := by
  rw [State.changeSquare_square, if_pos rfl]
  unfold State.changeSquare
  simp only
  generalize ({ s.square q with entries := entries } : Square).summarised s.grid.params s.stamp = new
  have hnew : (s.setSquare q new).square q = new := s.setSquare_square_self q new
  by_cases hstate : new.state = (s.square q).state
  · rw [State.afterRecompute_of_kept (by rw [hnew]; exact hstate), if_neg (c := _ ∧ _) (by simp [hstate])]
    split
    · rfl
    · exact State.crane_of_cranes (State.writeGridMirror_cranes ..) i
  · have hcranes : ∀ v1 v2 v3, (((s.setSquare q new).raise .squareState q.val v1 v2 v3).writeGridMirror q).cranes = s.cranes :=
      fun _ _ _ => by simp
    rw [State.afterRecompute_of_changed (by rw [hnew]; exact hstate), State.reportSquare_crane, hnew, State.writeGridMirror_time,
      State.raise_time, State.setSquare_time, State.crane_of_cranes (hcranes ..)]
    simp only [hstate, ne_eq, not_false_eq_true, true_and]

/-- A LINKED crane of those named stands in no weak square. -/
def LinkedClear (among : Fin 16 → Prop) (s : State) : Prop :=
  ∀ i, among i → (s.crane i).link = .linked → s.weakAt (s.crane i).square = false

theorem noLinkedCraneInWeakSquare_iff (s : State) : NoLinkedCraneInWeakSquare s ↔ LinkedClear (fun _ => True) s :=
  ⟨fun h i _ hl => (s.weakAt_eq_false_iff _).2 fun q => h i q hl,
    fun h i q hl => (s.weakAt_eq_false_iff _).1 (h i trivial hl) q⟩

theorem LinkedClear.mono {p p' : Fin 16 → Prop} {s : State} (h : LinkedClear p s) (hp : ∀ i, p' i → p i) : LinkedClear p' s :=
  fun i hi => h i (hp i hi)

theorem State.weakAt_of_squares {s t : State} (h : t.grid.squares = s.grid.squares) (x : Option (Fin 512)) :
    t.weakAt x = s.weakAt x := by
  simp only [State.weakAt, State.square, h]

/-- A crane that the judgement of R86 leaves LINKED or makes LINKED was one or the other before, and its square is not weak. -/
theorem Crane.judgedOnSquare_linked {c : Crane} {lt : Nat} {before after : SquareState}
    (h : (c.judgedOnSquare lt before after).link = .linked) : after.weak = false ∧ (c.judgedOnSquare lt before after).square = c.square := by
  have hdegraded : (c.degradedAt lt).link ≠ .linked := by simp [(c.degradedAt_fields lt).1]
  unfold Crane.judgedOnSquare at h ⊢
  cases hl : c.link with
  | linked =>
    simp only [hl] at h ⊢
    by_cases hw : after.weak = true
    · rw [if_pos hw] at h; exact absurd h hdegraded
    · rw [if_neg hw]; exact ⟨by simpa using hw, rfl⟩
  | degraded =>
    simp only [hl] at h ⊢
    by_cases hr : (!after.weak && before.weak && !c.tooManyErrors) = true
    · rw [if_pos hr]
      simp only [Bool.and_eq_true, Bool.not_eq_eq_eq_not, Bool.not_true] at hr
      exact ⟨hr.1.1, rfl⟩
    · rw [if_neg hr, hl] at h; cases h
  | lost | dormant => simp only [hl] at h; cases h

/-- A crane that is LINKED after the judgement of a record does not stand in a weak square (R84, R85). -/
theorem Crane.judgedOnRecord_linked {c : Crane} {lt : Nat} {own : UplinkOutcome} {weak : Bool}
    (h : (c.judgedOnRecord lt own weak).link = .linked) : weak = false ∧ (c.judgedOnRecord lt own weak).square = c.square := by
  have hdegraded : (c.degradedAt lt).link ≠ .linked := by simp [(c.degradedAt_fields lt).1]
  unfold Crane.judgedOnRecord at h ⊢
  cases hl : c.link with
  | lost =>
    simp only [hl] at h ⊢
    split at h
    · next hg =>
      split at h
      · exact absurd h hdegraded
      · next hb => rw [if_pos hg, if_neg hb]; exact ⟨by simp_all, rfl⟩
    · rw [hl] at h; cases h
  | linked =>
    simp only [hl] at h ⊢
    split at h
    · exact absurd h hdegraded
    · next hb => rw [if_neg hb]; exact ⟨by simp_all, rfl⟩
  | degraded =>
    simp only [hl] at h ⊢
    split at h
    · rw [hl] at h; cases h
    · next hb => rw [if_neg hb]; exact ⟨by simp_all, rfl⟩
  | dormant => simp only [hl] at h; cases h

theorem LinkedClear.changeSquare {p : Fin 16 → Prop} {s : State} (h : LinkedClear p s) (q : Fin 512) (entries : Vector CellEntry 24) :
    LinkedClear p (s.changeSquare q entries) := by
  intro i hi hl
  have hother : ∀ r, r ≠ q → (s.changeSquare q entries).square r = s.square r := fun r hr => by
    rw [State.changeSquare_square, if_neg hr]
  rw [State.changeSquare_crane] at hl ⊢
  split at hl
  · next hc =>
    rw [if_pos hc]
    obtain ⟨hweak, hsquare⟩ := Crane.judgedOnSquare_linked hl
    rw [hsquare, hc.2]
    exact hweak
  · next hc =>
    rw [if_neg hc]
    refine Eq.trans ?_ (h i hi hl)
    cases hq : (s.crane i).square with
    | none => rfl
    | some r =>
      change SquareState.weak _ = SquareState.weak _
      by_cases hr : r = q
      · subst hr
        have hkept : ((s.changeSquare r entries).square r).state = (s.square r).state := by
          by_contra hne
          exact hc ⟨hne, hq⟩
        rw [hkept]
      · rw [hother r hr]

theorem Regrids.linkedClear {p : Fin 16 → Prop} {s t : State} (h : Regrids s t) (hs : LinkedClear p s) : LinkedClear p t := by
  induction h with
  | refl => exact hs
  | same _ hc hq _ ih =>
    intro i hi hl
    rw [State.crane_of_cranes hc] at hl ⊢
    rw [State.weakAt_of_squares hq]
    exact ih i hi hl
  | change _ q entries _ ih => exact ih.changeSquare q entries
  | place _ c x _ ih => exact fun i hi hl => ih i hi hl

/-! ## The entries and the summaries of the squares (R96, R98) -/

theorem summaryFits_summarised (x : Square) (p : CoverageParams) (now : Stamp) : SummaryFits (x.summarised p now) := by
  refine ⟨⟨fun hstate c e u hfresh => ?_, fun h => (x.summarised_unknown p now h).1⟩,
    fun h => (x.summarised_unknown p now h).2, fun c e h => ?_⟩
  · obtain ⟨d, f, hbest⟩ := exists_bestOf ⟨c, e, u, hfresh⟩
    rw [(x.summarised_best p now hbest).2.2] at hstate
    unfold StateAfter at hstate
    (repeat' split at hstate) <;> cases hstate
  · obtain ⟨hbest, hestimate, -⟩ := x.summarised_best p now h
    exact ⟨hbest, hestimate⟩

theorem Regrids.summaryFits {s t : State} (h : Regrids s t) (hs : ∀ q, SummaryFits (s.square q)) : ∀ q, SummaryFits (t.square q) := by
  induction h with
  | refl => exact hs
  | same _ _ hq _ ih => intro q; simpa only [State.square, hq] using ih q
  | change _ q entries _ ih =>
    intro p
    rw [State.changeSquare_square]
    split
    · exact summaryFits_summarised ..
    · exact ih p
  | place _ c x _ ih => exact ih

/-- One step of the filter goes toward the target and not beyond it (R98). -/
theorem filterStep_between (d : Int) (shift : Nat) : (0 ≤ d → 0 ≤ filterStep d shift ∧ filterStep d shift ≤ d) ∧
    (d ≤ 0 → d ≤ filterStep d shift ∧ filterStep d shift ≤ 0) := by
  have hpow : (0 : Int) < 2 ^ shift := by positivity
  have hnonneg : ∀ x : Int, 0 ≤ x → 0 ≤ x.tdiv (2 ^ shift) ∧ x.tdiv (2 ^ shift) ≤ x := fun x hx => by
    rw [Int.tdiv_eq_ediv_of_nonneg hx]
    exact ⟨Int.ediv_nonneg hx hpow.le, Int.ediv_le_self _ hx⟩
  have hneg : ∀ x : Int, x.tdiv (2 ^ shift) = -((-x).tdiv (2 ^ shift)) := fun x => by simp [Int.neg_tdiv]
  have hsign : d.sign = 0 ∧ d = 0 ∨ d.sign = 1 ∧ 0 < d ∨ d.sign = -1 ∧ d < 0 := by
    obtain h | h | h := lt_trichotomy d 0
    · exact .inr (.inr ⟨Int.sign_eq_neg_one_of_neg h, h⟩)
    · exact .inl (by simp [h])
    · exact .inr (.inl ⟨Int.sign_eq_one_of_pos h, h⟩)
  unfold filterStep
  simp only
  split
  · refine ⟨fun h => ?_, fun h => ?_⟩ <;> omega
  · refine ⟨hnonneg d, fun h => ?_⟩
    have := hnonneg (-d) (by omega)
    have := hneg d
    omega

theorem CellEntry.Moved.estimateInRange {x y : CellEntry} (h : x.Moved y) (hx : EstimateInRange x) : EstimateInRange y := by
  cases h with
  | same => exact hx
  | dropped => trivial
  | sampled level source arrival =>
    have htarget : -280 ≤ clamp (-280) (-40) level ∧ clamp (-280) (-40) level ≤ -40 := by
      unfold clamp
      omega
    unfold CellEntry.sampled
    cases x with
    | fresh e u =>
      obtain ⟨hlo, hhi⟩ := hx
      have := filterStep_between (clamp (-280) (-40) level * 8 - e) source.weight
      change -2240 ≤ e + filterStep (clamp (-280) (-40) level * 8 - e) source.weight ∧ _
      omega
    | absent | stale e u => exact ⟨by omega, by omega⟩
  | aged limit t =>
    unfold CellEntry.aged
    cases x with
    | fresh e u =>
      simp only
      split
      · exact hx
      · exact hx
    | absent | stale e u => exact hx

theorem Regrids.estimateInRange {s t : State} (h : Regrids s t) (hs : ∀ q c, EstimateInRange ((s.square q).entries.get c)) :
    ∀ q c, EstimateInRange ((t.square q).entries.get c) := by
  induction h with
  | refl => exact hs
  | same _ _ hq _ ih => intro q; simpa only [State.square, hq] using ih q
  | change _ q entries he ih =>
    intro p c
    rw [State.changeSquare_square]
    split
    · exact (he c).estimateInRange (ih q c)
    · exact ih p c
  | place _ c x _ ih => exact ih

/-! ## The cell table (R92) -/

theorem Regrids.cellsDistinct {s t : State} (h : Regrids s t) (hs : CellsDistinct s) : CellsDistinct t := by
  induction h with
  | refl => exact hs
  | same _ _ _ hcells ih => simpa only [CellsDistinct, hcells] using ih
  | change _ q entries _ ih => simpa only [CellsDistinct, State.changeSquare_grid] using ih
  | @place t _ c x hx ih =>
    obtain ⟨hzero, hdistinct⟩ := ih
    have hget : ∀ d, (t.setGrid { t.grid with cells := upd t.grid.cells c x }).grid.cells.get d =
        if d = c then x else t.grid.cells.get d := fun d => upd_get ..
    refine ⟨fun d => ?_, fun d e n hd he => ?_⟩
    · rw [hget]
      split
      · rintro rfl; exact (hx 0 rfl).1 rfl
      · exact hzero d
    · rw [hget] at hd he
      split at hd <;> split at he
      · next h1 h2 => rw [h1, h2]
      · next _ h2 => exact absurd he ((hx n hd).2 e h2)
      · next h1 _ => exact absurd hd ((hx n he).2 d h1)
      · exact hdistinct d e n hd he

end Sys2Proof.Machine
end

section
/-! SUPPORT. What every command does to the grid and to the link part of the cranes (R70 to R74, R79, R83 to R86, R92 to R107). -/

namespace Sys2Proof.Machine

/-! ## Commands that bring no crane up -/

/-- Crane c has become d without its link coming up: an attached d is as attached as c, and a LINKED or DEGRADED d is in the same link
state, of the same square, previous arrival and heartbeat timer. -/
structure Crane.LinkKept (c d : Crane) : Prop where
  attached : d.link ≠ .dormant → c.link ≠ .dormant ∧ d.params = c.params
  heard : d.link = .linked ∨ d.link = .degraded →
    d.link = c.link ∧ d.square = c.square ∧ d.prevArrival = c.prevArrival ∧ d.heartbeat = c.heartbeat

namespace Crane.LinkKept
variable {c d e : Crane}

theorem refl (c : Crane) : LinkKept c c := ⟨fun h => ⟨h, rfl⟩, fun _ => ⟨rfl, rfl, rfl, rfl⟩⟩

theorem trans (h : LinkKept c d) (h' : LinkKept d e) : LinkKept c e := by
  refine ⟨fun he => ?_, fun he => ?_⟩
  · obtain ⟨hd, hp'⟩ := h'.attached he
    obtain ⟨hc, hp⟩ := h.attached hd
    exact ⟨hc, hp'.trans hp⟩
  · obtain ⟨h1, h2, h3, h4⟩ := h'.heard he
    obtain ⟨k1, k2, k3, k4⟩ := h.heard (h1 ▸ he)
    exact ⟨h1.trans k1, h2.trans k2, h3.trans k3, h4.trans k4⟩

/-- Work that leaves the fields of the link as they are. -/
theorem of_fields (hl : d.link = c.link) (hp : d.params = c.params) (hq : d.square = c.square) (ha : d.prevArrival = c.prevArrival)
    (hh : d.heartbeat = c.heartbeat) : LinkKept c d :=
  ⟨fun h => ⟨hl ▸ h, hp⟩, fun _ => ⟨hl, hq, ha, hh⟩⟩

/-- A crane that becomes DORMANT, or an attached one that becomes LOST. -/
theorem of_down (h : d.link = .dormant ∨ d.link = .lost ∧ c.link ≠ .dormant ∧ d.params = c.params) : LinkKept c d := by
  obtain h | ⟨hl, hc⟩ := h
  · exact ⟨fun hd => absurd h hd, fun hd => (by rw [h] at hd; obtain hd | hd := hd <;> cases hd)⟩
  · exact ⟨fun _ => hc, fun hd => (by rw [hl] at hd; obtain hd | hd := hd <;> cases hd)⟩

end Crane.LinkKept

/-- No crane's link has come up. -/
structure LinksKept (s t : State) : Prop where
  crane : ∀ i, (s.crane i).LinkKept (t.crane i)

theorem LinksKept.of_cranes {s t : State} (h : t.cranes = s.cranes) : LinksKept s t :=
  ⟨fun i => by rw [State.crane_of_cranes h]; exact .refl _⟩

theorem LinksKept.refl (s : State) : LinksKept s s := .of_cranes rfl

theorem LinksKept.trans {s t u : State} (h : LinksKept s t) (h' : LinksKept t u) : LinksKept s u :=
  ⟨fun i => (h.crane i).trans (h'.crane i)⟩

theorem LinksKept.between {r s t u : State} (h : LinksKept s t) (hs : s.cranes = r.cranes) (hu : u.cranes = t.cranes) : LinksKept r u :=
  ((LinksKept.of_cranes hs).trans h).trans (.of_cranes hu)

/-- Work on one crane only. -/
theorem LinksKept.of_crane {s t : State} {i : Fin 16} {d : Crane} (ht : ∀ j, t.crane j = if j = i then d else s.crane j)
    (hd : (s.crane i).LinkKept d) : LinksKept s t := by
  refine ⟨fun j => ?_⟩
  rw [ht]
  split
  · next hj => rw [hj]; exact hd
  · exact .refl _

/-! ## Transfers, expiries and window commands -/

theorem Crane.touchSlot_linkKept (c : Crane) (n : Nat) : c.LinkKept (c.touchSlot n) := by
  unfold Crane.touchSlot
  split <;> exact .of_fields rfl rfl rfl rfl rfl

theorem Crane.LinkKept.after {c d e : Crane} (h : c.LinkKept d) (hl : e.link = d.link) (hp : e.params = d.params) (hq : e.square = d.square)
    (ha : e.prevArrival = d.prevArrival) (hh : e.heartbeat = d.heartbeat) : c.LinkKept e := h.trans (.of_fields hl hp hq ha hh)

section
variable (s : State)

theorem State.readBeat_linksKept (i : Fin 16) (size off : Nat) : LinksKept s (s.readBeat i size off).1 := by
  have hafter : (s.crane i).LinkKept ((s.crane i).afterRead (off / size) s.time.lt) := by
    unfold Crane.afterRead
    split <;> exact .of_fields rfl rfl rfl rfl rfl
  unfold State.readBeat
  split
  · refine .of_crane (i := i) (fun j => ?_) hafter
    rw [State.crane.eq_def (s.headerRead i (off / size)).1, State.headerRead_cranes, upd_get]
    rfl
  · exact .refl s

theorem State.readBeats_linksKept (i : Fin 16) (size off k : Nat) : LinksKept s (s.readBeats i size off k).1 := by
  induction k generalizing s off with
  | zero => exact .refl s
  | succ k ih =>
    rw [State.readBeats_succ]
    exact (s.readBeat_linksKept i size off).trans (ih _ _)

theorem State.passRead_linksKept (m : MasterId) (a : Address) (beats : Nat) : LinksKept s (s.passRead m a beats) := by
  unfold State.passRead
  split
  · exact .of_cranes rfl
  split
  · exact .of_cranes rfl
  · exact (s.readBeats_linksKept ..).trans (.of_cranes rfl)

theorem State.headerWrite_linksKept (w : Fin 32) (i : Fin 16) (size n : Nat) (m : MasterId) (beat : List Lane) :
    LinksKept s (s.headerWrite w i size n m beat).1 := by
  have htouch := (s.crane i).touchSlot_linkKept n
  unfold State.headerWrite
  split
  · exact .refl s
  split
  · exact .of_crane (fun j => State.setCrane_crane ..) (htouch.after rfl rfl rfl rfl rfl)
  · exact .of_crane (fun j => State.setCrane_crane ..) (htouch.after rfl rfl rfl rfl rfl)

theorem State.writeBeats_linksKept (w : Fin 32) (i : Fin 16) (size : Nat) (m : MasterId) (off : Nat) (beats : List (List Lane)) :
    LinksKept s (s.writeBeats w i size m off beats).1 := by
  induction beats generalizing s off with
  | nil => exact .refl s
  | cons beat rest ih =>
    rw [State.writeBeats_cons]
    simp only
    refine LinksKept.trans ?_ (ih _ _)
    split
    · exact s.headerWrite_linksKept ..
    · exact .refl s

theorem State.passWrite_linksKept (m : MasterId) (a : Address) (l : List Lane) : LinksKept s (s.passWrite m a l) := by
  unfold State.passWrite
  split
  · exact .of_cranes (by simp)
  split
  · unfold State.windowWrite
    simp only
    split
    · exact .of_cranes (by simp)
    split
    · exact (s.writeBeats_linksKept ..).trans (.of_cranes rfl)
    · refine .of_cranes ?_
      rw [State.forward_cranes]
      split <;> simp
  · exact .of_cranes (by simp)

theorem State.takeTransfer_linksKept (x : Transfer) : LinksKept s (s.takeTransfer x) := by
  unfold State.takeTransfer
  cases x with
  | read m a n => exact ((s.setScratch .idle).passRead_linksKept m a n).between rfl (State.finish_cranes _)
  | write m a l => exact ((s.setScratch .idle).passWrite_linksKept m a l).between rfl (State.finish_cranes _)

theorem State.expireSlot_linksKept (i : Fin 16) (n : Nat) : LinksKept s (s.expireSlot i n) :=
  .of_crane (fun j => s.expireSlot_crane i j n) (.of_fields rfl rfl rfl rfl rfl)

/-- The heartbeat timer of a LINKED or DEGRADED crane runs out into LOST (R83). -/
theorem State.expireHeartbeat_linksKept (i : Fin 16) : LinksKept s (s.expireHeartbeat i) := by
  unfold State.expireHeartbeat
  simp only
  split
  · next hl =>
    refine .of_crane (i := i) (d := { s.crane i with heartbeat := none, expected := none, goodCount := 0, link := .lost })
      (fun j => ?_) (.of_down (.inr ⟨rfl, ?_, rfl⟩))
    · rw [State.crane_of_cranes (State.writeCraneMirror_cranes ..), State.crane_of_cranes (State.raise_cranes ..), State.setCrane_crane]
    · obtain h | h := hl <;> rw [h] <;> simp
  · next hl => exact .of_crane (fun j => State.setCrane_crane ..) ⟨fun h => ⟨h, rfl⟩, fun h => absurd h hl⟩

theorem LinksKept.of_discarded {s t : State} (h : ∀ j, t.crane j = s.crane j ∨ t.crane j = (s.crane j).discardSlots) : LinksKept s t := by
  refine ⟨fun j => ?_⟩
  obtain h | h := h j <;> rw [h] <;> exact .of_fields rfl rfl rfl rfl rfl

theorem State.doDeleteWindow_linksKept : LinksKept s s.doDeleteWindow.1 := by
  obtain ⟨r, h, -⟩ | ⟨i, -, hu, -, h⟩ := s.doDeleteWindow_cases <;> rw [h]
  · exact .refl s
  · exact .of_discarded fun j => s.removeWindow_crane i hu j

theorem State.doDefineWindow_linksKept : LinksKept s s.doDefineWindow.1 := by
  obtain ⟨r, h, -⟩ | ⟨i, k, -, h⟩ := s.doDefineWindow_cases <;> rw [h]
  · exact .refl s
  have hset : LinksKept (s.vacated i) ((s.vacated i).setWindow i (s.definedWindow k)) := .of_cranes rfl
  refine ((LinksKept.of_discarded (s.vacated_crane i)).trans hset).trans ⟨fun j => ?_⟩
  obtain ⟨size, -, -, -, hcrane⟩ | ⟨-, hcrane⟩ := ((s.vacated i).setWindow i (s.definedWindow k)).windowEffects_crane (s.definedWindow k) j <;>
    simp only [hcrane] <;> exact .of_fields rfl rfl rfl rfl rfl

theorem State.doDetachCrane_linksKept : LinksKept s s.doDetachCrane.1 := by
  unfold State.doDetachCrane
  split
  · exact .refl s
  next i _ =>
  split
  · exact .refl s
  split
  · exact .refl s
  · refine .of_crane (i := i) (d := .cleared) (fun j => ?_) (.of_down (.inl rfl))
    rw [State.crane_of_cranes (State.writeCraneMirror_cranes ..), State.setCrane_crane]

theorem State.setHold_linksKept (flag : Bool) : LinksKept s (s.setHold flag).1 := by
  unfold State.setHold
  split
  · exact .refl s
  next i _ =>
  split
  · exact .refl s
  split
  · exact .refl s
  · refine .of_crane (i := i) (d := { s.crane i with holdFlag := flag }) (fun j => ?_) (.of_fields rfl rfl rfl rfl rfl)
    rw [State.crane_of_cranes (State.writeCraneMirror_cranes ..), State.setCrane_crane]

theorem Crane.restarted_linkKept (c : Crane) : c.LinkKept c.restarted := by
  unfold Crane.restarted
  by_cases hl : c.link = .dormant
  · simp only [if_pos hl]
    split <;> exact .of_fields rfl rfl rfl rfl rfl
  · simp only [if_neg hl]
    split <;> exact .of_down (.inr ⟨rfl, hl, rfl⟩)

end

/-! ## Every command but POWER_ON_RESET -/

/-- Crane i takes parameters in range with a crane ID that no other attached crane has, and its link does not come up (R72, R73). -/
structure TakesParams (s t : State) (i : Fin 16) (d : Crane) : Prop where
  crane : ∀ j, t.crane j = if j = i then d else s.crane j
  grid : t.grid = s.grid
  inRange : d.params.inRange = true
  free : s.craneIdTaken i d.params.craneId = false
  heard : d.link = .linked ∨ d.link = .degraded →
    d.link = (s.crane i).link ∧ d.square = (s.crane i).square ∧ d.prevArrival = (s.crane i).prevArrival ∧
      d.heartbeat = (s.crane i).heartbeat

/-- All that commands and events do to the squares, the cell table and the link part of the cranes. -/
inductive GridMove : State → State → Prop
  | regrid {s t : State} (h : Regrids s t) : GridMove s t
  | links {s t : State} (h : LinksKept s t) (hq : t.grid.squares = s.grid.squares) (hc : t.grid.cells = s.grid.cells) : GridMove s t
  | params {s t : State} (i : Fin 16) (d : Crane) (h : TakesParams s t i d) : GridMove s t
  | uplink {s t : State} (i : Fin 16) (h : UplinkMove s t i) : GridMove s t
  | trans {s t u : State} (h : GridMove s t) (h' : GridMove t u) : GridMove s u

theorem GridMove.of_same {s t : State} (hc : t.cranes = s.cranes) (hg : t.grid = s.grid) : GridMove s t := .regrid (.of_same hc hg)

theorem GridMove.between {r s t u : State} (h : GridMove s t) (hs : s.cranes = r.cranes ∧ s.grid = r.grid)
    (hu : u.cranes = t.cranes ∧ u.grid = t.grid) : GridMove r u :=
  ((GridMove.of_same hs.1 hs.2).trans h).trans (.of_same hu.1 hu.2)

theorem event_gridMove {k : Work} {s t : State} {enabled : Bool} {f : State → State} (hf : ∀ u, GridMove u (f u))
    (h : event k s enabled f = .next t) : GridMove s t := by
  obtain rfl | ⟨-, -, -, rfl⟩ := event_cases h
  · exact .regrid .refl
  · exact (hf (s.beginEvent k)).between ⟨rfl, rfl⟩ ⟨State.finish_cranes _, State.finish_grid _⟩

theorem command_gridMove {k : Command} {s t : State} {f : State → State × ResultCode} (hf : ∀ u, GridMove u (f u).1)
    (h : command k s f = .next t) : GridMove s t :=
  event_gridMove (fun u => (hf u.take).between ⟨rfl, rfl⟩ ⟨State.complete_cranes _ _, State.complete_grid _ _⟩) h

theorem present_gridMove {x : Transfer} {s t : State} (h : present x s = .next t) : GridMove s t := by
  obtain rfl | ⟨-, -, rfl⟩ | ⟨-, -, rfl⟩ := present_cases h
  · exact .regrid .refl
  · exact .of_same rfl rfl
  · exact .links (s.takeTransfer_linksKept x) (by simp) (by simp)

section
variable (s : State)

theorem State.doAttachCrane_gridMove : GridMove s s.doAttachCrane.1 := by
  unfold State.doAttachCrane
  split
  · exact .regrid .refl
  next i _ =>
  split
  · exact .regrid .refl
  split
  · exact .regrid .refl
  next hrange =>
  split
  · exact .regrid .refl
  next hfree =>
  refine .params i (.attached s.craneArgs) ⟨fun j => ?_, by simp, ?_, ?_, fun h => ?_⟩
  · rw [State.crane_of_cranes (State.writeCraneMirror_cranes ..), State.setCrane_crane]
  · simpa only [Crane.attached, Bool.not_eq_true', Bool.not_eq_false] using hrange
  · exact Bool.eq_false_iff.2 hfree
  · obtain h | h := h <;> cases h

theorem State.doSetCraneParameters_gridMove : GridMove s s.doSetCraneParameters.1 := by
  unfold State.doSetCraneParameters
  split
  · exact .regrid .refl
  next i _ =>
  split
  · exact .regrid .refl
  split
  · exact .regrid .refl
  next hrange =>
  split
  · exact .regrid .refl
  next hfree =>
  exact .params i { s.crane i with params := s.craneArgs }
    ⟨fun j => State.setCrane_crane .., rfl, by simpa using hrange, by simpa using hfree, fun _ => ⟨rfl, rfl, rfl, rfl⟩⟩

end

theorem restarted_gridMove (s : State) (h : InHand) : GridMove s (s.restarted h) := by
  refine .links ⟨fun i => ?_⟩ ?_ ?_
  · rw [State.restarted_crane]
    exact Crane.restarted_linkKept _
  · simp [State.restarted, State.carryOut, State.doRestart, State.restartBlocks]
  · simp [State.restarted, State.carryOut, State.doRestart, State.restartBlocks]

theorem handleInHand_gridMove (s : State) (h : InHand) : GridMove s ((s.restarted h).handleInHand h) := by
  have hlater : ∀ (u v : State) (k : Work), GridMove s u → GridMove (u.beginEvent k) v → GridMove s v.finish := fun u v k hu hv =>
    hu.trans (hv.between ⟨rfl, rfl⟩ ⟨State.finish_cranes _, State.finish_grid _⟩)
  exact handleInHand_keeps (P := GridMove s) (restarted_gridMove s h)
    (fun u l a hu => hlater u _ _ hu (.regrid (State.measureRecord_regrids ..)))
    (fun u l a hu => hlater u _ _ hu (.regrid (State.reeferRecord_regrids ..)))
    (fun u l a hu => hlater u _ .timeJob hu (.of_same (by simp) (by simp)))

/-- Every command but POWER_ON_RESET moves the squares, the cell table and the links in these ways only. -/
theorem exec_gridMove {c : Instr} {s t : State} (h : exec c s = .next t) (hc : ∀ b m, c ≠ .powerOnReset b m) : GridMove s t := by
  by_cases htouch : .cranes ∈ touchedBy c ∨ .grid ∈ touchedBy c
  case neg =>
    obtain ⟨hcr, hg⟩ := not_or.1 htouch
    exact .of_same ((exec_frames h hc).cranes hcr) ((exec_frames h hc).grid hg)
  case pos =>
  have hdequeue : ∀ (u : State) q e, ((u.setIntake q).countTaken e).cranes = u.cranes ∧ ((u.setIntake q).countTaken e).grid = u.grid :=
    fun u q e => ⟨by simp, by simp⟩
  cases c <;> simp only [touchedBy, writeBlocks, List.mem_cons, List.not_mem_nil, reduceCtorEq, or_false, or_self] at htouch <;>
    simp only [exec] at h
  case powerOnReset b m => exact absurd rfl (hc b m)
  case readTransfer | writeTransfer | ringBaseWrite | ringLengthWrite | consumerIndexWrite => exact present_gridMove h
  case controlPageWrite =>
    obtain h | rfl := controlPageWrite_cases h
    · exact present_gridMove h
    · exact .regrid .refl
  case uplinkRecordDequeue =>
    refine event_gridMove (fun u => ?_) h
    split
    · next e rest _ =>
      refine GridMove.between (s := (u.setIntake { u.intake with uplink := rest }).countTaken e) ?_ (hdequeue u _ e) ⟨rfl, rfl⟩
      simp only
      split
      · exact .uplink _ (State.uplinkRecord_move ..)
      · exact .regrid .refl
    · exact .regrid .refl
  case measurementRecordDequeue =>
    refine event_gridMove (fun u => ?_) h
    split
    · next e rest _ =>
      exact GridMove.between (.regrid (State.measureRecord_regrids ..)) (hdequeue u { u.intake with measure := rest } e) ⟨rfl, rfl⟩
    · exact .regrid .refl
  case reeferReportDequeue =>
    refine event_gridMove (fun u => ?_) h
    split
    · next e rest _ =>
      exact GridMove.between (.regrid (State.reeferRecord_regrids ..)) (hdequeue u { u.intake with reefer := rest } e) ⟨rfl, rfl⟩
    · exact .regrid .refl
  case heartbeatExpiry i => exact event_gridMove (fun u => .links (u.expireHeartbeat_linksKept i) (by simp) (by simp)) h
  case slotExpiry i =>
    refine event_gridMove (fun u => ?_) h
    split
    · exact .links (u.expireSlot_linksKept i _) (by simp) (by simp)
    · exact .regrid .refl
  case agingPassStart =>
    obtain rfl | ⟨-, -, rfl⟩ := quietEvent_cases h
    · exact .regrid .refl
    · exact .regrid .of_grid
  case agingVisit =>
    refine event_gridMove (fun u => ?_) h
    split
    · exact .regrid (u.ageSquare_regrids _)
    · exact .regrid .refl
  case clearGridVisit =>
    refine event_gridMove (fun u => ?_) h
    split
    · exact .regrid (u.clearSquare_regrids _)
    · exact .regrid .refl
  case longOperationEnd =>
    refine event_gridMove (fun u => .links (.of_cranes (by simp)) ?_ ?_) h <;>
      simp [State.stopOperation, State.closeLong]
  case defineWindow => exact command_gridMove (fun u => .links u.doDefineWindow_linksKept (by simp) (by simp)) h
  case deleteWindow => exact command_gridMove (fun u => .links u.doDeleteWindow_linksKept (by simp) (by simp)) h
  case attachCrane => exact command_gridMove (fun u => u.doAttachCrane_gridMove) h
  case detachCrane => exact command_gridMove (fun u => .links u.doDetachCrane_linksKept (by simp) (by simp)) h
  case setCraneParameters => exact command_gridMove (fun u => u.doSetCraneParameters_gridMove) h
  case holdCrane => exact command_gridMove (fun u => .links (u.setHold_linksKept true) (by simp) (by simp)) h
  case releaseCrane => exact command_gridMove (fun u => .links (u.setHold_linksKept false) (by simp) (by simp)) h
  case setCell => exact command_gridMove (fun u => .regrid u.doSetCell_regrids) h
  case clearCell => exact command_gridMove (fun u => .regrid u.doClearCell_regrids) h
  case setCoverageParameters =>
    refine command_gridMove (fun u => ?_) h
    unfold State.doSetCoverageParameters
    split
    · exact .regrid .of_grid
    · exact .regrid .refl
  case clearGrid => exact command_gridMove (fun u => .regrid .of_grid) h
  case clearCounters => exact command_gridMove (fun u => .links (.of_cranes (by simp)) (by simp [State.doClearCounters]) (by simp [State.doClearCounters])) h
  case restart =>
    obtain rfl | ⟨-, -, rfl⟩ := restart_cases h
    · exact .regrid .refl
    · exact handleInHand_gridMove s _

end Sys2Proof.Machine
end

section
/-! SUPPORT. What every step keeps of the cranes, the cell table and the squares (R71, R72, R79, R83, R92, R96, R98). -/

namespace Sys2Proof.Machine

/-! ## Moves and steps -/

/-- What the moves keep and the power-on state has, every step keeps. -/
theorem step_keeps_of_gridMove {P : State → Prop} (hmove : ∀ s t, GridMove s t → P s → P t) (hon : ∀ s b m, P (State.powerOn s b m))
    {s t : State} (hs : P s) (h : step s = .next t) : P t := by
  refine step_keeps (fun u rest hu => hmove u _ (.of_same rfl rfl) hu) (fun c u v hu h => ?_) hs h
  by_cases hc : ∀ b m, c ≠ .powerOnReset b m
  · exact hmove u v (exec_gridMove h hc) hu
  · push Not at hc
    obtain ⟨b, m, rfl⟩ := hc
    exact powerOnReset_induction (P := P) (hon u b m)
      (fun w x hw => hmove w _ (.links (w.takeTransfer_linksKept x) (by simp) (by simp)) hw) h

/-- An uplink record handles its sample, if it has one, as a change of squares (R79). -/
theorem sampled_regrids {u v : State} {x : UplinkHeader} {arrival : Nat}
    (h : v = u ∨ ∃ segment level source, v = u.sample segment x.band x.serving level arrival source) : Regrids u v := by
  obtain rfl | ⟨_, _, _, rfl⟩ := h
  · exact .refl
  · exact u.sample_regrids ..

/-! ## LINKED cranes and weak squares (R71) -/

theorem OnlyCrane.linkedClear {s t : State} {i : Fin 16} {d : Crane} (h : OnlyCrane s t i d) (hs : LinkedClear (· ≠ i) s)
    (hd : d.link = .linked → s.weakAt d.square = false) : LinkedClear (fun _ => True) t := by
  intro j _ hl
  rw [h.crane] at hl ⊢
  rw [State.weakAt_of_grid h.grid]
  by_cases hj : j = i
  · rw [if_pos hj] at hl ⊢
    exact hd hl
  · rw [if_neg hj] at hl ⊢
    exact hs j hj hl

theorem OnlyCrane.linkedClear_others {s t : State} {i : Fin 16} {d : Crane} (h : OnlyCrane s t i d) (hs : LinkedClear (· ≠ i) s) :
    LinkedClear (· ≠ i) t := by
  intro j hj hl
  rw [h.crane, if_neg hj] at hl ⊢
  rw [State.weakAt_of_grid h.grid]
  exact hs j hj hl

theorem GridMove.linkedClear {s t : State} (h : GridMove s t) (hs : LinkedClear (fun _ => True) s) : LinkedClear (fun _ => True) t := by
  have hothers : ∀ {s : State} (i : Fin 16), LinkedClear (fun _ => True) s → LinkedClear (· ≠ i) s := fun i h => h.mono fun _ _ => trivial
  induction h with
  | regrid h => exact h.linkedClear hs
  | links h hq _ =>
    intro i _ hl
    obtain ⟨hlink, hsquare, -, -⟩ := (h.crane i).heard (.inl hl)
    rw [State.weakAt_of_squares hq, hsquare]
    exact hs i trivial (hlink ▸ hl)
  | @params s t i d h =>
    refine OnlyCrane.linkedClear (i := i) (d := d) (t := t.setTime s.time) ⟨h.crane, h.grid, rfl⟩ (hothers i hs) fun hl => ?_
    obtain ⟨hlink, hsquare, -, -⟩ := h.heard (.inl hl)
    rw [hsquare]
    exact hs i trivial (hlink ▸ hl)
  | @uplink s t i h =>
    cases h with
    | discarded hc hg => exact (Regrids.of_same hc hg).linkedClear hs
    | unused c o _ hc h =>
      refine h.linkedClear (hothers i hs) fun hl => ?_
      obtain ⟨hweak, hsquare⟩ := Crane.judgedOnRecord_linked hl
      rw [hsquare]
      exact hweak
    | used c x arrival now own u v hold hc hu hv h =>
      refine h.linkedClear ((sampled_regrids hv).linkedClear (hu.linkedClear_others (hothers i hs))) fun hl => ?_
      obtain ⟨hweak, hsquare⟩ := Crane.judgedOnRecord_linked hl
      exact hsquare ▸ hweak
  | trans _ _ ih ih' => exact ih' (ih hs)

/-- Settles O33: a square judges its cranes when its state changes, and a record judges its crane in the square as the sample leaves it. -/
theorem noLinkedCraneInWeakSquareKept : Obligations.NoLinkedCraneInWeakSquareKept := fun s t hs h => by
  rw [noLinkedCraneInWeakSquare_iff] at hs ⊢
  refine step_keeps_of_gridMove (P := LinkedClear fun _ => True) (fun _ _ hm => hm.linkedClear) (fun s b m i _ hl => ?_) hs h
  rw [State.powerOn_crane] at hl
  cases hl

/-! ## What judgements leave as it is (R84 to R86) -/

/-- Crane c has been judged and is d: its parameters, square, previous arrival and heartbeat timer are as before, it is as attached, and it
is LINKED or DEGRADED only where it was one of them or comes up. -/
structure Crane.Rejudged (up : Prop) (c d : Crane) : Prop where
  params : d.params = c.params
  square : d.square = c.square
  prevArrival : d.prevArrival = c.prevArrival
  heartbeat : d.heartbeat = c.heartbeat
  attached : d.link ≠ .dormant → c.link ≠ .dormant
  heard : d.link = .linked ∨ d.link = .degraded → c.link = .linked ∨ c.link = .degraded ∨ up

namespace Crane.Rejudged
variable {up : Prop} {c d e : Crane}

theorem refl (c : Crane) : Rejudged up c c := ⟨rfl, rfl, rfl, rfl, id, fun h => h.imp_right .inl⟩

theorem trans (h : Rejudged False c d) (h' : Rejudged False d e) : Rejudged False c e := by
  refine ⟨h'.params.trans h.params, h'.square.trans h.square, h'.prevArrival.trans h.prevArrival, h'.heartbeat.trans h.heartbeat,
    fun he => h.attached (h'.attached he), fun he => h.heard ?_⟩
  simpa using h'.heard he

theorem linked (hl : c.link = .linked ∨ c.link = .degraded ∨ up) (hc : c.link ≠ .dormant) : Rejudged up c { c with link := .linked } :=
  ⟨rfl, rfl, rfl, rfl, fun _ => hc, fun _ => hl⟩

theorem degradedAt (lt : Nat) (hl : c.link = .linked ∨ c.link = .degraded ∨ up) (hc : c.link ≠ .dormant) :
    Rejudged up c (c.degradedAt lt) := by
  obtain ⟨-, hp, hq, ha, hh, -, -⟩ := c.degradedAt_fields lt
  exact ⟨hp, hq, ha, hh, fun _ => hc, fun _ => hl⟩

end Crane.Rejudged

theorem Crane.judgedOnSquare_rejudged (c : Crane) (lt : Nat) (before after : SquareState) :
    c.Rejudged False (c.judgedOnSquare lt before after) := by
  unfold Crane.judgedOnSquare
  split
  · next hl =>
    split
    · exact .degradedAt lt (.inl hl) (by simp [hl])
    · exact .refl c
  · next hl =>
    split
    · exact .linked (.inr (.inl hl)) (by simp [hl])
    · exact .refl c
  · exact .refl c
  · exact .refl c

/-- Only a GOOD record brings a LOST crane up (R84). -/
theorem Crane.judgedOnRecord_rejudged (c : Crane) (lt : Nat) (own : UplinkOutcome) (weak : Bool) :
    c.Rejudged (own = .good) (c.judgedOnRecord lt own weak) := by
  unfold Crane.judgedOnRecord
  split
  · next hl =>
    split
    · next hg =>
      split
      · exact .degradedAt lt (.inr (.inr hg.1)) (by simp [hl])
      · exact .linked (.inr (.inr hg.1)) (by simp [hl])
    · exact .refl c
  · next hl =>
    split
    · exact .degradedAt lt (.inl hl) (by simp [hl])
    · exact .refl c
  · next hl =>
    split
    · exact .refl c
    · exact .linked (.inr (.inl hl)) (by simp [hl])
  · exact .refl c

theorem Regrids.rejudged {s t : State} (h : Regrids s t) (i : Fin 16) : (s.crane i).Rejudged False (t.crane i) := by
  induction h with
  | refl => exact .refl _
  | same _ hc _ _ ih => rw [State.crane_of_cranes hc]; exact ih
  | @change t _ q entries _ ih =>
    refine ih.trans ?_
    rw [State.changeSquare_crane]
    split
    · exact Crane.judgedOnSquare_rejudged ..
    · exact .refl _
  | place _ c x _ ih => exact ih

/-! ## The crane table (R72, R73, R79, R83) -/

/-- Every crane attached after a move was attached before, with its parameters. -/
def StaysAttached (s t : State) : Prop :=
  ∀ i, (t.crane i).link ≠ .dormant → (s.crane i).link ≠ .dormant ∧ (t.crane i).params = (s.crane i).params

theorem StaysAttached.idsDistinct {s t : State} (h : StaysAttached s t) (hs : CraneIdsDistinct s) : CraneIdsDistinct t := by
  obtain ⟨hrange, hids⟩ := hs
  refine ⟨fun i hi => ?_, fun i j hi hj he => ?_⟩
  · obtain ⟨hl, hp⟩ := h i hi
    rw [hp]
    exact hrange i hl
  · obtain ⟨hli, hpi⟩ := h i hi
    obtain ⟨hlj, hpj⟩ := h j hj
    rw [hpi, hpj] at he
    exact hids i j hli hlj he

theorem OnlyCrane.staysAttached {r s t : State} {i : Fin 16} {d : Crane} (h : OnlyCrane s t i d) (hs : StaysAttached r s)
    (hd : d.link ≠ .dormant → (r.crane i).link ≠ .dormant ∧ d.params = (r.crane i).params) : StaysAttached r t := by
  intro j hj
  rw [h.crane] at hj ⊢
  by_cases hji : j = i
  · rw [if_pos hji] at hj ⊢
    rw [hji]
    exact hd hj
  · rw [if_neg hji] at hj ⊢
    exact hs j hj

theorem StaysAttached.refl (s : State) : StaysAttached s s := fun _ h => ⟨h, rfl⟩

theorem UplinkMove.staysAttached {s t : State} {i : Fin 16} (h : UplinkMove s t i) : StaysAttached s t := by
  cases h with
  | discarded hc _ => exact fun i hi => by rw [State.crane_of_cranes hc] at hi ⊢; exact ⟨hi, rfl⟩
  | unused c o _ hc h =>
    obtain ⟨e, g, rfl⟩ := hc
    refine h.staysAttached (.refl s) fun hd => ?_
    have hj := Crane.judgedOnRecord_rejudged { s.crane i with errors := e, goodCount := g } s.time.lt o (s.weakAt (s.crane i).square)
    exact ⟨hj.attached hd, hj.params⟩
  | used c x arrival now own u v hold hc hu hv h =>
    obtain ⟨e, g, rfl⟩ := hc
    have hused : StaysAttached s u := hu.staysAttached (.refl s) fun hd => ⟨hd, rfl⟩
    have hsampled : StaysAttached s v := fun j hj => by
      have hr := (sampled_regrids hv).rejudged j
      obtain ⟨hl, hp⟩ := hused j (hr.attached hj)
      exact ⟨hl, hr.params.trans hp⟩
    refine h.staysAttached hsampled fun hd => ?_
    have hj := (v.crane i).judgedOnRecord_rejudged s.time.lt own (v.weakSquare i)
    obtain ⟨hl, hp⟩ := hsampled i (hj.attached hd)
    exact ⟨hl, hj.params.trans hp⟩

/-- A free crane ID in range keeps the IDs distinct (R72, R73). -/
theorem TakesParams.idsDistinct {s t : State} {i : Fin 16} {d : Crane} (h : TakesParams s t i d) (hs : CraneIdsDistinct s) :
    CraneIdsDistinct t := by
  obtain ⟨hrange, hids⟩ := hs
  have hfree : ∀ j, j ≠ i → (s.crane j).link ≠ .dormant → (s.crane j).params.craneId ≠ d.params.craneId := by
    intro j hj hl he
    have := h.free
    simp only [State.craneIdTaken, List.any_eq_false, List.mem_finRange, forall_const] at this
    exact this j (by simp [hj, hl, he])
  refine ⟨fun j hj => ?_, fun j k hj hk he => ?_⟩
  · rw [h.crane] at hj ⊢
    split
    · exact h.inRange
    · next hne => rw [if_neg hne] at hj; exact hrange j hj
  · rw [h.crane] at hj he
    rw [h.crane] at hk he
    by_cases hji : j = i <;> by_cases hki : k = i
    · rw [hji, hki]
    · rw [if_neg hki] at hk
      rw [if_pos hji, if_neg hki] at he
      exact absurd he.symm (hfree k hki hk)
    · rw [if_neg hji] at hj
      rw [if_neg hji, if_pos hki] at he
      exact absurd he (hfree j hji hj)
    · rw [if_neg hji] at hj
      rw [if_neg hki] at hk
      rw [if_neg hji, if_neg hki] at he
      exact hids j k hj hk he

theorem GridMove.idsDistinct {s t : State} (h : GridMove s t) (hs : CraneIdsDistinct s) : CraneIdsDistinct t := by
  induction h with
  | regrid h => exact StaysAttached.idsDistinct (fun i hi => ⟨(h.rejudged i).attached hi, (h.rejudged i).params⟩) hs
  | links h _ _ => exact StaysAttached.idsDistinct (fun i => (h.crane i).attached) hs
  | params i d h => exact h.idsDistinct hs
  | uplink i h => exact h.staysAttached.idsDistinct hs
  | trans _ _ ih ih' => exact ih' (ih hs)

/-- The crane is LINKED or DEGRADED only with a square, a previous arrival and a running heartbeat timer. -/
def Crane.Heard (c : Crane) : Prop :=
  c.link = .linked ∨ c.link = .degraded → c.square ≠ none ∧ c.prevArrival ≠ none ∧ c.heartbeat ≠ none

theorem Crane.Rejudged.keepsHeard {up : Prop} {c d : Crane} (h : c.Rejudged up d) (hup : ¬up) (hc : c.Heard) : d.Heard := by
  intro hd
  rw [h.square, h.prevArrival, h.heartbeat]
  exact hc ((h.heard hd).imp_right fun h => h.resolve_right hup)

theorem Crane.LinkKept.keepsHeard {c d : Crane} (h : c.LinkKept d) (hc : c.Heard) : d.Heard := by
  intro hd
  obtain ⟨hl, hq, ha, hh⟩ := h.heard hd
  rw [hq, ha, hh]
  exact hc (hl ▸ hd)

theorem GridMove.heard {s t : State} (h : GridMove s t) (hs : ∀ i, (s.crane i).Heard) : ∀ i, (t.crane i).Heard := by
  induction h with
  | regrid h => exact fun i => (h.rejudged i).keepsHeard id (hs i)
  | links h _ _ => exact fun i => (h.crane i).keepsHeard (hs i)
  | params i d h =>
    intro j
    rw [h.crane]
    split
    · intro hd
      obtain ⟨hl, hq, ha, hh⟩ := h.heard hd
      rw [hq, ha, hh]
      exact hs i (hl ▸ hd)
    · exact hs j
  | @uplink s t i h =>
    intro j
    cases h with
    | discarded hc _ => rw [State.crane_of_cranes hc]; exact hs j
    | unused c o ho hc h =>
      obtain ⟨e, g, rfl⟩ := hc
      rw [h.crane]
      split
      · exact (Crane.judgedOnRecord_rejudged ..).keepsHeard ho (hs i)
      · exact hs j
    | used c x arrival now own u v hold hc hu hv h =>
      have hsampled := (sampled_regrids hv).rejudged
      rw [h.crane]
      split
      · intro _
        have hj := (v.crane i).judgedOnRecord_rejudged s.time.lt own (v.weakSquare i)
        have hself := hsampled i
        rw [hu.self] at hself
        change Crane.square _ ≠ none ∧ Crane.prevArrival _ ≠ none ∧ Crane.heartbeat _ ≠ none
        refine ⟨?_, ?_, ?_⟩
        · exact (hj.square.trans hself.square).trans_ne (by simp [Crane.used])
        · exact (hj.prevArrival.trans hself.prevArrival).trans_ne (by simp [Crane.used])
        · exact (hj.heartbeat.trans hself.heartbeat).trans_ne (by simp [Crane.used])
      · next hji =>
        refine (hsampled j).keepsHeard id ?_
        rw [hu.crane, if_neg hji]
        exact hs j
  | trans _ _ ih ih' => exact ih' (ih hs)

/-! ## The squares and the cell table -/

/-- The squares change only as they take new entries. -/
theorem GridMove.squares {P : Vector Square 512 → Prop} {s t : State} (h : GridMove s t)
    (hregrid : ∀ s t : State, Regrids s t → P s.grid.squares → P t.grid.squares) (hs : P s.grid.squares) : P t.grid.squares := by
  induction h with
  | regrid h => exact hregrid _ _ h hs
  | links _ hq _ => rw [hq]; exact hs
  | params i d h => rw [h.grid]; exact hs
  | uplink i h =>
    cases h with
    | discarded _ hg => rw [hg]; exact hs
    | unused _ _ _ _ h => rw [h.grid]; exact hs
    | used _ _ _ _ _ u v _ _ hu hv h =>
      rw [h.grid]
      exact hregrid u v (sampled_regrids hv) (by rw [hu.grid]; exact hs)
  | trans _ _ ih ih' => exact ih' (ih hs)

theorem GridMove.summaryFits {s t : State} (h : GridMove s t) (hs : ∀ q, SummaryFits (s.square q)) : ∀ q, SummaryFits (t.square q) :=
  h.squares (P := fun l => ∀ q, SummaryFits (l.get q)) (fun _ _ h => h.summaryFits) hs

theorem GridMove.estimateInRange {s t : State} (h : GridMove s t) (hs : ∀ q c, EstimateInRange ((s.square q).entries.get c)) :
    ∀ q c, EstimateInRange ((t.square q).entries.get c) :=
  h.squares (P := fun l => ∀ q c, EstimateInRange ((l.get q).entries.get c)) (fun _ _ h => h.estimateInRange) hs

theorem GridMove.cellsDistinct {s t : State} (h : GridMove s t) (hs : CellsDistinct s) : CellsDistinct t := by
  have hsame : ∀ {s t : State}, t.grid.cells = s.grid.cells → CellsDistinct s → CellsDistinct t := fun hc hs => by
    simpa only [CellsDistinct, hc] using hs
  induction h with
  | regrid h => exact h.cellsDistinct hs
  | links _ _ hc => exact hsame hc hs
  | params i d h => exact hsame (by rw [h.grid]) hs
  | uplink i h =>
    cases h with
    | discarded _ hg => exact hsame (by rw [hg]) hs
    | unused _ _ _ _ h => exact hsame (by rw [h.grid]) hs
    | used _ _ _ _ _ u v _ _ hu hv h =>
      exact hsame (by rw [h.grid]) ((sampled_regrids hv).cellsDistinct (hsame (by rw [hu.grid]) hs))
  | trans _ _ ih ih' => exact ih' (ih hs)

end Sys2Proof.Machine
end

section
/-! SUPPORT. One reefer entry through a report (R120 to R142), and the lookups of the reefer table (R114, R117, R118). -/

namespace Sys2Proof.Machine

/-! ## Lookups (R114) -/

theorem firstIndex_eq_some_iff {α : Type} {n : Nat} {v : Vector α n} {p : α → Bool} {i : Fin n} :
    firstIndex v p = some i ↔ p (v.get i) = true ∧ ∀ j < i, p (v.get j) = false := by
  refine ⟨firstIndex_some, fun ⟨hi, hbefore⟩ => ?_⟩
  cases h : firstIndex v p with
  | none => rw [firstIndex_none h i] at hi; cases hi
  | some j =>
    obtain ⟨hj, hjbefore⟩ := firstIndex_some h
    obtain hlt | rfl | hgt := lt_trichotomy i j
    · rw [hjbefore i hlt] at hi; cases hi
    · rfl
    · rw [hbefore j hgt] at hj; cases hj

theorem firstIndex_eq_none_iff {α : Type} {n : Nat} {v : Vector α n} {p : α → Bool} :
    firstIndex v p = none ↔ ∀ i, p (v.get i) = false := by
  refine ⟨firstIndex_none, fun h => ?_⟩
  cases hi : firstIndex v p with
  | none => rfl
  | some i => have := (firstIndex_some hi).1; rw [h i] at this; cases this

/-- The model's lookup of a tag is that of R114. -/
theorem holder_eq_some_iff {s : State} {tag : Nat} {n : Fin 4096} : s.reefer.holder tag = some n ↔ Holds s n tag := by
  rw [ReeferTable.holder, firstIndex_eq_some_iff]
  simp only [Bool.and_eq_true, bne_iff_ne, beq_iff_eq, Bool.and_eq_false_iff, bne_eq_false_iff_eq, beq_eq_false_iff_ne, and_assoc]
  rfl

theorem holder_eq_none_iff {s : State} {tag : Nat} : s.reefer.holder tag = none ↔ NotHeld s tag := by
  rw [ReeferTable.holder, firstIndex_eq_none_iff]
  simp only [Bool.and_eq_false_iff, bne_eq_false_iff_eq, beq_eq_false_iff_ne]
  rfl

theorem lowestVacant_eq_some_iff {s : State} {n : Fin 4096} : s.reefer.lowestVacant = some n ↔
    (s.entry n).state = .vacant ∧ ∀ m < n, (s.entry m).state ≠ .vacant := by
  rw [ReeferTable.lowestVacant, firstIndex_eq_some_iff]
  simp only [beq_iff_eq, beq_eq_false_iff_ne]
  rfl

theorem lowestVacant_eq_none_iff {s : State} : s.reefer.lowestVacant = none ↔ ∀ n, (s.entry n).state ≠ .vacant := by
  rw [ReeferTable.lowestVacant, firstIndex_eq_none_iff]
  simp only [beq_eq_false_iff_ne]
  rfl

/-! ## The victim of an eviction (R118) -/

/-- The result of the search for the oldest SILENT entry among numbered entries. -/
def OldestSilent (l : List (ReeferEntry × Nat)) : Option (Nat × Nat) → Prop
  | none => ∀ x ∈ l, x.1.state ≠ .silent
  | some (n, t) => (∃ x ∈ l, x.2 = n ∧ x.1.lastHeard = t ∧ x.1.state = .silent) ∧
      ∀ x ∈ l, x.1.state = .silent → t < x.1.lastHeard ∨ (t = x.1.lastHeard ∧ n ≤ x.2)

theorem OldestSilent.olderSilent {l : List (ReeferEntry × Nat)} {best : Option (Nat × Nat)} (h : OldestSilent l best)
    {x : ReeferEntry × Nat} (hx : ∀ y ∈ l, y.2 < x.2) : OldestSilent (l ++ [x]) (olderSilent best x.2 x.1) := by
  unfold Machine.olderSilent
  by_cases hs : x.1.state = .silent
  · rw [if_pos hs]
    cases best with
    | none =>
      refine ⟨⟨x, by simp, rfl, rfl, hs⟩, List.forall_mem_append.2 ⟨fun y hy hys => absurd hys (h y hy), ?_⟩⟩
      exact List.forall_mem_singleton.2 fun _ => .inr ⟨rfl, le_rfl⟩
    | some b =>
      obtain ⟨n, t⟩ := b
      obtain ⟨⟨y, hy, hn, ht, hys⟩, hbest⟩ := h
      have hny : n < x.2 := hn ▸ hx y hy
      simp only
      split
      · next hlt =>
        refine ⟨⟨x, by simp, rfl, rfl, hs⟩, List.forall_mem_append.2 ⟨fun z hz hzs => ?_,
          List.forall_mem_singleton.2 fun _ => .inr ⟨rfl, le_rfl⟩⟩⟩
        have := hbest z hz hzs
        omega
      · next hge =>
        refine ⟨⟨y, by simp [hy], hn, ht, hys⟩, List.forall_mem_append.2 ⟨hbest, List.forall_mem_singleton.2 fun _ => ?_⟩⟩
        omega
  · rw [if_neg hs]
    cases best with
    | none => exact List.forall_mem_append.2 ⟨h, List.forall_mem_singleton.2 hs⟩
    | some b =>
      obtain ⟨⟨y, hy, hyb⟩, hbest⟩ := h
      exact ⟨⟨y, by simp [hy], hyb⟩, List.forall_mem_append.2 ⟨hbest, List.forall_mem_singleton.2 fun h => absurd h hs⟩⟩

theorem oldestSilent_fold (l : List (ReeferEntry × Nat)) (hl : (l.map (·.2)).Pairwise (· < ·)) :
    OldestSilent l (l.foldl (fun best x => olderSilent best x.2 x.1) none) := by
  induction l using List.reverseRecOn with
  | nil => simp [OldestSilent]
  | append_singleton l x ih =>
    rw [List.map_append, List.pairwise_append] at hl
    obtain ⟨hl, -, hx⟩ := hl
    rw [List.foldl_append]
    exact (ih hl).olderSilent fun y hy => hx _ (List.mem_map_of_mem hy) _ (by simp)

theorem mem_zipIdx_toList {α : Type} {n : Nat} (v : Vector α n) (x : α × Nat) :
    x ∈ v.toList.zipIdx ↔ ∃ i : Fin n, x = (v.get i, i.val) := by
  obtain ⟨a, k⟩ := x
  rw [List.mem_zipIdx_iff_getElem?]
  constructor
  · intro h
    obtain ⟨hk, ha⟩ := List.getElem?_eq_some_iff.1 h
    have hk : k < n := by simpa using hk
    exact ⟨⟨k, hk⟩, Prod.ext ha.symm rfl⟩
  · rintro ⟨i, hi⟩
    obtain ⟨rfl, rfl⟩ := Prod.mk.inj hi
    rw [List.getElem?_eq_getElem (by simp)]
    rfl

/-- The model's victim is the SILENT entry heard longest ago, ties to the lower index. -/
theorem victim_spec (s : State) : match s.reefer.victim with
    | none => ∀ n, (s.entry n).state ≠ .silent
    | some n => (s.entry n).state = .silent ∧ ∀ m, (s.entry m).state = .silent → (s.entry n).lastHeard < (s.entry m).lastHeard ∨
        ((s.entry n).lastHeard = (s.entry m).lastHeard ∧ n ≤ m) := by
  have hsorted : (s.reefer.entries.toList.zipIdx.map (·.2)).Pairwise (· < ·) := by
    rw [List.zipIdx_map_snd]
    exact List.pairwise_lt_range'
  have h := oldestSilent_fold _ hsorted
  have hmem : ∀ i : Fin 4096, (s.entry i, i.val) ∈ s.reefer.entries.toList.zipIdx := fun i => (mem_zipIdx_toList _ _).2 ⟨i, rfl⟩
  unfold ReeferTable.victim
  generalize s.reefer.entries.toList.zipIdx.foldl (fun best x => olderSilent best x.2 x.1) none = best at h
  cases best with
  | none => exact fun n => h _ (hmem n)
  | some b =>
    obtain ⟨k, t⟩ := b
    obtain ⟨⟨x, hx, hk, ht, hsilent⟩, hbest⟩ := h
    obtain ⟨i, rfl⟩ := (mem_zipIdx_toList _ _).1 hx
    obtain rfl : i.val = k := hk
    obtain rfl : (s.entry i).lastHeard = t := ht
    simp only [asIndex_val]
    exact ⟨hsilent, fun m hm => hbest _ (hmem m) hm⟩

/-- The model's place for a new tag is that of R117 and R118. -/
theorem placeFor_eq_some_iff {s : State} {n : Fin 4096} {evicted : Bool} :
    s.reefer.placeFor = some (n, evicted) ↔ PlaceForNewTag s n evicted := by
  have hv := victim_spec s
  unfold ReeferTable.placeFor
  cases hl : s.reefer.lowestVacant with
  | some m =>
    obtain ⟨hvacant, hlow⟩ := lowestVacant_eq_some_iff.1 hl
    cases evicted with
    | false =>
      simp only [Option.some.injEq, Prod.mk.injEq, and_true, PlaceForNewTag, Bool.false_eq_true, if_false]
      refine ⟨fun h => h ▸ ⟨hvacant, hlow⟩, fun ⟨hn, hnlow⟩ => ?_⟩
      obtain h | h | h := lt_trichotomy m n
      · exact absurd hvacant (hnlow m h)
      · exact h
      · exact absurd hn (hlow n h)
    | true => simpa [PlaceForNewTag] using fun h => absurd hvacant (h m)
  | none =>
    have hfull := lowestVacant_eq_none_iff.1 hl
    cases evicted with
    | false => simpa [PlaceForNewTag] using fun h => absurd h (hfull n)
    | true =>
      simp only [PlaceForNewTag, if_true]
      cases hvictim : s.reefer.victim with
      | none =>
        rw [hvictim] at hv
        simpa using fun _ h => absurd h (hv n)
      | some m =>
        rw [hvictim] at hv
        obtain ⟨hsilent, hold⟩ := hv
        simp only [Option.map_some, Option.some.injEq, Prod.mk.injEq, and_true]
        refine ⟨fun h => h ▸ ⟨hfull, hsilent, hold⟩, fun ⟨_, hn, hnold⟩ => ?_⟩
        have h1 := hold n hn
        have h2 := hnold m hsilent
        omega

theorem placeFor_eq_none_iff {s : State} : s.reefer.placeFor = none ↔ ∀ n, (s.entry n).state ≠ .vacant ∧ (s.entry n).state ≠ .silent := by
  have hv := victim_spec s
  unfold ReeferTable.placeFor
  cases hl : s.reefer.lowestVacant with
  | some m =>
    obtain ⟨hvacant, -⟩ := lowestVacant_eq_some_iff.1 hl
    simpa using ⟨m, fun h => absurd hvacant h⟩
  | none =>
    have hfull := lowestVacant_eq_none_iff.1 hl
    cases hvictim : s.reefer.victim with
    | none =>
      rw [hvictim] at hv
      simpa using fun n => ⟨hfull n, hv n⟩
    | some m =>
      rw [hvictim] at hv
      simpa using ⟨m, fun _ => hv.1⟩

/-! ## Bookkeeping (R120 to R125) -/

theorem alarmSet_fold (l acc : List Nat) (hacc : acc.Nodup) :
    (l.foldl (fun l c => if c = 0 ∨ c ∈ l then l else l ++ [c]) acc).Nodup ∧
      (l.foldl (fun l c => if c = 0 ∨ c ∈ l then l else l ++ [c]) acc).length ≤ acc.length + l.length := by
  induction l generalizing acc with
  | nil => exact ⟨hacc, by simp⟩
  | cons c l ih =>
    rw [List.foldl_cons]
    split
    · obtain ⟨h1, h2⟩ := ih acc hacc
      exact ⟨h1, h2.trans (by simp)⟩
    · next hc =>
      obtain ⟨h1, h2⟩ := ih (acc ++ [c]) (hacc.append (by simp) (by simpa using fun h => hc (.inr h)))
      exact ⟨h1, h2.trans (by simp; omega)⟩

theorem alarmSet_nodup (count : Nat) (places : List Nat) : (alarmSet count places).Nodup := (alarmSet_fold _ [] .nil).1

theorem alarmSet_length (count : Nat) (places : List Nat) : (alarmSet count places).length ≤ 6 := by
  have := (alarmSet_fold (places.take (min count 6)) [] .nil).2
  rw [List.length_take, List.length_nil] at this
  unfold alarmSet
  omega

/-- Two alarm lists hold the same codes exactly when their sets of codes agree (R122). -/
theorem sameAlarms_iff (a b : List Nat) : sameAlarms a b = true ↔ a.toFinset = b.toFinset := by
  simp only [sameAlarms, Bool.and_eq_true, List.all_eq_true, List.contains_iff_mem, Finset.ext_iff, List.mem_toFinset]
  exact ⟨fun ⟨h1, h2⟩ x => ⟨h1 x, h2 x⟩, fun h => ⟨fun x hx => (h x).1 hx, fun x hx => (h x).2 hx⟩⟩

section
variable (e : ReeferEntry)

theorem ReeferEntry.revived_eq : e.revived = { e with
    state := if e.state = .enrolled then .active
      else if e.state = .silent then (if e.wasInExcursion then .excursion else .active) else e.state
    wasInExcursion := if e.state = .enrolled ∨ e.state = .silent then false else e.wasInExcursion } := by
  obtain ⟨state, _⟩ := e
  cases state <;> rfl

theorem ReeferEntry.alarmed_eq (count : Nat) (places : List Nat) : e.alarmed count places = { e with
    alarmClamp := decide (6 < count)
    alarms := if e.alarms.toFinset = (alarmSet count places).toFinset then e.alarms else alarmSet count places } := by
  simp only [ReeferEntry.alarmed, ← sameAlarms_iff]

theorem Power.ofReport_eq (value : Nat) : Power.ofReport value = if value = 2 then .off else if value = 3 then .defrost else .on := by
  unfold Power.ofReport
  split <;> simp_all

theorem ReeferEntry.repointed_eq (raw : Int) : e.repointed raw =
    let sp := max (-3000) (min 3000 raw)
    let changed := e.setpoint ≠ none ∧ e.setpoint ≠ some sp
    { e with
      setpointClamp := decide (raw < -3000 ∨ 3000 < raw)
      setpoint := some sp
      accumulator := if changed then 0 else e.accumulator
      inBandCount := if changed then 0 else e.inBandCount
      excess := if changed then 0 else e.excess
      side := if changed then .inBand else e.side
      state := if changed ∧ e.state = .excursion then .active else e.state } := by
  have hclamp : (max (-3000) (min 3000 raw) != raw) = decide (raw < -3000 ∨ 3000 < raw) := by
    rw [Bool.eq_iff_iff]
    simp only [bne_iff_ne, ne_eq, decide_eq_true_eq]
    omega
  have hsp : clamp (-3000) 3000 raw = max (-3000) (min 3000 raw) := rfl
  simp only [ReeferEntry.repointed, hsp, hclamp]
  by_cases hc : e.setpoint ≠ none ∧ e.setpoint ≠ some (max (-3000) (min 3000 raw))
  · rw [if_pos hc]
    simp only [hc.1, hc.2, ne_eq, not_false_eq_true, true_and, if_true]
  · rw [if_neg hc]
    simp only [if_neg hc, if_neg (fun h : _ ∧ e.state = .excursion => hc h.1)]

/-- Steps 2 to 8 of a used report are the bookkeeping of R120 to R125. -/
theorem ReeferEntry.bookkept_eq (r : ReeferReport) (a : Nat) :
    (((((e.accepted r.sequence).revived.alarmed r.alarmCount r.alarmPlaces).powered r.power a).repointed r.setpoint).heard a) =
      Bookkept e r a := by
  have hpower : decide (r.power < 1 ∨ 3 < r.power) = decide (r.power ≠ 1 ∧ r.power ≠ 2 ∧ r.power ≠ 3) := by
    rw [decide_eq_decide]; omega
  rw [ReeferEntry.repointed_eq, ReeferEntry.alarmed_eq, ReeferEntry.revived_eq]
  simp only [ReeferEntry.powered, ReeferEntry.accepted, ReeferEntry.heard, Power.ofReport_eq, hpower]
  rfl

/-! ## The excursion arithmetic (R133 to R142) -/

theorem measured_eq (r : ReeferReport) : measured r.supply r.returnAir = TemperatureOf r := rfl

theorem filteredNext_eq (f : Option Int) (shift : Nat) (t : Int) : filteredNext f shift t = match f with
    | none => t
    | some v =>
      let q := Int.tdiv (t - v) (2 ^ shift)
      if q ≠ 0 then v + q else if v < t then v + 1 else if t < v then v - 1 else v := by
  cases f with
  | none => rfl
  | some v => exact add_filterStep t v shift

theorem satAdd_contribution (c : Criteria) (i : ArithmeticInput) : satAdd e.accumulator (contribution e c i) = AccumulatorAfter e c i := by
  unfold satAdd contribution excused elapsed AccumulatorAfter
  cases i.defrostStart <;> simp [counterMax, and_assoc]

/-- The excess and the side of a deviation (R139). -/
theorem bandTest_eq (c : Criteria) (dev : Int) : bandTest c dev =
    let side : Side := if (c.upper : Int) < dev then .above else if dev < -(c.lower : Int) then .below else .inBand
    (if side = .above then (dev - c.upper).toNat else if side = .below then (-(c.lower : Int) - dev).toNat else 0, side) := by
  unfold bandTest
  split
  · rfl
  · split <;> rfl

theorem ReeferEntry.declared_eq (c : Criteria) : e.declared c =
    { e with state := if e.state = .active ∧ 60 * c.limit ≤ e.accumulator then .excursion else e.state } := by
  unfold ReeferEntry.declared
  split <;> rfl

theorem ReeferEntry.settled_eq (c : Criteria) : e.settled c =
    { e with
      inBandCount := e.countNext c
      accumulator := if e.countNext c = c.settle then 0 else e.accumulator
      state := if e.countNext c = c.settle ∧ e.state = .excursion then .active else e.state } := by
  unfold ReeferEntry.settled
  by_cases h : e.countNext c = c.settle
  · simp only [h, if_true, true_and]
  · simp only [h, if_false, false_and]

/-- An entry with a temperature goes through the arithmetic of R133 to R142. -/
theorem ReeferEntry.arithmetic_eq (c : Criteria) (i : ArithmeticInput) (raw : Int) :
    ((e.charged c i raw).declared c).settled c = Arithmetic e c i raw := by
  have hclamp : (clamp (-4000) 4000 raw != raw) = decide (raw < -4000 ∨ 4000 < raw) := by
    rw [Bool.eq_iff_iff]
    simp only [bne_iff_ne, ne_eq, decide_eq_true_eq, clamp]
    omega
  rw [ReeferEntry.settled_eq, ReeferEntry.declared_eq]
  simp only [ReeferEntry.charged, hclamp, satAdd_contribution, filteredNext_eq, bandTest_eq, ReeferEntry.countNext]
  rfl

end

end Sys2Proof.Machine
end

section
/-! SUPPORT. A used report as a whole (R120 to R143): its notices, its sample, its entry, and their order. -/

namespace Sys2Proof.Machine

/-! ## Notices raised one after another -/

/-- Notices are raised in order, each with a stamp taken then. -/
def State.raiseNotices (s : State) (l : List Notice) : State :=
  l.foldl (fun t x => t.raise x.kind x.subject x.value1 x.value2 x.value3) s

theorem State.raiseNotices_append (s : State) (l l' : List Notice) : s.raiseNotices (l ++ l') = (s.raiseNotices l).raiseNotices l' :=
  List.foldl_append ..

theorem State.raiseNotices_nil (s : State) : s.raiseNotices [] = s := rfl

theorem State.raiseNotices_emits (s : State) (l : List Notice) : Emits s (s.raiseNotices l) := Emits.foldl (fun u _ => u.raise_emits ..) l s

/-- Raised notices touch the Notice Unit and what the event has gathered, and no other block. -/
theorem State.raiseNotices_eq (s : State) (l : List Notice) : ∃ u x, s.raiseNotices l = (s.setNotice u).setScratch x ∧
    x.deferred = s.scratch.deferred ∧ ((∀ y ∈ l, y.stamp = s.stamp) → u = l.foldl NoticeUnit.take s.notice) := by
  induction l generalizing s with
  | nil => exact ⟨s.notice, s.scratch, rfl, rfl, fun _ => rfl⟩
  | cons y l ih =>
    obtain ⟨u, x, h, hdeferred, hu⟩ := ih (s.raise y.kind y.subject y.value1 y.value2 y.value3)
    refine ⟨u, x, h, hdeferred, fun hl => ?_⟩
    have hy : y.stamp = s.stamp := hl y (by simp)
    rw [hu fun z hz => (hl z (by simp [hz])).trans rfl, List.foldl_cons, State.raise_notice, ← hy]

section
variable (s : State) (l : List Notice)

@[simp] theorem State.raiseNotices_time : (s.raiseNotices l).time = s.time := by obtain ⟨u, x, h, -⟩ := s.raiseNotices_eq l; rw [h]; rfl
@[simp] theorem State.raiseNotices_arb : (s.raiseNotices l).arb = s.arb := by obtain ⟨u, x, h, -⟩ := s.raiseNotices_eq l; rw [h]; rfl
@[simp] theorem State.raiseNotices_cpb : (s.raiseNotices l).cpb = s.cpb := by obtain ⟨u, x, h, -⟩ := s.raiseNotices_eq l; rw [h]; rfl
@[simp] theorem State.raiseNotices_windows : (s.raiseNotices l).windows = s.windows := by
  obtain ⟨u, x, h, -⟩ := s.raiseNotices_eq l; rw [h]; rfl
@[simp] theorem State.raiseNotices_cranes : (s.raiseNotices l).cranes = s.cranes := by
  obtain ⟨u, x, h, -⟩ := s.raiseNotices_eq l; rw [h]; rfl
@[simp] theorem State.raiseNotices_grid : (s.raiseNotices l).grid = s.grid := by obtain ⟨u, x, h, -⟩ := s.raiseNotices_eq l; rw [h]; rfl
@[simp] theorem State.raiseNotices_reefer : (s.raiseNotices l).reefer = s.reefer := by
  obtain ⟨u, x, h, -⟩ := s.raiseNotices_eq l; rw [h]; rfl

theorem State.raiseNotices_stamp : (s.raiseNotices l).stamp = s.stamp := by
  have h := s.raiseNotices_time l
  exact State.stamp_congr (by rw [h]) (by rw [h]) (by rw [h])

theorem State.raiseNotices_notice (h : ∀ y ∈ l, y.stamp = s.stamp) : (s.raiseNotices l).notice = l.foldl NoticeUnit.take s.notice := by
  obtain ⟨u, x, he, -, hu⟩ := s.raiseNotices_eq l
  rw [he]
  exact hu h

end

/-! ## The notices of a report (R121, R122, R124, R143) -/

section
variable (s : State) (n : Fin 4096) (e : ReeferEntry) (r : ReeferReport) (a : Nat)

/-- RETURNED with the state the entry comes back to (R121). -/
theorem State.noticeReturn_eq (now : Stamp) : s.noticeReturn n (e.accepted r.sequence) (e.accepted r.sequence).revived a =
    s.raiseNotices (if e.state = .silent then
      [noticeOf .returned n.val now e.tag ((a - e.lastHeard) / 1000000) (if e.wasInExcursion then 3 else 2)] else []) := by
  have hstate : (e.accepted r.sequence).state = e.state := rfl
  unfold State.noticeReturn
  rw [hstate]
  by_cases hs : e.state = .silent
  · have hcode : (e.accepted r.sequence).revived.state.code = if e.wasInExcursion then 3 else 2 := by
      rw [ReeferEntry.revived_eq]
      simp only [hstate, hs, reduceCtorEq, if_false, if_true]
      change (if e.wasInExcursion = true then ReeferState.excursion else ReeferState.active).code = _
      split <;> rfl
    rw [if_pos hs, if_pos hs, hcode]
    rfl
  · rw [if_neg hs, if_neg hs]
    rfl

/-- ALARM_CHANGE with the new list (R122). -/
theorem State.noticeAlarms_eq (now : Stamp) (before after : ReeferEntry) : s.noticeAlarms n before after =
    s.raiseNotices (if before.alarms = after.alarms then []
      else [noticeOf .alarmChange n.val now before.tag after.alarms.length (after.alarms.getD 0 0 + 256 * after.alarms.getD 1 0 +
        65536 * after.alarms.getD 2 0 + 16777216 * after.alarms.getD 3 0)]) := by
  unfold State.noticeAlarms
  split <;> rfl

/-- SETPOINT_CHANGE with the old and the new setpoint (R124). -/
theorem State.noticeSetpoint_eq (now : Stamp) (before after : ReeferEntry) : s.noticeSetpoint n before after =
    s.raiseNotices (match before.setpoint, after.setpoint with
      | some old, some new => if old = new then [] else
        [{ kind := .setpointChange, subject := n.val, stamp := now, value1 := BitVec.ofNat 32 before.tag,
           value2 := BitVec.ofInt 32 old, value3 := BitVec.ofInt 32 new }]
      | _, _ => []) := by
  unfold State.noticeSetpoint
  cases before.setpoint <;> cases after.setpoint <;> [rfl; rfl; rfl; (simp only; split <;> rfl)]

theorem State.reeferSample_congr {e e' : ReeferEntry} (h : e.square = e'.square) : s.reeferSample n e r a = s.reeferSample n e' r a := by
  unfold State.reeferSample
  rw [h]

/-- A notice of the arithmetic, raised at entry n with the stamp now. -/
def ArithmeticNotice.raisedAt (x : ArithmeticNotice) (n : Fin 4096) (now : Stamp) : Notice :=
  ⟨x.kind, n.val, now, x.value1, x.value2, x.value3⟩

theorem raiseNotices_raisedAt (now : Stamp) (l : List ArithmeticNotice) :
    l.foldl (fun t x => t.raise x.kind n.val x.value1 x.value2 x.value3) s = s.raiseNotices (l.map (·.raisedAt n now)) := by
  rw [State.raiseNotices, List.foldl_map]
  rfl

/-- The signed excess word of R143, for an excess that is 0 within the band. -/
theorem signedExcess_eq {x : Nat} {side : Side} (h : side = .inBand → x = 0) :
    signedExcess x side = if side = .below then -(x : Int) else x := by
  cases side <;> simp_all [signedExcess]

/-- Declaration makes an ACTIVE entry EXCURSION, and no other (R141). -/
theorem ReeferEntry.declares_iff (b : ReeferEntry) (c : Criteria) : b.state ≠ .excursion ∧ (b.declared c).state = .excursion ↔
    b.state = .active ∧ 60 * c.limit ≤ b.accumulator := by
  rw [ReeferEntry.declared_eq]
  simp only
  by_cases h : b.state = .active ∧ 60 * c.limit ≤ b.accumulator
  · simp [h]
  · simp only [h, iff_false, not_and, if_false]
    exact id

/-- Settling clears an EXCURSION when the in-band count reaches its settle count (R142). -/
theorem ReeferEntry.clears_iff (b : ReeferEntry) (c : Criteria) :
    (b.declared c).state = .excursion ∧ ((b.declared c).settled c).state ≠ .excursion ↔
      ((b.state = .active ∧ 60 * c.limit ≤ b.accumulator) ∨ b.state = .excursion) ∧ b.countNext c = c.settle := by
  have hcount : (b.declared c).countNext c = b.countNext c := by rw [ReeferEntry.declared_eq]; rfl
  have hstate : (b.declared c).state = .excursion ↔ (b.state = .active ∧ 60 * c.limit ≤ b.accumulator) ∨ b.state = .excursion := by
    rw [ReeferEntry.declared_eq]
    simp only
    split <;> simp_all
  rw [← hstate, ReeferEntry.settled_eq, hcount]
  refine and_congr_right fun h => ?_
  simp only [h, and_true]
  split <;> simp_all

/-- The notices of an entry that has been charged, before they are raised (R143). -/
def ReeferEntry.excursionNotices (x : ReeferEntry) (c : Criteria) : List ArithmeticNotice :=
  (if x.state ≠ .excursion ∧ (x.declared c).state = .excursion then
    [⟨.excursionStart, word (stampLow x.outOfBandSince), word x.accumulator, wordI (signedExcess x.excess x.side)⟩] else []) ++
  (if (x.declared c).state = .excursion ∧ ((x.declared c).settled c).state ≠ .excursion then
    [⟨.excursionClear, word (stampLow x.outOfBandSince), word x.accumulator, wordI (x.filtered.getD 0)⟩] else [])

theorem ReeferEntry.arithmetic_some (b : ReeferEntry) (c : Criteria) (i : ArithmeticInput) {supply returnAir raw : Int}
    (h : measured supply returnAir = some raw) : b.arithmetic c i supply returnAir =
      (((b.charged c i raw).declared c).settled c, (b.charged c i raw).excursionNotices c) := by
  rw [ReeferEntry.arithmetic, h]
  rfl

/-- The arithmetic's notices after the charge, in the terms of R143. -/
theorem excursionNotices_eq (c : Criteria) (now : Stamp) {raw : Int} (hraw : TemperatureOf r = some raw) :
    (((Bookkept e r a).charged c (InputOf e a now) raw).excursionNotices c).map (·.raisedAt n now) =
      ExcursionNotices n.val e c r a now := by
  have hnone : TemperatureOf r ≠ none := by simp [hraw]
  have hafter : AfterReport e c r a now = ((((Bookkept e r a).charged c (InputOf e a now) raw).declared c).settled c) := by
    rw [ReeferEntry.arithmetic_eq, AfterReport, hraw]
  have htotal : AccumulatorAfter (Bookkept e r a) c (InputOf e a now) = ((Bookkept e r a).charged c (InputOf e a now) raw).accumulator :=
    (satAdd_contribution ..).symm
  have hstate : (Bookkept e r a).state = ((Bookkept e r a).charged c (InputOf e a now) raw).state := rfl
  have hexcess : ((Bookkept e r a).charged c (InputOf e a now) raw).side = .inBand →
      ((Bookkept e r a).charged c (InputOf e a now) raw).excess = 0 := by
    simp only [ReeferEntry.charged, bandTest_eq]
    intro h
    rw [h]
    rfl
  simp only [ExcursionNotices, if_neg hnone, hafter, htotal, hstate]
  generalize (Bookkept e r a).charged c (InputOf e a now) raw = x at hexcess
  have hcount : (((x.declared c).settled c).inBandCount = c.settle) = (x.countNext c = c.settle) := by
    rw [ReeferEntry.settled_eq, ReeferEntry.declared_eq]; rfl
  have hx : ((x.declared c).settled c).outOfBandSince = x.outOfBandSince ∧ ((x.declared c).settled c).side = x.side ∧
      ((x.declared c).settled c).excess = x.excess ∧ ((x.declared c).settled c).filtered = x.filtered := by
    rw [ReeferEntry.settled_eq, ReeferEntry.declared_eq]; exact ⟨rfl, rfl, rfl, rfl⟩
  obtain ⟨hsince, hside, hexc, hfiltered⟩ := hx
  rw [ReeferEntry.excursionNotices]
  simp only [ReeferEntry.declares_iff, ReeferEntry.clears_iff, signedExcess_eq hexcess, List.map_append, hcount, hsince, hside, hexc,
    hfiltered]
  congr 1
  · split <;> rfl
  · split <;> rfl

/-- The arithmetic's entry and notices are those of R133 to R143. -/
theorem arithmetic_spec (c : Criteria) (now : Stamp) :
    let out := (Bookkept e r a).arithmetic c (InputOf e a now) r.supply r.returnAir
    out.1 = AfterReport e c r a now ∧ out.2.map (·.raisedAt n now) = ExcursionNotices n.val e c r a now := by
  cases hraw : TemperatureOf r with
  | none =>
    have hout : (Bookkept e r a).arithmetic c (InputOf e a now) r.supply r.returnAir = (Bookkept e r a, []) := by
      rw [ReeferEntry.arithmetic, measured_eq, hraw]
    rw [hout, AfterReport, ExcursionNotices, hraw]
    exact ⟨rfl, rfl⟩
  | some raw =>
    rw [ReeferEntry.arithmetic_some _ c _ ((measured_eq r).trans hraw), AfterReport, hraw]
    exact ⟨ReeferEntry.arithmetic_eq .., excursionNotices_eq n e r a c now hraw⟩

/-! ## The report -/

/-- The notices of the bookkeeping, raised in step order. -/
theorem State.raiseNotices_bookkeeping (now : Stamp) :
    let e2 := (e.accepted r.sequence).revived
    let e4 := (e2.alarmed r.alarmCount r.alarmPlaces).powered r.power a
    ((s.noticeReturn n (e.accepted r.sequence) e2 a).noticeAlarms n e2 (e2.alarmed r.alarmCount r.alarmPlaces)).noticeSetpoint n e4
      (e4.repointed r.setpoint) = s.raiseNotices (BookkeepingNotices n.val e r a now) := by
  simp only
  rw [State.noticeReturn_eq s n e r a now, State.noticeAlarms_eq _ n now, State.noticeSetpoint_eq _ n now, ← State.raiseNotices_append,
    ← State.raiseNotices_append, ← List.append_assoc, ReeferEntry.repointed_eq, ReeferEntry.alarmed_eq, ReeferEntry.revived_eq]
  rfl

/-- What the bookkeeping hands the arithmetic is the entry before it (R123, R125, R132). -/
theorem ReeferEntry.input_eq (now : Stamp) :
    let e3 := (e.accepted r.sequence).revived.alarmed r.alarmCount r.alarmPlaces
    (⟨a, ((e3.powered r.power a).repointed r.setpoint).previousHeard a, e3.power, e3.defrostStart, now⟩ : ArithmeticInput) =
      InputOf e a now := by
  simp only
  rw [ReeferEntry.repointed_eq, ReeferEntry.alarmed_eq, ReeferEntry.revived_eq]
  rfl

/-- A used report in its steps: the notices of the bookkeeping, the sample, the entry, the notices of the arithmetic, the mirror record. -/
theorem State.useReport_eq : s.useReport n r a =
    let e := s.entry n
    let c := s.criteria e.criteria
    (((((s.raiseNotices (BookkeepingNotices n.val e r a s.stamp)).reeferSample n e r a).setEntry n (AfterReport e c r a s.stamp)).raiseNotices
      (ExcursionNotices n.val e c r a s.stamp)).writeReeferMirror n) := by
  have hspec := arithmetic_spec n (s.entry n) r a (s.criteria (s.entry n).criteria) s.stamp
  have hsquare : ((((((s.entry n).accepted r.sequence).revived.alarmed r.alarmCount r.alarmPlaces).powered r.power a).repointed
      r.setpoint)).square = (s.entry n).square := by
    rw [ReeferEntry.repointed_eq, ReeferEntry.alarmed_eq, ReeferEntry.revived_eq]
    rfl
  obtain ⟨hentry, hnotices⟩ := hspec
  rw [State.useReport, ReeferEntry.bookkept_eq, ReeferEntry.input_eq, State.reeferSample_congr _ _ _ _ hsquare, raiseNotices_raisedAt _ _ s.stamp,
    State.raiseNotices_bookkeeping s n (s.entry n) r a s.stamp]
  change State.writeReeferMirror (State.raiseNotices (State.setEntry _ n (ReeferEntry.arithmetic _ (s.criteria (s.entry n).criteria) _ _ _).1)
    (List.map _ (ReeferEntry.arithmetic _ (s.criteria (s.entry n).criteria) _ _ _).2)) n = _
  rw [hentry, hnotices]

/-- A used report changes one entry of the table (R120). -/
theorem State.useReport_reefer : (s.useReport n r a).reefer = { s.reefer with
    entries := upd s.reefer.entries n (AfterReport (s.entry n) (s.criteria (s.entry n).criteria) r a s.stamp) } := by
  rw [State.useReport_eq, State.writeReeferMirror_reefer, State.raiseNotices_reefer, State.setEntry_reefer, State.reeferSample_reefer,
    State.raiseNotices_reefer]

end

end Sys2Proof.Machine
end

section
/-! SUPPORT. What every step keeps of the reefer table (R112, R114, R115). -/

namespace Sys2Proof.Machine

/-! ## Ranges of one entry (R112) -/

theorem leNat_lt (l : List Byte) : leNat l < 256 ^ l.length := by
  induction l with
  | nil => simp [leNat]
  | cons b l ih =>
    have hb := b.isLt
    rw [leNat, List.length_cons, pow_succ]
    omega

theorem field_lt (r : List Byte) (off len : Nat) : field r off len < 256 ^ len := by
  refine (leNat_lt _).trans_le (Nat.pow_le_pow_right (by omega) ?_)
  simp

theorem ReeferReport.sequence_le (l : List Byte) : (ReeferReport.read l).sequence ≤ 65535 :=
  Nat.le_of_lt_succ (field_lt l 2 2)

section
variable {e : ReeferEntry} (r : ReeferReport) (a : Nat)

/-- The bookkeeping leaves a VACANT entry VACANT, and no other. -/
theorem bookkept_vacant : (Bookkept e r a).state = .vacant ↔ e.state = .vacant := by
  simp only [Bookkept]
  cases e.state <;> (repeat' split) <;> simp_all

theorem bookkept_inRange (he : EntryInRange e) (hv : e.state ≠ .vacant) (hr : r.sequence ≤ 65535) : EntryInRange (Bookkept e r a) := by
  obtain ⟨hf, -, hacc, hlen, hnodup, -, hcount, -, hreports, hmissed, hdup⟩ := he
  refine ⟨hf, fun x hx => ?_, ?_, ?_, ?_, fun h => absurd ((bookkept_vacant r a).1 h) hv, ?_, fun n hn => ?_, ?_, ?_, hdup⟩
  · obtain rfl : max (-3000) (min 3000 r.setpoint) = x := Option.some_inj.1 hx
    omega
  · simp only [Bookkept]
    split <;> omega
  · simp only [Bookkept]
    split
    · exact hlen
    · exact alarmSet_length ..
  · simp only [Bookkept]
    split
    · exact hnodup
    · exact alarmSet_nodup ..
  · simp only [Bookkept]
    split <;> omega
  · obtain rfl : r.sequence = n := Option.some_inj.1 hn
    exact hr
  · simp only [Bookkept]
    omega
  · simp only [Bookkept]
    split
    · exact hmissed
    · omega

theorem filteredNext_range {f : Option Int} {shift : Nat} {t : Int} (hf : ∀ v, f = some v → -4000 ≤ v ∧ v ≤ 4000)
    (ht : -4000 ≤ t ∧ t ≤ 4000) : -4000 ≤ filteredNext f shift t ∧ filteredNext f shift t ≤ 4000 := by
  cases f with
  | none => exact ht
  | some v =>
    have hv := hf v rfl
    have hstep := filterStep_between (t - v) shift
    change -4000 ≤ v + filterStep (t - v) shift ∧ v + filterStep (t - v) shift ≤ 4000
    omega

/-- The ranges of an entry that is not VACANT. -/
def HeldInRange (e : ReeferEntry) : Prop := EntryInRange e ∧ e.state ≠ .vacant

theorem HeldInRange.charged (he : HeldInRange e) (c : Criteria) (i : ArithmeticInput) (raw : Int) : HeldInRange (e.charged c i raw) := by
  obtain ⟨⟨hf, hsp, -, hlen, hnodup, -, hcount, hseq, hreports, hmissed, hdup⟩, hv⟩ := he
  refine ⟨⟨fun f h => ?_, hsp, Nat.min_le_right .., hlen, hnodup, fun h => absurd h hv, hcount, hseq, hreports, hmissed, hdup⟩, hv⟩
  obtain rfl := Option.some_inj.1 h
  exact filteredNext_range hf (by unfold clamp; omega)

theorem HeldInRange.declared (he : HeldInRange e) (c : Criteria) : HeldInRange (e.declared c) := by
  obtain ⟨⟨hf, hsp, hacc, hlen, hnodup, -, hrest⟩, hv⟩ := he
  unfold ReeferEntry.declared
  split
  · exact ⟨⟨hf, hsp, hacc, hlen, hnodup, fun h => (by cases h), hrest⟩, by simp⟩
  · exact ⟨⟨hf, hsp, hacc, hlen, hnodup, fun h => absurd h hv, hrest⟩, hv⟩

theorem HeldInRange.settled (he : HeldInRange e) {c : Criteria} (hc : CriteriaInRange c) : HeldInRange (e.settled c) := by
  obtain ⟨⟨hf, hsp, hacc, hlen, hnodup, -, -, hrest⟩, hv⟩ := he
  obtain ⟨-, -, -, -, -, -, -, hsettle, -⟩ := hc
  have hcount : e.countNext c ≤ 8 := by unfold ReeferEntry.countNext; split <;> omega
  unfold ReeferEntry.settled
  split
  · have hstate : (if e.state = .excursion then ReeferState.active else e.state) ≠ .vacant := by
      split
      · simp
      · exact hv
    exact ⟨⟨hf, hsp, Nat.zero_le _, hlen, hnodup, fun h => absurd h hstate, hcount, hrest⟩, hstate⟩
  · exact ⟨⟨hf, hsp, hacc, hlen, hnodup, fun h => absurd h hv, hcount, hrest⟩, hv⟩

theorem HeldInRange.arithmetic {c : Criteria} (hc : CriteriaInRange c) (he : HeldInRange e) (i : ArithmeticInput) (raw : Int) :
    HeldInRange (Arithmetic e c i raw) := by
  rw [← ReeferEntry.arithmetic_eq]
  exact ((he.charged c i raw).declared c).settled hc

theorem afterReport_inRange {c : Criteria} (hc : CriteriaInRange c) (he : EntryInRange e) (hv : e.state ≠ .vacant)
    (hr : r.sequence ≤ 65535) (now : Stamp) : EntryInRange (AfterReport e c r a now) := by
  have hb := bookkept_inRange r a he hv hr
  unfold AfterReport
  split
  · exact hb
  · exact (HeldInRange.arithmetic hc ⟨hb, mt (bookkept_vacant r a).1 hv⟩ _ _).1

theorem afterReport_tag (c : Criteria) (now : Stamp) : (AfterReport e c r a now).tag = e.tag := by
  unfold AfterReport
  split <;> rfl

end

/-! ## Moves of the table -/

/-- An entry after a report, a removal, an enrolment of its tag again, or a sweep visit (R117, R119 to R127). -/
inductive ReeferEntry.Moved (criteria : Vector Criteria 16) (x : ReeferEntry) : ReeferEntry → Prop
  | cleared : ReeferEntry.Moved criteria x .cleared
  | report (hx : x.state ≠ .vacant) (r : ReeferReport) (hr : r.sequence ≤ 65535) (a : Nat) (now : Stamp) :
      ReeferEntry.Moved criteria x (AfterReport x (criteria.get x.criteria) r a now)
  | duplicate : ReeferEntry.Moved criteria x { x with duplicates := satAdd x.duplicates 1 }
  | placed (c : Fin 16) (q : Option (Fin 512)) : ReeferEntry.Moved criteria x { x with criteria := c, square := q }
  | silent (hx : x.state ≠ .vacant) (flag : Bool) : ReeferEntry.Moved criteria x { x with state := .silent, wasInExcursion := flag }

/-- All that commands and events do to the entries and the criteria of the reefer table. -/
inductive Retables (r : ReeferTable) : ReeferTable → Prop
  | refl : Retables r r
  | same {u v : ReeferTable} (h : Retables r u) (he : v.entries = u.entries) (hc : v.criteria = u.criteria) : Retables r v
  | entry {u : ReeferTable} (h : Retables r u) (n : Fin 4096) {e : ReeferEntry} (he : (u.entries.get n).Moved u.criteria e) :
      Retables r { u with entries := upd u.entries n e }
  | enrol {u : ReeferTable} (h : Retables r u) (n : Fin 4096) {tag : Nat} (htag : tag ≠ 0)
      (hfree : ∀ m, (u.entries.get m).state = .vacant ∨ (u.entries.get m).tag ≠ tag) (c : Fin 16) (q : Option (Fin 512)) (heard : Nat) :
      Retables r { u with entries := upd u.entries n (.newlyEnrolled tag c q heard) }
  | zeroed {u : ReeferTable} (h : Retables r u) :
      Retables r { u with entries := Vector.ofFn fun n => { u.entries.get n with reports := 0, missed := 0, duplicates := 0 } }
  | criteria {u : ReeferTable} (h : Retables r u) (i : Fin 16) {c : Criteria} (hc : c.inRange = true) :
      Retables r { u with criteria := upd u.criteria i c }

theorem Retables.trans {r u v : ReeferTable} (h : Retables r u) (h' : Retables u v) : Retables r v := by
  induction h' with
  | refl => exact h
  | same _ he hc ih => exact ih.same he hc
  | entry _ n he ih => exact ih.entry n he
  | enrol _ n htag hfree c q heard ih => exact ih.enrol n htag hfree c q heard
  | zeroed _ ih => exact ih.zeroed
  | criteria _ i hc ih => exact ih.criteria i hc

theorem Retables.of_eq {r u : ReeferTable} (h : u = r) : Retables r u := h ▸ .refl

/-! ## What the moves keep -/

theorem criteria_inRange_iff (c : Criteria) : c.inRange = true ↔ CriteriaInRange c := by
  simp only [Criteria.inRange, Bool.and_eq_true, decide_eq_true_eq, CriteriaInRange, and_assoc]

theorem Retables.criteriaInRange {r u : ReeferTable} (h : Retables r u) (hr : ∀ i, CriteriaInRange (r.criteria.get i)) :
    ∀ i, CriteriaInRange (u.criteria.get i) := by
  induction h with
  | refl => exact hr
  | same _ _ hc ih => rw [hc]; exact ih
  | entry _ _ _ ih | enrol _ _ _ _ _ _ _ ih | zeroed _ ih => exact ih
  | criteria _ i hc ih =>
    intro j
    rw [upd_get]
    split
    · exact (criteria_inRange_iff _).1 hc
    · exact ih j

theorem entryInRange_cleared : EntryInRange .cleared := by
  refine ⟨?_, ?_, ?_, ?_, ?_, ?_, ?_, ?_, ?_, ?_, ?_⟩ <;> simp [ReeferEntry.cleared]

theorem ReeferEntry.Moved.inRange {criteria : Vector Criteria 16} {x e : ReeferEntry} (h : x.Moved criteria e)
    (hc : ∀ i, CriteriaInRange (criteria.get i)) (hx : EntryInRange x) : EntryInRange e := by
  cases h with
  | cleared => exact entryInRange_cleared
  | report hv r hr a now => exact afterReport_inRange r a (hc _) hx hv hr now
  | duplicate =>
    obtain ⟨h1, h2, h3, h4, h5, h6, h7, h8, h9, h10, h11⟩ := hx
    exact ⟨h1, h2, h3, h4, h5, h6, h7, h8, h9, h10, Nat.min_le_right ..⟩
  | placed c q => exact hx
  | silent hv flag =>
    obtain ⟨h1, h2, h3, h4, h5, -, h7⟩ := hx
    exact ⟨h1, h2, h3, h4, h5, fun h => (by cases h), h7⟩

theorem Retables.entryInRange {r u : ReeferTable} (h : Retables r u) (hc : ∀ i, CriteriaInRange (r.criteria.get i))
    (hr : ∀ n, EntryInRange (r.entries.get n)) : ∀ n, EntryInRange (u.entries.get n) := by
  induction h with
  | refl => exact hr
  | same _ he _ ih => rw [he]; exact ih
  | entry h n he ih =>
    intro m
    rw [upd_get]
    split
    · exact he.inRange (h.criteriaInRange hc) (ih n)
    · exact ih m
  | enrol _ n _ _ c q heard ih =>
    intro m
    rw [upd_get]
    split
    · obtain ⟨h1, h2, h3, h4, h5, -, h7⟩ := entryInRange_cleared
      exact ⟨h1, h2, h3, h4, h5, fun h => (by cases h), h7⟩
    · exact ih m
  | zeroed _ ih =>
    intro m
    rw [ofFn_get]
    obtain ⟨h1, h2, h3, h4, h5, h6, h7, h8, -⟩ := ih m
    exact ⟨h1, h2, h3, h4, h5, h6, h7, h8, Nat.zero_le _, Nat.zero_le _, Nat.zero_le _⟩
  | criteria _ _ _ ih => exact ih

/-- An entry that holds a tag after a move held it before. -/
theorem ReeferEntry.Moved.holds {criteria : Vector Criteria 16} {x e : ReeferEntry} (h : x.Moved criteria e) (he : e.state ≠ .vacant) :
    x.state ≠ .vacant ∧ e.tag = x.tag := by
  cases h with
  | cleared => exact absurd rfl he
  | report hv r hr a now => exact ⟨hv, afterReport_tag ..⟩
  | duplicate | placed => exact ⟨he, rfl⟩
  | silent hv flag => exact ⟨hv, rfl⟩

/-- No entry holds the tag 0, and no two hold the same tag (R114). -/
def ReeferTable.Distinct (r : ReeferTable) : Prop :=
  (∀ n, (r.entries.get n).state ≠ .vacant → (r.entries.get n).tag ≠ 0) ∧
    ∀ n m, (r.entries.get n).state ≠ .vacant → (r.entries.get m).state ≠ .vacant → (r.entries.get n).tag = (r.entries.get m).tag → n = m

/-- A table whose every held tag was held before at the same entry. -/
theorem ReeferTable.Distinct.of_held {r u : ReeferTable} (hr : r.Distinct)
    (h : ∀ n, (u.entries.get n).state ≠ .vacant → (r.entries.get n).state ≠ .vacant ∧ (u.entries.get n).tag = (r.entries.get n).tag) :
    u.Distinct := by
  obtain ⟨hzero, hdistinct⟩ := hr
  refine ⟨fun n hn => ?_, fun n m hn hm ht => ?_⟩
  · obtain ⟨hs, htag⟩ := h n hn
    rw [htag]
    exact hzero n hs
  · obtain ⟨hns, hnt⟩ := h n hn
    obtain ⟨hms, hmt⟩ := h m hm
    rw [hnt, hmt] at ht
    exact hdistinct n m hns hms ht

theorem Retables.distinct {r u : ReeferTable} (h : Retables r u) (hr : r.Distinct) : u.Distinct := by
  induction h with
  | refl => exact hr
  | same _ he _ ih => exact ih.of_held fun n hn => by rw [he] at hn ⊢; exact ⟨hn, rfl⟩
  | entry _ n he ih =>
    refine ih.of_held fun m hm => ?_
    rw [upd_get] at hm ⊢
    by_cases hmn : m = n
    · rw [if_pos hmn] at hm ⊢
      rw [hmn]
      exact he.holds hm
    · rw [if_neg hmn] at hm ⊢
      exact ⟨hm, rfl⟩
  | enrol _ n htag hfree c q heard ih =>
    obtain ⟨hzero, hdistinct⟩ := ih
    refine ⟨fun m hm => ?_, fun m k hm hk ht => ?_⟩
    · rw [upd_get] at hm ⊢
      split
      · exact htag
      · next hmn => rw [if_neg hmn] at hm; exact hzero m hm
    · rw [upd_get] at hm ht
      rw [upd_get] at hk ht
      by_cases hmn : m = n <;> by_cases hkn : k = n
      · rw [hmn, hkn]
      · rw [if_neg hkn] at hk
        rw [if_pos hmn, if_neg hkn] at ht
        exact absurd ht.symm ((hfree k).resolve_left hk)
      · rw [if_neg hmn] at hm
        rw [if_neg hmn, if_pos hkn] at ht
        exact absurd ht ((hfree m).resolve_left hm)
      · rw [if_neg hmn] at hm
        rw [if_neg hkn] at hk
        rw [if_neg hmn, if_neg hkn] at ht
        exact hdistinct m k hm hk ht
  | zeroed _ ih =>
    refine ih.of_held fun n hn => ?_
    rw [ofFn_get] at hn ⊢
    exact ⟨hn, rfl⟩
  | criteria _ _ _ ih => exact ih

/-! ## Events and commands -/

section
variable (s : State)

theorem State.setEntry_retables {n : Fin 4096} {e : ReeferEntry} (h : (s.entry n).Moved s.reefer.criteria e) :
    Retables s.reefer (s.setEntry n e).reefer := Retables.refl.entry n h

theorem State.reportFor_retables {n : Fin 4096} (hn : (s.entry n).state ≠ .vacant) {r : ReeferReport} (hr : r.sequence ≤ 65535) (a : Nat) :
    Retables s.reefer (s.reportFor n r a).reefer := by
  unfold State.reportFor
  simp only
  split
  · rw [State.useReport_reefer]
    exact Retables.refl.entry n (.report hn r hr a _)
  · rw [State.writeReeferMirror_reefer]
    exact s.setEntry_retables .duplicate

theorem State.enrolAt_reefer (n : Fin 4096) (evicted : Bool) (tag : Nat) (c : Fin 16) (q : Option (Fin 512)) (heard : Nat) :
    (s.enrolAt n evicted tag c q heard).reefer =
      { s.reefer with entries := upd s.reefer.entries n (.newlyEnrolled tag c q heard) } := by
  unfold State.enrolAt
  rw [State.setEntry_reefer]
  split <;> rfl

theorem State.reeferRecord_retables (bytes : List Byte) (a : Nat) : Retables s.reefer (s.reeferRecord bytes a).reefer := by
  have hseq := ReeferReport.sequence_le bytes
  unfold State.reeferRecord
  simp only
  generalize ReeferReport.read bytes = r at hseq
  split
  · exact Retables.refl.same rfl rfl
  next hr =>
  split
  · next n hn => exact s.reportFor_retables (holder_eq_some_iff.1 hn).1 hseq a
  · next hn =>
    have hfree := holder_eq_none_iff.1 hn
    unfold State.unknownTag
    split
    · exact Retables.refl.same rfl rfl
    split
    · next n evicted _ =>
      have henrol : Retables s.reefer ((s.enrolAt n evicted r.tag 0 none a).noticeEnrolment n r.tag evicted).reefer := by
        rw [State.noticeEnrolment, State.raise_reefer, State.enrolAt_reefer]
        exact Retables.refl.enrol n (fun h => hr (.inr h)) hfree 0 none a
      refine henrol.trans (State.reportFor_retables _ ?_ hseq a)
      have hentry : ((s.enrolAt n evicted r.tag 0 none a).noticeEnrolment n r.tag evicted).entry n = .newlyEnrolled r.tag 0 none a := by
        rw [State.entry, State.noticeEnrolment, State.raise_reefer, State.enrolAt_reefer, upd_get, if_pos rfl]
      rw [hentry]
      simp [ReeferEntry.newlyEnrolled]
    · unfold State.dropReport
      simp only
      split <;> exact Retables.refl.same rfl rfl

theorem State.sweepEntry_retables (n : Fin 4096) : Retables s.reefer (s.sweepEntry n).reefer := by
  unfold State.sweepEntry
  simp only
  have hsweep : Retables s.reefer (s.setReefer { s.reefer with sweep := s.reefer.sweep.visited 4095 }).reefer := Retables.refl.same rfl rfl
  split
  · next hdue =>
    rw [State.writeReeferMirror_reefer, State.raise_reefer]
    refine hsweep.trans (State.setEntry_retables _ (.silent (fun h => ?_) _))
    simp only [Bool.and_eq_true] at hdue
    have hstate : (s.entry n).state = .vacant := h
    rw [hstate] at hdue
    exact absurd hdue.1 (by simp [ReeferState.watched])
  · exact hsweep

theorem State.enrolTag_retables {tag : Nat} (htag : tag ≠ 0) (c : Fin 16) (q : Option (Fin 512)) :
    Retables s.reefer (s.enrolTag tag c q).1.reefer := by
  unfold State.enrolTag
  split
  · simp only
    split
    · exact .refl
    · simp only [State.writeReeferMirror_reefer]
      exact s.setEntry_retables (.placed ..)
  · next hn =>
    split
    · simp only [State.writeReeferMirror_reefer, State.enrolAt_reefer]
      exact Retables.refl.enrol _ htag (holder_eq_none_iff.1 hn) ..
    · exact .refl

theorem State.doEnrolReefer_retables : Retables s.reefer s.doEnrolReefer.1.reefer := by
  unfold State.doEnrolReefer
  split
  · split
    · exact .refl
    · next h => exact s.enrolTag_retables (fun hz => h (.inl hz)) ..
  · exact .refl

theorem State.doRemoveReefer_retables : Retables s.reefer s.doRemoveReefer.1.reefer := by
  unfold State.doRemoveReefer
  split
  · exact .refl
  split
  · simp only [State.writeReeferMirror_reefer]
    exact s.setEntry_retables .cleared
  · exact .refl

theorem State.doSetCriteria_retables : Retables s.reefer s.doSetCriteria.1.reefer := by
  unfold State.doSetCriteria
  split
  · split
    · next h => exact Retables.refl.criteria _ h
    · exact .refl
  · exact .refl

theorem State.doSetEnrolmentMode_retables : Retables s.reefer s.doSetEnrolmentMode.1.reefer := by
  unfold State.doSetEnrolmentMode
  (repeat' split) <;> exact Retables.refl.same rfl rfl

theorem State.doClearCounters_retables : Retables s.reefer s.doClearCounters.1.reefer :=
  Retables.refl.zeroed.same rfl rfl

end

theorem event_retables {k : Work} {s t : State} {enabled : Bool} {f : State → State} (hf : ∀ u, Retables u.reefer (f u).reefer)
    (h : event k s enabled f = .next t) : Retables s.reefer t.reefer := by
  obtain rfl | ⟨-, -, -, rfl⟩ := event_cases h
  · exact .refl
  · rw [State.finish_reefer]
    exact hf (s.beginEvent k)

theorem command_retables {k : Command} {s t : State} {f : State → State × ResultCode} (hf : ∀ u, Retables u.reefer (f u).1.reefer)
    (h : command k s f = .next t) : Retables s.reefer t.reefer :=
  event_retables (fun u => by rw [State.carryOut, State.complete_reefer]; exact hf u.take) h

theorem handleInHand_retables (s : State) (h : InHand) : Retables s.reefer ((s.restarted h).handleInHand h).reefer := by
  refine handleInHand_keeps (P := fun u => Retables s.reefer u.reefer) ?_ (fun u l a hu => ?_) (fun u l a hu => ?_) fun u l a hu => ?_
  · refine Retables.refl.same ?_ ?_ <;> simp [State.restarted, State.carryOut, State.doRestart, State.restartBlocks]
  · rw [State.finish_reefer, State.measureRecord_reefer]; exact hu
  · rw [State.finish_reefer]; exact hu.trans ((u.beginEvent .reeferJob).reeferRecord_retables l a)
  · rw [State.finish_reefer, State.timeRecord_reefer]; exact hu

/-- Every command but POWER_ON_RESET moves the reefer table in these ways only. -/
theorem exec_retables {c : Instr} {s t : State} (h : exec c s = .next t) (hc : ∀ b m, c ≠ .powerOnReset b m) :
    Retables s.reefer t.reefer := by
  by_cases htouch : .reefer ∈ touchedBy c
  case neg => exact .of_eq ((exec_frames h hc).reefer htouch)
  case pos =>
  cases c <;> simp only [touchedBy, writeBlocks, List.mem_cons, List.not_mem_nil, reduceCtorEq, or_false, or_self] at htouch <;>
    simp only [exec] at h
  case powerOnReset b m => exact absurd rfl (hc b m)
  case reeferReportDequeue =>
    refine event_retables (fun u => ?_) h
    split
    · next e rest _ =>
      have hdequeue : ((u.setIntake { u.intake with reefer := rest }).countTaken e).reefer = u.reefer := by simp
      have := ((u.setIntake { u.intake with reefer := rest }).countTaken e).reeferRecord_retables e.bytes e.arrival
      rwa [hdequeue] at this
    · exact .refl
  case silenceSweepStart =>
    obtain rfl | ⟨-, -, rfl⟩ := quietEvent_cases h
    · exact .refl
    · exact Retables.refl.same rfl rfl
  case sweepVisit =>
    refine event_retables (fun u => ?_) h
    split
    · exact u.sweepEntry_retables _
    · exact .refl
  case setCriteria => exact command_retables (fun u => u.doSetCriteria_retables) h
  case enrolReefer => exact command_retables (fun u => u.doEnrolReefer_retables) h
  case removeReefer => exact command_retables (fun u => u.doRemoveReefer_retables) h
  case setEnrolmentMode => exact command_retables (fun u => u.doSetEnrolmentMode_retables) h
  case clearCounters => exact command_retables (fun u => u.doClearCounters_retables) h
  case restart =>
    obtain rfl | ⟨-, -, rfl⟩ := restart_cases h
    · exact .refl
    · exact handleInHand_retables s _

/-- What the moves of the table keep and the power-on table has, every step keeps. -/
theorem step_keeps_of_retables {P : ReeferTable → Prop} (hmove : ∀ r u, Retables r u → P r → P u) (hon : P .powerOn)
    {s t : State} (hs : P s.reefer) (h : step s = .next t) : P t.reefer := by
  refine step_keeps (P := fun u => P u.reefer) (fun _ _ hu => hu) (fun c u v hu h => ?_) hs h
  by_cases hc : ∀ b m, c ≠ .powerOnReset b m
  · exact hmove _ _ (exec_retables h hc) hu
  · push Not at hc
    obtain ⟨b, m, rfl⟩ := hc
    exact powerOnReset_induction (P := fun u => P u.reefer) hon (fun w x hw => by rw [State.takeTransfer_reefer]; exact hw) h

end Sys2Proof.Machine
end

section
/-! SUPPORT. The invariants of the tables and of the long operations (R92, R96, R112 to R115, R162 to R168), and of the reset state. -/

namespace Sys2Proof.Machine

/-! ## The tables -/

theorem powerOn_entries_get (q : Fin 512) (c : Fin 24) (s : State) (b : BitVec 16) (m : BitVec 6) :
    ((s.powerOn b m).square q).entries.get c = .absent := by
  rw [State.powerOn_square]
  exact replicate_get _ c

theorem powerOn_summaryFits (s : State) (b : BitVec 16) (m : BitVec 6) (q : Fin 512) : SummaryFits ((s.powerOn b m).square q) := by
  have habsent := fun c => powerOn_entries_get q c s b m
  refine ⟨⟨fun _ c e u h => ?_, fun _ => by rw [State.powerOn_square]; rfl⟩, fun _ => by rw [State.powerOn_square]; exact ⟨rfl, rfl⟩,
    fun c e hbest => ?_⟩
  · rw [habsent] at h; cases h
  · obtain ⟨⟨u, hu⟩, -⟩ := hbest
    rw [habsent] at hu; cases hu

theorem powerOn_cellsDistinct (s : State) (b : BitVec 16) (m : BitVec 6) : CellsDistinct (s.powerOn b m) := by
  have hcells : ∀ c, (s.powerOn b m).grid.cells.get c = none := fun c => replicate_get _ c
  refine ⟨fun c => by rw [hcells]; simp, fun c d n hc => ?_⟩
  rw [hcells] at hc; cases hc

theorem powerOn_idsDistinct (s : State) (b : BitVec 16) (m : BitVec 6) : CraneIdsDistinct (s.powerOn b m) := by
  have hdormant : ∀ i, ((s.powerOn b m).crane i).link = .dormant := fun i => by rw [State.powerOn_crane]; rfl
  exact ⟨fun i h => absurd (hdormant i) h, fun i j h => absurd (hdormant i) h⟩

theorem powerOn_heard (s : State) (b : BitVec 16) (m : BitVec 6) (i : Fin 16) : ((s.powerOn b m).crane i).Heard := by
  rw [State.powerOn_crane]
  rintro (h | h) <;> cases h

theorem powerOn_entry_vacant (n : Fin 4096) : (ReeferTable.powerOn.entries.get n) = .cleared := replicate_get _ n

theorem powerOn_distinct : ReeferTable.powerOn.Distinct := by
  have hvacant : ∀ n, (ReeferTable.powerOn.entries.get n).state = .vacant := fun n => by rw [powerOn_entry_vacant]; rfl
  exact ⟨fun n h => absurd (hvacant n) h, fun n m h => absurd (hvacant n) h⟩

theorem powerOn_criteriaInRange (i : Fin 16) : CriteriaInRange (ReeferTable.powerOn.criteria.get i) := by
  have h : ReeferTable.powerOn.criteria.get i = .powerOn := replicate_get _ i
  rw [h]
  simp [CriteriaInRange, Criteria.powerOn]

/-- Settles O35: the moves of the grid, the links and the reefer table keep each of the five. -/
theorem tablesConsistentKept : Obligations.TablesConsistentKept := by
  refine ⟨fun s t hs h => ?_, fun s t hs h => ?_, fun s t h => ⟨fun hs => ?_, fun hs => ?_⟩, fun s t hs h => ?_⟩
  · exact step_keeps_of_gridMove (P := CraneIdsDistinct) (fun _ _ hm => hm.idsDistinct) powerOn_idsDistinct hs h
  · exact step_keeps_of_gridMove (P := fun u => ∀ i, (u.crane i).Heard) (fun _ _ hm => hm.heard) powerOn_heard hs h
  · exact step_keeps_of_gridMove (P := CellsDistinct) (fun _ _ hm => hm.cellsDistinct) powerOn_cellsDistinct hs h
  · exact step_keeps_of_retables (P := ReeferTable.Distinct) (fun _ _ hm => hm.distinct) powerOn_distinct hs h
  · exact step_keeps_of_gridMove (P := fun u => ∀ q, SummaryFits (u.square q)) (fun _ _ hm => hm.summaryFits) powerOn_summaryFits hs h

/-- Settles O43: time by its moves, the estimates by those of the grid, the criteria and entries by those of the reefer table. -/
theorem rangesKept : Obligations.RangesKept := by
  refine ⟨fun s t => timeInRange_kept, fun s t hs h => ?_, fun s t hs h => ?_, fun s t hc hs h => ?_⟩
  · refine step_keeps_of_gridMove (P := fun u => ∀ q c, EstimateInRange ((u.square q).entries.get c)) (fun _ _ hm => hm.estimateInRange)
      (fun u b m q c => ?_) hs h
    rw [powerOn_entries_get]
    trivial
  · exact step_keeps_of_retables (P := fun r => ∀ i, CriteriaInRange (r.criteria.get i)) (fun _ _ hm => hm.criteriaInRange)
      powerOn_criteriaInRange hs h
  · refine (step_keeps_of_retables (P := fun r => (∀ i, CriteriaInRange (r.criteria.get i)) ∧ ∀ n, EntryInRange (r.entries.get n))
      (fun _ _ hm hr => ⟨hm.criteriaInRange hr.1, hm.entryInRange hr.1 hr.2⟩) ⟨powerOn_criteriaInRange, fun n => ?_⟩ ⟨hc, hs⟩ h).2
    rw [powerOn_entry_vacant]
    exact entryInRange_cleared

/-! ## Long operations -/

/-- What the consistency of the long operations speaks of (R162 to R168). -/
structure Operation where
  busy : Bool
  state : CommandState
  reported : ResultCode
  clearing : Bool
  clearPosition : Nat
  mirror : MirrorWriter

/-- The long operation of a state, as its blocks hold it. -/
def State.operation (s : State) : Operation :=
  ⟨s.cmd.busy, s.cmd.state, s.cmd.longReport.code, s.grid.clearing, s.grid.clearPosition, s.mirror⟩

theorem BusyWf.of_same {s t : State} (hs : BusyWf s) (h : t.operation = s.operation) : BusyWf t := by
  simp only [State.operation, Operation.mk.injEq] at h
  obtain ⟨h1, h2, h3, h4, h5, h6⟩ := h
  simpa only [BusyWf, h1, h2, h3, h4, h5, h6] using hs

theorem State.operation_of_blocks {s t : State} (hc : t.cmd = s.cmd) (hg : t.grid = s.grid) (hm : t.mirror = s.mirror) :
    t.operation = s.operation := by
  simp only [State.operation, hc, hg, hm]

/-- An idle machine: no block works on an operation. -/
theorem BusyWf.idle {s : State} (hs : BusyWf s) (h : s.cmd.state = .idle) :
    s.cmd.busy = false ∧ s.cmd.longReport.code ≠ .running ∧ s.grid.clearing = false ∧ s.mirror.target = none ∧ s.grid.clearPosition ≤ 512 ∧
      s.mirror.position = 0 := by
  obtain ⟨h1, h2, h3, -, h5, h6, -⟩ := hs
  have hnot : s.cmd.state ≠ .long := by simp [h]
  obtain ⟨hclearing, htarget⟩ := not_or.1 fun hw => hnot (h3.2 hw)
  have htarget : s.mirror.target = none := not_not.1 htarget
  exact ⟨Bool.eq_false_iff.2 fun hb => hnot (h1.1 hb), fun hr => hnot (h2.1 hr), Bool.eq_false_iff.2 hclearing, htarget, h5, h6 htarget⟩

/-! ## Events that leave the clear position alone -/

/-- CLEAR GRID's position and its mark are as before. -/
structure KeepsClearing (s t : State) : Prop where
  clearing : t.grid.clearing = s.grid.clearing
  position : t.grid.clearPosition = s.grid.clearPosition

theorem KeepsClearing.of_grid {s t : State} (h : t.grid = s.grid) : KeepsClearing s t := ⟨by rw [h], by rw [h]⟩

theorem KeepsClearing.refl (s : State) : KeepsClearing s s := .of_grid rfl

theorem KeepsClearing.trans {s t u : State} (h : KeepsClearing s t) (h' : KeepsClearing t u) : KeepsClearing s u :=
  ⟨h'.clearing.trans h.clearing, h'.position.trans h.position⟩

theorem KeepsClearing.foldl {α : Type} {f : State → α → State} (hf : ∀ u x, KeepsClearing u (f u x)) (l : List α) (s : State) :
    KeepsClearing s (l.foldl f s) := by
  induction l generalizing s with
  | nil => exact .refl s
  | cons x l ih => exact (hf s x).trans (ih _)

section
variable (s : State)

theorem State.setGrid_keepsClearing {g : Grid} (hc : g.clearing = s.grid.clearing := by rfl)
    (hp : g.clearPosition = s.grid.clearPosition := by rfl) : KeepsClearing s (s.setGrid g) := ⟨hc, hp⟩

theorem State.changeSquare_keepsClearing (q : Fin 512) (entries : Vector CellEntry 24) : KeepsClearing s (s.changeSquare q entries) :=
  ⟨by simp, by simp⟩

theorem State.sample_keepsClearing (segment band identity : Nat) (level : Int) (arrival : Nat) (src : SampleSource) :
    KeepsClearing s (s.sample segment band identity level arrival src) := by
  unfold State.sample
  simp only
  split
  · exact s.changeSquare_keepsClearing ..
  · unfold State.unknownSample
    simp only
    split
    · exact (s.setGrid_keepsClearing).trans (.of_grid (State.raise_grid ..))
    · exact s.setGrid_keepsClearing

theorem State.measureRecord_keepsClearing (bytes : List Byte) (arrival : Nat) : KeepsClearing s (s.measureRecord bytes arrival) := by
  unfold State.measureRecord
  simp only
  split
  · exact s.setGrid_keepsClearing
  · refine (s.setGrid_keepsClearing).trans (KeepsClearing.foldl (fun u x => ?_) _ _)
    unfold State.measurePair
    split
    · exact .refl u
    · exact u.sample_keepsClearing ..

theorem State.uplinkRecord_keepsClearing (i : Fin 16) (bytes : List Byte) (arrival : Nat) :
    KeepsClearing s (s.uplinkRecord i bytes arrival) := by
  cases s.uplinkRecord_move i bytes arrival with
  | discarded _ hg => exact .of_grid hg
  | unused _ _ _ _ h => exact .of_grid h.grid
  | used _ _ _ _ _ u v _ _ hu hv h =>
    have huv : KeepsClearing u v := by
      obtain rfl | ⟨_, _, _, rfl⟩ := hv
      · exact .refl _
      · exact u.sample_keepsClearing ..
    exact ((KeepsClearing.of_grid hu.grid).trans huv).trans (.of_grid h.grid)

theorem State.reportFor_keepsClearing (n : Fin 4096) (r : ReeferReport) (arrival : Nat) : KeepsClearing s (s.reportFor n r arrival) := by
  unfold State.reportFor
  simp only
  split
  · rw [State.useReport_eq]
    refine .trans ?_ (.of_grid (State.writeReeferMirror_grid ..))
    refine .trans ?_ (.of_grid (State.raiseNotices_grid ..))
    refine .trans ?_ (.of_grid (State.setEntry_grid ..))
    have hsample : ∀ u : State, KeepsClearing u (u.reeferSample n (s.entry n) r arrival) := fun u => by
      unfold State.reeferSample
      split
      · split
        · exact .refl u
        · exact u.sample_keepsClearing ..
      · exact .refl u
    exact .trans (.of_grid (State.raiseNotices_grid s _)) (hsample _)
  · exact .of_grid (by simp)

theorem State.reeferRecord_keepsClearing (bytes : List Byte) (arrival : Nat) : KeepsClearing s (s.reeferRecord bytes arrival) := by
  unfold State.reeferRecord
  simp only
  split
  · exact .of_grid rfl
  split
  · exact s.reportFor_keepsClearing ..
  · unfold State.unknownTag
    split
    · exact .of_grid rfl
    split
    · next n evicted _ =>
      have henrol : ∀ t, KeepsClearing s ((s.enrolAt n evicted (ReeferReport.read bytes).tag 0 none arrival).noticeEnrolment n t evicted) :=
        fun t => .of_grid (by simp)
      exact (henrol _).trans (State.reportFor_keepsClearing ..)
    · exact .of_grid (by simp)

theorem State.ageSquare_keepsClearing (q : Fin 512) : KeepsClearing s (s.ageSquare q) := by
  unfold State.ageSquare
  simp only
  exact (s.setGrid_keepsClearing).trans (State.changeSquare_keepsClearing ..)

theorem State.clearPlace_keepsClearing (c : Fin 24) : KeepsClearing s (s.clearPlace c) := by
  unfold State.clearPlace
  exact (s.setGrid_keepsClearing).trans (KeepsClearing.foldl (fun u q => u.changeSquare_keepsClearing ..) _ _)

/-- CLEAR_GRID_VISIT moves the clear position on (R107). -/
theorem State.clearSquare_position (q : Fin 512) :
    (s.clearSquare q).grid.clearing = s.grid.clearing ∧ (s.clearSquare q).grid.clearPosition = q.val + 1 := by
  unfold State.clearSquare
  simp only
  split <;> simp

end

/-! ## Commands that start and end none (R162 to R165) -/

theorem KeepsClearing.operation {s t : State} (h : KeepsClearing s t) (hc : t.cmd = s.cmd) (hm : t.mirror = s.mirror) :
    t.operation = s.operation := by
  simp only [State.operation, hc, hm, h.clearing, h.position]

theorem State.finish_operation (s : State) : s.finish.operation = s.operation :=
  State.operation_of_blocks (State.finish_cmd s) (State.finish_grid s) (State.finish_mirror s)

theorem event_operation {k : Work} {s t : State} {enabled : Bool} {f : State → State} (hf : ∀ u, (f u).operation = u.operation)
    (h : event k s enabled f = .next t) : t.operation = s.operation := by
  obtain rfl | ⟨-, -, -, rfl⟩ := event_cases h
  · rfl
  · rw [State.finish_operation, hf]
    rfl

/-- A short result changes no part of a long operation. -/
theorem State.complete_operation (s : State) {r : ResultCode} (hr : r ≠ .running) : (s.complete r).finish.operation = s.operation := by
  simp [State.operation, complete_of_short hr]

/-- A command that starts no long operation. -/
def Short (f : State → State × ResultCode) : Prop := ∀ u, (f u).2 ≠ .running ∧ (f u).1.operation = u.operation

theorem command_operation {k : Command} {s t : State} {f : State → State × ResultCode} (hf : Short f) (h : command k s f = .next t) :
    t.operation = s.operation := by
  obtain rfl | ⟨-, -, -, rfl⟩ := event_cases h
  · rfl
  · obtain ⟨hr, ho⟩ := hf (s.beginEvent .command).take
    rw [State.carryOut, State.complete_operation _ hr, ho]
    rfl

/-- The commands and events that start, carry on or end a long operation (R107, R162 to R168). -/
def movesOperation : Instr → Bool
  | .powerOnReset _ _ | .clearGridVisit | .refreshVisit | .longOperationEnd | .defineWindow | .clearGrid | .refreshMirror | .restart => true
  | _ => false

theorem State.takeTransfer_operation (s : State) (x : Transfer) : (s.takeTransfer x).operation = s.operation := by
  have hwrite : ∀ (u : State) (m : MasterId) (a : Address) (l : List Lane), (u.passWrite m a l).operation = u.operation := by
    intro u m a l
    have hcmd : (u.passWrite m a l).cmd.busy = u.cmd.busy ∧ (u.passWrite m a l).cmd.state = u.cmd.state ∧
        (u.passWrite m a l).cmd.longReport = u.cmd.longReport := by
      unfold State.passWrite
      split
      · unfold State.pageWrite
        split
        · simp
        · simp [State.commandWrite]
      · split <;> simp
    obtain ⟨hbusy, hstate, hreport⟩ := hcmd
    have hgrid : (u.passWrite m a l).grid = u.grid := by simp
    have hmirror : (u.passWrite m a l).mirror = u.mirror := by simp
    simp only [State.operation, hbusy, hstate, hreport, hgrid, hmirror]
  unfold State.takeTransfer
  cases x with
  | read m a n =>
    exact State.operation_of_blocks (by simp) (by simp) (by simp)
  | write m a l =>
    simp only
    rw [State.finish_operation, hwrite]
    rfl

theorem present_operation {x : Transfer} {s t : State} (h : present x s = .next t) : t.operation = s.operation := by
  obtain rfl | ⟨-, -, rfl⟩ | ⟨-, -, rfl⟩ := present_cases h
  · rfl
  · rfl
  · exact s.takeTransfer_operation x

theorem short_setCell : Short State.doSetCell := by
  intro u
  unfold State.doSetCell
  split
  · exact ⟨by simp, rfl⟩
  split
  · exact ⟨by simp, rfl⟩
  split
  · exact ⟨by simp, rfl⟩
  split
  · exact ⟨by simp, rfl⟩
  · split
    · exact ⟨by simp, rfl⟩
    · refine ⟨by simp, ?_⟩
      have hplace : ∀ (v : State) c n, KeepsClearing v (v.placeCell c n) := fun v _ _ => v.setGrid_keepsClearing
      simp only
      exact ((u.clearPlace_keepsClearing _).trans (hplace ..)).operation (by simp [State.placeCell]) (by simp [State.placeCell])

theorem short_clearCell : Short State.doClearCell := by
  intro u
  unfold State.doClearCell
  split
  · exact ⟨by simp, rfl⟩
  split
  · exact ⟨by simp, rfl⟩
  · refine ⟨by simp, ?_⟩
    simp only
    exact (u.clearPlace_keepsClearing _).operation (by simp) (by simp)

/-- A command that leaves the grid, the mirror work and the Command Unit to its end. -/
theorem Short.of_blocks {f : State → State × ResultCode}
    (h : ∀ u, (f u).2 ≠ .running ∧ (f u).1.cmd = u.cmd ∧ (f u).1.grid = u.grid ∧ (f u).1.mirror = u.mirror) : Short f := fun u =>
  have ⟨hr, hc, hg, hm⟩ := h u
  ⟨hr, State.operation_of_blocks hc hg hm⟩

theorem short_deleteWindow : Short State.doDeleteWindow :=
  .of_blocks fun u => ⟨by unfold State.doDeleteWindow; (repeat' split) <;> simp, by simp, by simp, by simp⟩

theorem short_attachCrane : Short State.doAttachCrane :=
  .of_blocks fun u => ⟨by unfold State.doAttachCrane; (repeat' split) <;> simp, by simp, by simp, by simp⟩

theorem short_detachCrane : Short State.doDetachCrane :=
  .of_blocks fun u => ⟨by unfold State.doDetachCrane; (repeat' split) <;> simp, by simp, by simp, by simp⟩

theorem short_setCraneParameters : Short State.doSetCraneParameters :=
  .of_blocks fun u => ⟨by unfold State.doSetCraneParameters; (repeat' split) <;> simp, by simp, by simp, by simp⟩

theorem short_setCriteria : Short State.doSetCriteria :=
  .of_blocks fun u => ⟨by unfold State.doSetCriteria; (repeat' split) <;> simp, by simp, by simp, by simp⟩

theorem short_removeReefer : Short State.doRemoveReefer :=
  .of_blocks fun u => ⟨by unfold State.doRemoveReefer; (repeat' split) <;> simp, by simp, by simp, by simp⟩

theorem short_setEnrolmentMode : Short State.doSetEnrolmentMode :=
  .of_blocks fun u => ⟨by unfold State.doSetEnrolmentMode; (repeat' split) <;> simp, by simp, by simp, by simp⟩

theorem short_setTimeParameters : Short State.doSetTimeParameters :=
  .of_blocks fun u => ⟨by unfold State.doSetTimeParameters; (repeat' split) <;> simp, by simp, by simp, by simp⟩

theorem short_startTime : Short State.doStartTime :=
  .of_blocks fun u => ⟨by unfold State.doStartTime; (repeat' split) <;> simp, by simp, by simp, by simp⟩

theorem short_stopTime : Short State.doStopTime :=
  .of_blocks fun u => ⟨by unfold State.doStopTime; (repeat' split) <;> simp, by simp, by simp, by simp⟩

theorem short_setNoticeEnables : Short State.doSetNoticeEnables :=
  .of_blocks fun u => ⟨by unfold State.doSetNoticeEnables; (repeat' split) <;> simp, by simp, by simp, by simp⟩

theorem short_setIrqEnables : Short State.doSetIrqEnables :=
  .of_blocks fun u => ⟨by unfold State.doSetIrqEnables; (repeat' split) <;> simp, by simp, by simp, by simp⟩

theorem short_clearFlags : Short State.doClearFlags :=
  .of_blocks fun u => ⟨by unfold State.doClearFlags; (repeat' split) <;> simp, by simp, by simp, by simp⟩

theorem short_readCounters : Short State.doReadCounters :=
  .of_blocks fun u => ⟨by simp [State.doReadCounters], by simp, by simp, by simp⟩

theorem short_lockWindow : Short State.doLockWindow := by
  have hlock : ∀ (u : State) i level, (u.lockAt i level).2 ≠ .running := fun u i level => by
    unfold State.lockAt
    simp only
    split
    · simp
    · split <;> simp
  refine .of_blocks fun u => ⟨?_, by simp, by simp, by simp⟩
  unfold State.doLockWindow
  (repeat' split) <;> simp [hlock]

theorem short_unlockWindow : Short State.doUnlockWindow := by
  refine .of_blocks fun u => ⟨?_, by simp, by simp, by simp⟩
  unfold State.doUnlockWindow
  split
  · simp
  · simp only
    split
    · simp
    · split <;> simp

theorem short_setHold (flag : Bool) : Short fun s => s.setHold flag :=
  .of_blocks fun u => ⟨by unfold State.setHold; (repeat' split) <;> simp, by simp, by simp, by simp⟩

theorem short_enrolReefer : Short State.doEnrolReefer := by
  have htag : ∀ (u : State) tag c q, (u.enrolTag tag c q).2 ≠ .running := fun u tag c q => by
    unfold State.enrolTag
    split
    · simp only
      split <;> simp
    · split <;> simp
  refine .of_blocks fun u => ⟨?_, by simp, by simp, by simp⟩
  unfold State.doEnrolReefer
  (repeat' split) <;> simp [htag]

theorem short_setCoverageParameters : Short State.doSetCoverageParameters := by
  intro u
  unfold State.doSetCoverageParameters
  split
  · exact ⟨by simp, rfl⟩
  · exact ⟨by simp, rfl⟩

theorem short_clearCounters : Short State.doClearCounters := fun u =>
  ⟨by simp [State.doClearCounters], by simp [State.operation, State.doClearCounters]⟩

/-- Every other command leaves the long operations alone. -/
theorem exec_operation {c : Instr} {s t : State} (h : exec c s = .next t) (hm : movesOperation c = false) : t.operation = s.operation := by
  have hdequeue : ∀ (u : State) q e, ((u.setIntake q).countTaken e).operation = u.operation := fun u q e =>
    State.operation_of_blocks (by simp) (by simp) (by simp)
  cases c <;> simp only [exec] at h
  case powerOnReset | clearGridVisit | refreshVisit | longOperationEnd | defineWindow | clearGrid | refreshMirror | restart => cases hm
  case readTransfer | writeTransfer | ringBaseWrite | ringLengthWrite | consumerIndexWrite => exact present_operation h
  case controlPageWrite =>
    obtain h | rfl := controlPageWrite_cases h
    · exact present_operation h
    · rfl
  case forwardDownstream | ownWriteIssue | heldWriteJoin | ownWriteResponse | slewStep | localTimeAdvance | agingPassStart
    | silenceSweepStart =>
    obtain rfl | ⟨-, -, rfl⟩ := quietEvent_cases h <;> rfl
  case readDataReturn | writeResponse =>
    obtain rfl | ⟨-, -, rfl⟩ := quietEvent_cases h
    · rfl
    · split <;> rfl
  case timeRecordDequeue =>
    refine event_operation (fun u => ?_) h
    split
    · exact State.operation_of_blocks (by simp) (by simp) (by simp)
    · rfl
  case holdoverExpiry => exact event_operation (fun u => State.operation_of_blocks (by simp) (by simp) (by simp)) h
  case uplinkRecordDequeue =>
    refine event_operation (fun u => ?_) h
    split
    · simp only
      split
      · exact ((State.uplinkRecord_keepsClearing ..).operation (by simp) (by simp)).trans (hdequeue ..)
      · exact hdequeue ..
    · rfl
  case measurementRecordDequeue =>
    refine event_operation (fun u => ?_) h
    split
    · exact ((State.measureRecord_keepsClearing ..).operation (by simp) (by simp)).trans (hdequeue ..)
    · rfl
  case reeferReportDequeue =>
    refine event_operation (fun u => ?_) h
    split
    · exact ((State.reeferRecord_keepsClearing ..).operation (by simp) (by simp)).trans (hdequeue ..)
    · rfl
  case heartbeatExpiry i => exact event_operation (fun u => State.operation_of_blocks (by simp) (by simp) (by simp)) h
  case slotExpiry i | sweepVisit | noticePost =>
    refine event_operation (fun u => ?_) h
    split
    · exact State.operation_of_blocks (by simp) (by simp) (by simp)
    · rfl
  case agingVisit =>
    refine event_operation (fun u => ?_) h
    split
    · exact (u.ageSquare_keepsClearing _).operation (by simp) (by simp)
    · rfl
  case offerJudgement | busyRefusal =>
    refine event_operation (fun u => ?_) h
    rfl
  case unknownCommand =>
    obtain rfl | ⟨-, -, -, rfl⟩ := event_cases h
    · rfl
    · exact State.complete_operation _ (by simp)
  case resetAssertion =>
    unfold execResetAssertion at h
    injection h with h
    split at h <;> subst h <;> rfl
  case deleteWindow => exact command_operation short_deleteWindow h
  case lockWindow => exact command_operation short_lockWindow h
  case unlockWindow => exact command_operation short_unlockWindow h
  case attachCrane => exact command_operation short_attachCrane h
  case detachCrane => exact command_operation short_detachCrane h
  case setCraneParameters => exact command_operation short_setCraneParameters h
  case holdCrane => exact command_operation (short_setHold true) h
  case releaseCrane => exact command_operation (short_setHold false) h
  case setCell => exact command_operation short_setCell h
  case clearCell => exact command_operation short_clearCell h
  case setCoverageParameters => exact command_operation short_setCoverageParameters h
  case setCriteria => exact command_operation short_setCriteria h
  case enrolReefer => exact command_operation short_enrolReefer h
  case removeReefer => exact command_operation short_removeReefer h
  case setEnrolmentMode => exact command_operation short_setEnrolmentMode h
  case setTimeParameters => exact command_operation short_setTimeParameters h
  case startTime => exact command_operation short_startTime h
  case stopTime => exact command_operation short_stopTime h
  case setNoticeEnables => exact command_operation short_setNoticeEnables h
  case setIrqEnables => exact command_operation short_setIrqEnables h
  case clearFlags => exact command_operation short_clearFlags h
  case readCounters => exact command_operation short_readCounters h
  case clearCounters => exact command_operation short_clearCounters h

/-! ## The long operations themselves (R107, R162 to R168) -/

/-- The taking of a command leaves the long operation alone. -/
theorem State.taking_operation (s : State) : s.taking.operation = s.operation := rfl

/-- A command that is not taken while a long operation runs comes about in IDLE only (R165). -/
theorem idle_of_takes {c : CommandUnit} {k : Command} (h : c.takes k = true) (hk : k.takenWhileBusy = false) : c.state = .idle := by
  simp only [CommandUnit.takes, hk, Bool.or_false, Bool.and_eq_true, beq_iff_eq] at h
  exact h.2

/-- The start of a long operation from IDLE (R162, R164): LONG, busy and the running report come with the work of one block. -/
theorem busyWf_of_started {s v : State} (hs : BusyWf s) (hidle : s.cmd.state = .idle)
    (hwork : (v.grid.clearing = true ∧ v.grid.clearPosition = 0 ∧ v.mirror = s.mirror) ∨
      (v.grid = s.grid ∧ v.mirror.target ≠ none ∧ v.mirror.position = 0)) : BusyWf (v.complete .running).finish := by
  obtain ⟨-, -, hclearing, htarget, hpos, hzero⟩ := hs.idle hidle
  have hc : (v.complete .running).finish.cmd.busy = true ∧ (v.complete .running).finish.cmd.state = .long ∧
      (v.complete .running).finish.cmd.longReport.code = .running := by
    simp [State.complete]
  have hg : (v.complete .running).finish.grid = v.grid := by simp
  have hm : (v.complete .running).finish.mirror = v.mirror := by simp
  obtain ⟨hbusy, hstate, hreport⟩ := hc
  simp only [BusyWf, hbusy, hstate, hreport, hg, hm, true_iff]
  obtain ⟨h1, h2, h3⟩ | ⟨h1, h2, h3⟩ := hwork
  · rw [h1, h2, h3, htarget, hzero]
    simp
  · rw [h1, hclearing, h3]
    exact ⟨trivial, trivial, .inr h2, by simp, hpos, fun h => absurd h h2, fun _ _ => Nat.zero_le _⟩

/-- A command taken in IDLE that starts a long operation or leaves it alone. -/
theorem command_busyWf {k : Command} {s t : State} {f : State → State × ResultCode} (hs : BusyWf s) (hk : k.takenWhileBusy = false)
    (hf : ∀ u, ((f u).2 ≠ .running ∧ (f u).1.operation = u.operation) ∨
      ((f u).2 = .running ∧
        (((f u).1.grid.clearing = true ∧ (f u).1.grid.clearPosition = 0 ∧ (f u).1.mirror = u.mirror) ∨
          ((f u).1.grid = u.grid ∧ (f u).1.mirror.target ≠ none ∧ (f u).1.mirror.position = 0))))
    (h : command k s f = .next t) : BusyWf t := by
  obtain rfl | ⟨-, htakes, -, rfl⟩ := event_cases h
  · exact hs
  obtain ⟨hr, ho⟩ | ⟨hr, hwork⟩ := hf s.taking
  · refine hs.of_same ?_
    change ((f s.taking).1.complete (f s.taking).2).finish.operation = _
    rw [State.complete_operation _ hr, ho, State.taking_operation]
  · change BusyWf ((f s.taking).1.complete (f s.taking).2).finish
    rw [hr]
    exact busyWf_of_started hs (idle_of_takes htakes hk) hwork

theorem State.windowEffects_mirror (s : State) {w : Window} {k : WindowKind} (hk : w.kind = some k) :
    (s.windowEffects w).mirror = match k.mirror with | some m => { target := some m, position := 0 } | none => s.mirror := by
  unfold State.windowEffects
  split
  · next _ _ h _ _ => obtain rfl : k = .craneDown := Option.some_inj.1 (hk.symm.trans h); rfl
  · next h => obtain rfl : k = .noticeRing := Option.some_inj.1 (hk.symm.trans h); simp [WindowKind.mirror]
  · next k' _ h _ =>
    obtain rfl : k = k' := Option.some_inj.1 (hk.symm.trans h)
    cases k.mirror <;> rfl
  · next h => rw [hk] at h; cases h

theorem defineWindow_started (u : State) : (u.doDefineWindow.2 ≠ .running ∧ u.doDefineWindow.1.operation = u.operation) ∨
    (u.doDefineWindow.2 = .running ∧
      ((u.doDefineWindow.1.grid.clearing = true ∧ u.doDefineWindow.1.grid.clearPosition = 0 ∧ u.doDefineWindow.1.mirror = u.mirror) ∨
        (u.doDefineWindow.1.grid = u.grid ∧ u.doDefineWindow.1.mirror.target ≠ none ∧ u.doDefineWindow.1.mirror.position = 0))) := by
  obtain ⟨r, he, hr, -⟩ | ⟨i, k, -, he⟩ := u.doDefineWindow_cases
  · rw [he]
    exact .inl ⟨hr, rfl⟩
  have hgrid : u.doDefineWindow.1.grid = u.grid := by simp
  have hcmd : u.doDefineWindow.1.cmd = u.cmd := by simp
  have hmirror := ((u.vacated i).setWindow i (u.definedWindow k)).windowEffects_mirror (w := u.definedWindow k) (k := k) rfl
  have hold : ((u.vacated i).setWindow i (u.definedWindow k)).mirror = u.mirror := by
    unfold State.vacated
    split <;> simp
  rw [he] at hgrid hcmd ⊢
  cases hk : k.mirror with
  | none =>
    rw [hk] at hmirror
    exact .inl ⟨by simp, State.operation_of_blocks hcmd hgrid (hmirror.trans hold)⟩
  | some m =>
    rw [hk] at hmirror
    exact .inr ⟨by simp, .inr ⟨hgrid, by rw [hmirror]; simp, by rw [hmirror]⟩⟩

theorem longOperationEnd_busyWf {s t : State} (hs : BusyWf s) (h : execLongOperationEnd s = .next t) : BusyWf t := by
  obtain rfl | ⟨-, -, -, rfl⟩ := event_cases h
  · exact hs
  · refine BusyWf.of_same (s := (s.stopOperation.closeLong .done)) ?_ ?_
    · simp [BusyWf, State.stopOperation, State.closeLong]
    · rw [State.finish_operation]
      simp [State.operation, State.stopOperation, State.closeLong, State.writeResult]

theorem clearGridVisit_busyWf {s t : State} (hs : BusyWf s) (h : execClearGridVisit s = .next t) : BusyWf t := by
  obtain rfl | ⟨-, hen, -, rfl⟩ := event_cases h
  · exact hs
  obtain ⟨h1, h2, h3, h4, -, h6, h7⟩ := hs
  simp only [Bool.and_eq_true, decide_eq_true_eq] at hen
  have hindex : asIndex 512 (s.beginEvent .longOperation).grid.clearPosition = some ⟨s.grid.clearPosition, hen.2⟩ := by
    simp [asIndex, hen.2]
  refine BusyWf.of_same (s := (s.beginEvent .longOperation).clearSquare ⟨s.grid.clearPosition, hen.2⟩) ?_
    (by rw [State.finish_operation, hindex])
  obtain ⟨hc, hp⟩ := (s.beginEvent .longOperation).clearSquare_position ⟨s.grid.clearPosition, hen.2⟩
  have hcmd : ((s.beginEvent .longOperation).clearSquare ⟨s.grid.clearPosition, hen.2⟩).cmd = s.cmd := by simp
  have hmirror : ((s.beginEvent .longOperation).clearSquare ⟨s.grid.clearPosition, hen.2⟩).mirror = s.mirror := by simp
  have hc : ((s.beginEvent .longOperation).clearSquare ⟨s.grid.clearPosition, hen.2⟩).grid.clearing = s.grid.clearing := hc
  simp only [BusyWf, hcmd, hmirror, hc, hp]
  exact ⟨h1, h2, h3, h4, hen.2, h6, h7⟩

theorem refreshVisit_busyWf {s t : State} (hs : BusyWf s) (h : execRefreshVisit s = .next t) : BusyWf t := by
  obtain rfl | ⟨-, hen, -, rfl⟩ := event_cases h
  · exact hs
  obtain ⟨h1, h2, h3, h4, h5, -, -⟩ := hs
  cases htarget : s.mirror.target with
  | none => simp [State.refreshLeft, htarget] at hen
  | some k =>
    have hleft : s.mirror.position < k.records := by simpa [State.refreshLeft, htarget] using hen
    refine BusyWf.of_same (s := s.setMirror { s.mirror with position := s.mirror.position + 1 }) ?_ ?_
    · simp only [BusyWf, State.setMirror_cmd, State.setMirror_grid, State.setMirror_mirror, htarget]
      rw [htarget] at h3 h4
      refine ⟨h1, h2, h3, h4, h5, fun h => (by cases h), fun k' hk' => ?_⟩
      obtain rfl := Option.some_inj.1 hk'
      exact hleft
    · rw [State.finish_operation]
      simp [htarget, State.operation]

theorem restart_busyWf {s t : State} (hs : BusyWf s) (h : execRestart s = .next t) : BusyWf t := by
  obtain rfl | ⟨-, -, rfl⟩ := restart_cases h
  · exact hs
  refine handleInHand_keeps (P := BusyWf) ?_ (fun u l a hu => ?_) (fun u l a hu => ?_) fun u l a hu => ?_
  · obtain ⟨h1, h2, -⟩ := hs
    by_cases hl : s.cmd.state = .long
    · simp [BusyWf, State.restarted, State.carryOut, State.doRestart, State.abortLong, State.take, State.closeLong, State.writeResult, hl,
        State.complete_of_short, State.restartBlocks]
    · simp [BusyWf, State.restarted, State.carryOut, State.doRestart, State.abortLong, State.take, hl, h1, h2,
        State.complete_of_short, State.restartBlocks]
  · refine hu.of_same ?_
    rw [State.finish_operation]
    exact ((u.beginEvent .measureJob).measureRecord_keepsClearing l a).operation (by simp) (by simp)
  · refine hu.of_same ?_
    rw [State.finish_operation]
    exact ((u.beginEvent .reeferJob).reeferRecord_keepsClearing l a).operation (by simp) (by simp)
  · refine hu.of_same ?_
    rw [State.finish_operation]
    exact State.operation_of_blocks (by simp) (by simp) (by simp)

theorem powerOn_busyWf (s : State) (b : BitVec 16) (m : BitVec 6) : BusyWf (s.powerOn b m) := by
  simp [BusyWf, CommandUnit.powerOn, Grid.powerOn]

theorem exec_busyWf {c : Instr} {s t : State} (hs : BusyWf s) (h : exec c s = .next t) : BusyWf t := by
  by_cases hm : movesOperation c = false
  · exact hs.of_same (exec_operation h hm)
  cases c
  case powerOnReset b m =>
    exact powerOnReset_induction (P := BusyWf) (powerOn_busyWf s b m) (fun u x hu => hu.of_same (u.takeTransfer_operation x)) h
  case clearGridVisit => exact clearGridVisit_busyWf hs h
  case refreshVisit => exact refreshVisit_busyWf hs h
  case longOperationEnd => exact longOperationEnd_busyWf hs h
  case defineWindow => simp only [exec] at h; exact command_busyWf hs rfl defineWindow_started h
  case clearGrid =>
    simp only [exec] at h
    exact command_busyWf hs rfl (fun u => .inr ⟨rfl, .inl ⟨rfl, rfl, rfl⟩⟩) h
  case refreshMirror =>
    simp only [exec] at h
    refine command_busyWf hs rfl (fun u => ?_) h
    unfold State.doRefreshMirror
    split
    · exact .inl ⟨by simp, rfl⟩
    · split
      · exact .inr ⟨rfl, .inr ⟨rfl, by simp, rfl⟩⟩
      · exact .inl ⟨by simp, rfl⟩
  case restart => exact restart_busyWf hs h
  all_goals exact absurd rfl hm

/-- Settles O58: a long operation starts in IDLE, its visits stay within its bounds, and its end or abort clears all of it. -/
theorem busyConsistentKept : Obligations.BusyConsistentKept := fun _ _ hs h =>
  step_keeps (P := BusyWf) (fun _ _ h => h) (fun _ _ _ hs h => exec_busyWf hs h) hs h

end Sys2Proof.Machine
end

section
/-! SUPPORT. The reset state meets the invariants (R173). -/

namespace Sys2Proof.Machine

/-- The reset state is a power-on state with both straps 0. -/
theorem reset_eq_powerOn : State.reset = State.reset.powerOn 0 0 := rfl

theorem reset_window (i : Fin 32) : State.reset.window i = .cleared := replicate_get _ i

theorem reset_crane (i : Fin 16) : State.reset.crane i = .cleared := replicate_get _ i

theorem reset_windows_free : (∀ i, (State.reset.window i).inUse = false) ∧ ∀ i a, (State.reset.window i).contains a = false := by
  have hfree : ∀ i, (State.reset.window i).inUse = false := fun i => by rw [reset_window]; rfl
  exact ⟨hfree, fun i a => by simp [Window.contains, hfree i]⟩

theorem reset_crane_dormant (i : Fin 16) : (State.reset.crane i).link = .dormant := by rw [reset_crane]; rfl

/-- Settles O60, by the power-on values of every block. -/
theorem resetMeetsInvariants : Obligations.ResetMeetsInvariants := by
  obtain ⟨hfree, hcontains⟩ := reset_windows_free
  refine ⟨powerOn_settled .reset 0 0, ?time, ?apart, ?fit, ?pending, ?weak, powerOn_idsDistinct .reset 0 0, powerOn_heard .reset 0 0,
    powerOn_cellsDistinct .reset 0 0, powerOn_distinct, powerOn_summaryFits .reset 0 0, ?estimates, ?entries, powerOn_criteriaInRange, ?ring,
    powerOn_busyWf .reset 0 0, ?buffers⟩
  case time => simp [TimeInRange, State.reset, TimeBase.powerOn]
  case apart =>
    refine ⟨fun i j a h => ?_, fun i a h => ?_⟩ <;> rw [hcontains] at h <;> cases h
  case fit =>
    intro w i size l hu
    rw [hfree] at hu; cases hu
  case pending => exact fun i => by rw [reset_crane]; exact pendingWf_of_cleared rfl rfl
  case weak =>
    intro i q hl
    rw [reset_crane_dormant] at hl; cases hl
  case estimates =>
    intro q c
    rw [reset_eq_powerOn, powerOn_entries_get]
    trivial
  case entries =>
    intro n
    rw [State.entry, reset_eq_powerOn, State.powerOn_reefer, powerOn_entry_vacant]
    exact entryInRange_cleared
  case ring =>
    rw [ringWf_iff]
    exact ⟨⟨by simp [State.reset, NoticeUnit.powerOn], by simp [State.reset, NoticeUnit.powerOn], by simp [State.reset, NoticeUnit.powerOn]⟩,
      by simp [State.reset, NoticeUnit.powerOn]⟩
  case buffers => simp [BuffersWf, State.reset, NoticeUnit.powerOn, QueueOrdered]

end Sys2Proof.Machine
end

section
/-! SUPPORT. The end of a command by what its effect has put out: its own writes, the status block where a flag or the overflow set has
changed, and the result record (R154, R163). -/

namespace Sys2Proof.Machine

section
variable {s v : State} {r : ResultCode}

theorem Emits.statusDue_iff (he : Emits s v) (hdue : s.scratch.statusDue = false) :
    v.scratch.statusDue = true ↔ s.notice.Flagged v.notice := by
  simp [he.due, hdue]

/-- An effect that has called for no status block ends with its own writes and the result record. -/
theorem State.complete_arb_of_quiet (hr : r ≠ .running) (hdue : v.scratch.statusDue = false) (hwork : v.scratch.work = .command)
    (hcpb : v.cpb = s.cpb) : (v.complete r).finish.arb =
      v.arb.hand .command ⟨s.pageAddr 0x80, (v.complete r).finish.cmd.resultRecord⟩ := by
  rw [State.complete_finish_arb hr]
  simp [hdue, hwork, State.pageAddr, hcpb]

/-- An effect that puts out notices and flags ends with its own writes, the status block where a flag or the overflow set has changed, and
the result record. -/
theorem State.complete_arb_of_emits (hr : r ≠ .running) (he : Emits s.taking v) (hcpb : v.cpb = s.cpb) :
    let t := (v.complete r).finish
    t.arb = (if t.notice.flags = s.notice.flags ∧ t.notice.overflow = s.notice.overflow then v.arb
      else v.arb.hand .command ⟨s.pageAddr 0x200, t.statusBlock⟩).hand .command ⟨s.pageAddr 0x80, t.cmd.resultRecord⟩ := by
  intro t
  have hnotice : t.notice.flags = v.notice.flags ∧ t.notice.overflow = v.notice.overflow := by
    have h : t.notice = v.notice.followed := by rw [State.finish_notice_followed, State.complete_notice]
    rw [h]
    exact ⟨rfl, rfl⟩
  have hblock : t.statusBlock = v.statusBlock := (State.finish_statusBlock _).trans (State.complete_statusBlock hr)
  have hdue := he.statusDue_iff rfl
  rw [NoticeUnit.Flagged, State.taking_notice] at hdue
  rw [hnotice.1, hnotice.2, State.complete_finish_arb hr, hblock]
  by_cases h : v.notice.flags = s.notice.flags ∧ v.notice.overflow = s.notice.overflow
  · simp [hdue, h, he.work, State.pageAddr, hcpb, t]
  · simp [hdue, h, he.work, State.pageAddr, hcpb, t]

/-- A block that the effect leaves alone stays through the command, and with it the interrupt line where it is the Notice Unit. -/
theorem Free.complete_notice {k : Work} (hs : Free k s) (hv : v.notice = s.notice) : (v.complete r).finish.notice = s.notice := by
  rw [State.finish_notice_followed, State.complete_notice, hv, hs.notice_followed]

end

end Sys2Proof.Machine
end

section
/-! SUPPORT. ENROL_REEFER and REMOVE_REEFER (R117, R119). -/

namespace Sys2Proof.Machine

/-- The mirror record of entry n goes to the own writes at its place in the window in use, if there is one (R128). -/
theorem State.writeReeferMirror_arb (s : State) (n : Fin 4096) : (s.writeReeferMirror n).arb = WithReeferMirror s.scratch.work s s n := by
  unfold WithReeferMirror
  cases h : s.mirrorBase .reeferMirror <;> simp [State.writeReeferMirror, State.handMirror, h]

/-- The base of a mirror's window is a matter of the window table alone. -/
theorem State.mirrorBase_congr {s t : State} (h : t.windows = s.windows) (k : WindowKind) : t.mirrorBase k = s.mirrorBase k := by
  simp only [State.mirrorBase, h]

/-- What the mirror record of entry n adds to the own writes is a matter of the mirror's place, the own writes before it and the entry. -/
theorem WithReeferMirror.congr {k k' : Work} {s s' t t' : State} {n : Fin 4096} (hk : k' = k)
    (hbase : s'.mirrorBase .reeferMirror = s.mirrorBase .reeferMirror) (harb : s'.arb = s.arb) (hentry : t'.entry n = t.entry n) :
    WithReeferMirror k' s' t' n = WithReeferMirror k s t n := by
  unfold WithReeferMirror
  rw [hk, hbase, harb, hentry]

/-! ## The entry that an operation has set -/

section
variable {s : State} {n : Fin 4096} {x : ReeferEntry}

/-- The end of a command that has set entry n and written its mirror record, and nothing else. -/
theorem setEntry_complete_done {k : Command} (ho : Offered k s) (n : Fin 4096) (x : ReeferEntry) :
    let t := (((s.taking.setEntry n x).writeReeferMirror n).complete .done).finish
    OnlyTouches [.reefer, .cmd, .arb] s t ∧ ReportsWithReeferMirror s t n ∧
      t.reefer = { s.reefer with entries := upd s.reefer.entries n x } := by
  intro t
  obtain ⟨hfree, -⟩ := ho
  have hreefer : t.reefer = { s.reefer with entries := upd s.reefer.entries n x } := by
    rw [State.complete_finish_reefer, State.writeReeferMirror_reefer]
    rfl
  have hentry : t.entry n = x := by rw [State.entry, hreefer, upd_get_self]
  refine ⟨OnlyTouches.complete .done hfree ?_ (by simp) (by simp), ⟨State.complete_cmd_reported (by decide) (by simp), ?_⟩, hreefer⟩
  · simp [OnlyTouches, State.taking]
  · have harb : ((s.taking.setEntry n x).writeReeferMirror n).arb = WithReeferMirror .command s t n := by
      rw [State.writeReeferMirror_arb]
      exact WithReeferMirror.congr rfl rfl rfl (hentry ▸ State.setEntry_entry_self ..)
    rw [State.complete_arb_of_quiet (s := s) (by decide) (by simp [EventScratch.idle]) (by simp) (by simp [State.taking]), harb]
    rfl

end

/-! ## ENROL_REEFER -/

section
variable {s : State} {c : Fin 16} {q : Option (Fin 512)}

theorem squareArg_eq (h : s.arg 3 = match q with | none => 0 | some x => x.val + 1) : squareArg (s.arg 3) = q ∧ s.arg 3 ≤ 512 := by
  cases q with
  | none => simp [squareArg, h]
  | some x => simp [squareArg, h]

theorem State.doEnrolReefer_badArgument (h : s.arg 1 = 0 ∨ 15 < s.arg 2 ∨ 512 < s.arg 3) : s.doEnrolReefer = (s, .badArgument) := by
  unfold State.doEnrolReefer
  split
  · next c hc =>
    have : s.arg 2 = c.val := by
      rw [asIndex] at hc
      split at hc
      · next hlt => rw [← Option.some.inj hc]
      · cases hc
    have := c.isLt
    rw [if_pos (by omega)]
  · rfl

theorem State.doEnrolReefer_eq_enrolTag (htag : s.arg 1 ≠ 0) (hc : c.val = s.arg 2)
    (hq : s.arg 3 = match q with | none => 0 | some x => x.val + 1) : s.doEnrolReefer = s.enrolTag (s.arg 1) c q := by
  obtain ⟨hsquare, hle⟩ := squareArg_eq hq
  simp [State.doEnrolReefer, ← hc, htag, hsquare, Nat.not_lt.2 hle]

/-- A tag that is held (R117). -/
theorem State.enrolTag_held {tag : Nat} {n : Fin 4096} (h : Holds s n tag) : s.enrolTag tag c q =
    if (s.entry n).criteria = c ∧ (s.entry n).square = q then (s, .done)
    else ((s.setEntry n { s.entry n with criteria := c, square := q }).writeReeferMirror n, .done) := by
  simp only [State.enrolTag, holder_eq_some_iff.2 h]

/-- A tag that is not held takes its place (R117, R118). -/
theorem State.enrolTag_placed {tag : Nat} {n : Fin 4096} {evicted : Bool} (h : NotHeld s tag) (hp : PlaceForNewTag s n evicted) :
    s.enrolTag tag c q = ((s.enrolAt n evicted tag c q s.time.lt).writeReeferMirror n, .done) := by
  simp only [State.enrolTag, holder_eq_none_iff.2 h, placeFor_eq_some_iff.2 hp]

theorem State.enrolTag_full {tag : Nat} (h : NotHeld s tag) (hp : ∀ n, (s.entry n).state ≠ .vacant ∧ (s.entry n).state ≠ .silent) :
    s.enrolTag tag c q = (s, .full) := by
  simp only [State.enrolTag, holder_eq_none_iff.2 h, placeFor_eq_none_iff.2 hp]

theorem State.enrolAt_notice {n : Fin 4096} {evicted : Bool} {tag heard : Nat} : (s.enrolAt n evicted tag c q heard).notice =
    if evicted = true then s.notice.take (EvictionNotice s n tag) else s.notice := by
  cases evicted <;> rfl

/-- The end of ENROL REEFER for a tag that has taken entry n. -/
theorem enrolAt_complete_done {k : Command} (ho : Offered k s) (n : Fin 4096) (evicted : Bool) (tag : Nat) :
    let t := (((s.taking.enrolAt n evicted tag c q s.time.lt).writeReeferMirror n).complete .done).finish
    OnlyTouches [.reefer, .notice, .cmd, .arb] s t ∧ t.cmd = s.cmd.reported .done ∧
      t.reefer = { s.reefer with entries := upd s.reefer.entries n (EnrolledAs tag c q s.time.lt) } ∧
      t.notice = (if evicted = true then (s.notice.take (EvictionNotice s n tag)).followed else s.notice) ∧
      t.arb = (if t.notice.flags = s.notice.flags ∧ t.notice.overflow = s.notice.overflow then WithReeferMirror .command s t n
        else (WithReeferMirror .command s t n).hand .command ⟨s.pageAddr 0x200, t.statusBlock⟩).hand .command
          ⟨s.pageAddr 0x80, t.cmd.resultRecord⟩ := by
  intro t
  obtain ⟨hfree, -⟩ := ho
  have hreefer : t.reefer = { s.reefer with entries := upd s.reefer.entries n (EnrolledAs tag c q s.time.lt) } := by
    rw [State.complete_finish_reefer, State.writeReeferMirror_reefer, State.enrolAt_reefer]
    rfl
  have hentry : t.entry n = EnrolledAs tag c q s.time.lt := by rw [State.entry, hreefer, upd_get_self]
  have hset : (s.taking.enrolAt n evicted tag c q s.time.lt).entry n = t.entry n := by
    rw [hentry, State.entry, State.enrolAt_reefer, upd_get_self]
    rfl
  have harb : ((s.taking.enrolAt n evicted tag c q s.time.lt).writeReeferMirror n).arb = WithReeferMirror .command s t n := by
    rw [State.writeReeferMirror_arb]
    exact WithReeferMirror.congr (State.enrolAt_emits ..).work (State.mirrorBase_congr (by simp [State.taking]) _) (by simp) hset
  refine ⟨OnlyTouches.complete .done hfree ?_ (by simp) (by simp), State.complete_cmd_reported (by decide) (by simp), hreefer, ?_, ?_⟩
  · simp [OnlyTouches, State.taking]
  · rw [State.finish_notice_followed, State.complete_notice, State.writeReeferMirror_notice, State.enrolAt_notice]
    cases evicted
    · exact hfree.notice_followed
    · rfl
  · rw [← harb]
    exact State.complete_arb_of_emits (by decide) ((State.enrolAt_emits ..).trans (State.writeReeferMirror_emits ..))
      (by simp [State.taking])

end

/-- Settles O44: ENROL REEFER by who holds the tag and which place is free for it, REMOVE REEFER by who holds the tag. -/
theorem enrolAndRemoveReefer : Obligations.EnrolAndRemoveReefer := by
  refine ⟨fun s ho => ⟨_, command_next ho State.doEnrolReefer,
      fun hbad => Refuses.of_effect ho (by decide) (State.doEnrolReefer_badArgument hbad), fun c q htag hc hq => ?enrol⟩,
    fun s ho => ⟨_, command_next ho State.doRemoveReefer, fun hbad => ?bad, fun htag hnone => ?missing, fun n htag hn => ?remove⟩⟩
  case enrol =>
    have heffect := State.doEnrolReefer_eq_enrolTag (s := s.taking) htag hc hq
    refine ⟨fun n hn => ⟨fun hsame => ?same, fun hnew => ?new⟩, fun n evicted hnone hp => ?placed, fun hnone hfull => ?full⟩
    case same =>
      refine Refuses.of_effect ho (by decide) (heffect.trans ((State.enrolTag_held (s := s.taking) hn).trans (if_pos hsame)))
    case new =>
      rw [heffect, State.taking_arg, State.enrolTag_held (s := s.taking) hn,
        if_neg (c := (s.taking.entry n).criteria = c ∧ (s.taking.entry n).square = q) hnew]
      exact setEntry_complete_done ho n _
    case placed =>
      rw [heffect, State.taking_arg, State.enrolTag_placed (s := s.taking) hnone hp]
      exact enrolAt_complete_done ho n evicted _
    case full => exact Refuses.of_effect ho (by decide) (heffect.trans (State.enrolTag_full (s := s.taking) hnone hfull))
  case bad => exact Refuses.of_effect ho (by decide) (by simp [State.doRemoveReefer, hbad])
  case missing =>
    refine Refuses.of_effect ho (by decide) ?_
    have hholder : s.taking.reefer.holder (s.arg 1) = none := (holder_eq_none_iff (s := s)).2 hnone
    simp only [State.doRemoveReefer, State.taking_arg, if_neg htag, hholder]
  case remove =>
    have hholder : s.taking.reefer.holder (s.arg 1) = some n := (holder_eq_some_iff (s := s)).2 hn
    simp only [State.doRemoveReefer, State.taking_arg, if_neg htag, hholder]
    exact setEntry_complete_done ho n .cleared

end Sys2Proof.Machine
end

section
/-! SUPPORT. States between which the coverage and link operations make no difference: they read neither the record queues, the reefer table,
the Command Unit nor a call for a status block, and of the window table only where the mirrors lie. -/

namespace Sys2Proof.Machine

/-- The grid g0 with what samples and summaries read and write as g has it: the passes, the clearing and the counts of measurement records
stay g0's. -/
def Grid.reads (g0 g : Grid) : Grid :=
  { g0 with cells := g.cells, squares := g.squares, params := g.params, limiter := g.limiter, unknownCells := g.unknownCells }

/-- t is s in everything that samples, summaries and link judgements read and write; what they leave alone of the grid is g0's in t. -/
structure Alike (g0 : Grid) (s t : State) : Prop where
  time : t.time = s.time
  cranes : t.cranes = s.cranes
  notice : t.notice = s.notice
  arb : t.arb = s.arb
  work : t.scratch.work = s.scratch.work
  deferred : t.scratch.deferred = s.scratch.deferred
  grid : t.grid = g0.reads s.grid
  mirrors : ∀ k, t.mirrorBase k = s.mirrorBase k

namespace Alike

theorem refl (s : State) : Alike s.grid s s := ⟨rfl, rfl, rfl, rfl, rfl, rfl, rfl, fun _ => rfl⟩

section
variable {g0 : Grid} {s t : State} (h : Alike g0 s t)
include h

/-- The grids are the same where what is left alone of s is g0's too. -/
theorem grid_eq (hs : Alike g0 s s) : t.grid = s.grid := h.grid.trans hs.grid.symm

theorem stamp : t.stamp = s.stamp := by rw [State.stamp, State.stamp, h.time]

theorem crane (i : Fin 16) : t.crane i = s.crane i := by rw [State.crane, State.crane, h.cranes]

theorem square (q : Fin 512) : t.square q = s.square q := by rw [State.square, h.grid]; rfl

theorem cells : t.grid.cells = s.grid.cells := by rw [h.grid]; rfl

theorem params : t.grid.params = s.grid.params := by rw [h.grid]; rfl

theorem limiter : t.grid.limiter = s.grid.limiter := by rw [h.grid]; rfl

theorem unknownCells : t.grid.unknownCells = s.grid.unknownCells := by rw [h.grid]; rfl

theorem weakSquare (i : Fin 16) : t.weakSquare i = s.weakSquare i := by
  simp only [State.weakSquare, h.crane, h.square]

theorem mirrorBase_of_windows {u v : State} (hu : u.windows = s.windows) (hv : v.windows = t.windows) (k : WindowKind) :
    v.mirrorBase k = u.mirrorBase k := by
  rw [State.mirrorBase_congr hu, State.mirrorBase_congr hv, h.mirrors]

/-! ### The state's operations -/

theorem setCrane (i : Fin 16) (c : Crane) : Alike g0 (s.setCrane i c) (t.setCrane i c) :=
  { h with cranes := by rw [State.setCrane_cranes, State.setCrane_cranes, h.cranes], mirrors := h.mirrors }

theorem raise (k : NoticeKind) (n : Nat) (a b c : Word) : Alike g0 (s.raise k n a b c) (t.raise k n a b c) :=
  { h with
    notice := by
      have hnotice : ∀ u : State, (u.raise k n a b c).notice = u.notice.take ⟨k, n, u.stamp, a, b, c⟩ := fun _ => rfl
      rw [hnotice, hnotice, h.stamp, h.notice]
    mirrors := h.mirrors }

theorem handMirror (k : WindowKind) (a : Nat) (d : List Byte) : Alike g0 (s.handMirror k a d) (t.handMirror k a d) :=
  { h with
    arb := by
      unfold State.handMirror
      rw [State.setArb_arb, State.setArb_arb, h.mirrors, h.arb, h.work]
    mirrors := h.mirrors }

theorem setGrid {g g' : Grid} (hg : g' = g0.reads g) :
    Alike g0 (s.setGrid g) (t.setGrid g') :=
  { h with grid := hg, mirrors := h.mirrors }

theorem setSquare (q : Fin 512) (x : Square) : Alike g0 (s.setSquare q x) (t.setSquare q x) := by
  refine h.setGrid ?_
  rw [h.grid]
  rfl

/-! ### Link transitions -/

theorem writeCraneMirror (i : Fin 16) : Alike g0 (s.writeCraneMirror i) (t.writeCraneMirror i) := by
  unfold State.writeCraneMirror
  rw [h.deferred, h.crane]
  split
  · exact { h with mirrors := h.mirrors }
  · exact h.handMirror ..

theorem expireSlot (i : Fin 16) (n : Nat) : Alike g0 (s.expireSlot i n) (t.expireSlot i n) := by
  unfold State.expireSlot
  rw [h.crane]
  exact (h.setCrane i _).raise ..

theorem expirePassed (i : Fin 16) (k : Nat) : Alike g0 (s.expirePassed i k) (t.expirePassed i k) := by
  induction k generalizing s t with
  | zero => exact h
  | succ k ih =>
    have hhead : t.passedHead i = s.passedHead i := by simp only [State.passedHead, h.crane, h.time]
    unfold State.expirePassed
    rw [hhead]
    split
    · exact ih (h.expireSlot i _)
    · exact h

theorem enterDegraded (i : Fin 16) : Alike g0 (s.enterDegraded i) (t.enterDegraded i) := by
  unfold State.enterDegraded
  rw [h.crane, h.weakSquare]
  exact (((h.setCrane i _).raise _ _ _ _ _).expirePassed i _).writeCraneMirror i

theorem enterLinked (i : Fin 16) (k : NoticeKind) : Alike g0 (s.enterLinked i k) (t.enterLinked i k) := by
  unfold State.enterLinked
  rw [h.crane, h.time]
  exact ((h.setCrane i _).raise _ _ _ _ _).writeCraneMirror i

theorem judgeOnSquare (i : Fin 16) (before after : SquareState) :
    Alike g0 (s.judgeOnSquare i before after) (t.judgeOnSquare i before after) := by
  simp only [State.judgeOnSquare, h.crane]
  cases (s.crane i).link with
  | linked => dsimp only; split; exacts [h.enterDegraded i, h]
  | degraded => dsimp only; split; exacts [h.enterLinked i _, h]
  | lost => exact h
  | dormant => exact h

theorem reportSquare (q : Fin 512) (before after : SquareState) : Alike g0 (s.reportSquare q before after) (t.reportSquare q before after) := by
  unfold State.reportSquare
  induction List.finRange 16 generalizing s t with
  | nil => exact h
  | cons i l ih =>
    rw [List.foldl_cons, List.foldl_cons, h.crane]
    split
    · exact ih (h.judgeOnSquare i before after)
    · exact ih h

theorem judgeOnRecord (i : Fin 16) (own : UplinkOutcome) : Alike g0 (s.judgeOnRecord i own) (t.judgeOnRecord i own) := by
  simp only [State.judgeOnRecord, h.crane, h.weakSquare]
  cases (s.crane i).link with
  | linked => dsimp only; split; exacts [h.enterDegraded i, h]
  | degraded => dsimp only; split; exacts [h, h.enterLinked i _]
  | lost =>
    dsimp only
    split
    · split
      exacts [h.enterDegraded i, h.enterLinked i _]
    · exact h
  | dormant => exact h

theorem steerCheck (i : Fin 16) (arrival : Nat) : Alike g0 (s.steerCheck i arrival) (t.steerCheck i arrival) := by
  have hcase : t.steerCase i = s.steerCase i := by
    simp only [State.steerCase, Grid.cellIndex, h.crane, h.square, h.cells, h.params]
  unfold State.steerCheck
  simp only [hcase, h.crane, h.params, h.cells]
  split
  · split
    · split
      · exact (h.setCrane i _).raise ..
      · exact h
    · exact h
  · exact h

/-! ### Summaries and samples -/

theorem writeGridMirror (q : Fin 512) : Alike g0 (s.writeGridMirror q) (t.writeGridMirror q) := by
  unfold State.writeGridMirror
  rw [h.square, h.cells]
  exact h.handMirror ..

theorem afterRecompute (q : Fin 512) (old : Square) : Alike g0 (s.afterRecompute q old) (t.afterRecompute q old) := by
  unfold State.afterRecompute
  simp only [h.square]
  have hmirror {u v : State} (huv : Alike g0 u v) (p : Prop) [Decidable p] :
      Alike g0 (if p then u else u.writeGridMirror q) (if p then v else v.writeGridMirror q) := by
    split
    exacts [huv, huv.writeGridMirror q]
  by_cases hstate : (s.square q).state = old.state
  · simp only [hstate, if_true]
    exact hmirror h _
  · simp only [hstate, if_false]
    exact (hmirror (h.raise ..) _).reportSquare ..

theorem changeSquare (q : Fin 512) (entries : Vector CellEntry 24) : Alike g0 (s.changeSquare q entries) (t.changeSquare q entries) := by
  unfold State.changeSquare
  rw [h.square, h.params, h.stamp]
  exact (h.setSquare q _).afterRecompute q _

theorem unknownSample (q : Fin 512) (identity : Nat) (src : SampleSource) :
    Alike g0 (s.unknownSample q identity src) (t.unknownSample q identity src) := by
  have hset : Alike g0
      (s.setGrid { s.grid with
        unknownCells := satAdd s.grid.unknownCells 1
        limiter := (consultLimiter s.grid.limiter identity s.time.lt).2 })
      (t.setGrid { t.grid with
        unknownCells := satAdd t.grid.unknownCells 1
        limiter := (consultLimiter t.grid.limiter identity t.time.lt).2 }) := by
    refine h.setGrid ?_
    rw [h.grid, h.time]
    rfl
  unfold State.unknownSample
  simp only [h.limiter, h.time] at hset ⊢
  split
  · exact hset.raise ..
  · exact hset

theorem sample (segment band identity : Nat) (level : Int) (arrival : Nat) (src : SampleSource) :
    Alike g0 (s.sample segment band identity level arrival src) (t.sample segment band identity level arrival src) := by
  have hindex : t.grid.cellIndex identity = s.grid.cellIndex identity := by simp only [Grid.cellIndex, h.cells]
  unfold State.sample
  simp only [hindex, h.params, h.square]
  split
  · exact h.changeSquare ..
  · exact h.unknownSample ..

end

end Alike

/-! ## The start of an event -/

/-- A state that differs from s at the start of an event in nothing that the operations read. -/
theorem Alike.of_begun {k : Work} {s t : State} {g0 : Grid} (htime : t.time = s.time) (hcranes : t.cranes = s.cranes)
    (hnotice : t.notice = s.notice) (harb : t.arb = s.arb) (hgrid : t.grid = g0.reads s.grid)
    (hmirrors : ∀ k, t.mirrorBase k = s.mirrorBase k) (hwork : t.scratch.work = k) (hdeferred : t.scratch.deferred = none) :
    Alike g0 (s.beginEvent k) t :=
  ⟨htime, hcranes, hnotice, harb, hwork, hdeferred, hgrid, hmirrors⟩

/-- The window of a mirror, by the entries of the table. -/
theorem State.mirrorBase_eq (s : State) (k : WindowKind) : s.mirrorBase k =
    ((List.finRange 32).find? fun i => (s.window i).inUse && (s.window i).kind == some k).map fun i => (s.window i).base := by
  rw [State.mirrorBase, toList_eq_map_get, List.find?_map, Option.map_map]
  rfl

/-- A count of a window's does not move its mirror. -/
theorem State.countTaken_mirrorBase (s : State) (e : QueueEntry) (k : WindowKind) : (s.countTaken e).mirrorBase k = s.mirrorBase k := by
  have hwindow (i : Fin 32) : ((s.countTaken e).window i).inUse = (s.window i).inUse ∧
      ((s.countTaken e).window i).kind = (s.window i).kind ∧ ((s.countTaken e).window i).base = (s.window i).base := by
    rw [s.countTaken_counts e i]
    split <;> exact ⟨rfl, rfl, rfl⟩
  simp only [State.mirrorBase_eq, hwindow]

end Sys2Proof.Machine
end

section
/-! SUPPORT. The dequeue of a record, whichever job it is of (R37). -/

namespace Sys2Proof.Machine

/-- The state in which a record is handled: an event of its job has begun, the queues are as the dequeue leaves them, and the record counts
as taken (R37). -/
def State.dequeued (s : State) (k : Work) (q : Intake) (e : QueueEntry) : State := ((s.beginEvent k).setIntake q).countTaken e

section
variable (s : State) (k : Work) (q : Intake) (e : QueueEntry)

@[simp] theorem State.dequeued_time : (s.dequeued k q e).time = s.time := by simp [State.dequeued]
@[simp] theorem State.dequeued_arb : (s.dequeued k q e).arb = s.arb := by simp [State.dequeued]
@[simp] theorem State.dequeued_cranes : (s.dequeued k q e).cranes = s.cranes := by simp [State.dequeued]
@[simp] theorem State.dequeued_crane (i : Fin 16) : (s.dequeued k q e).crane i = s.crane i := by simp [State.crane]
@[simp] theorem State.dequeued_grid : (s.dequeued k q e).grid = s.grid := by simp [State.dequeued]
@[simp] theorem State.dequeued_square (p : Fin 512) : (s.dequeued k q e).square p = s.square p := by simp [State.square]
@[simp] theorem State.dequeued_reefer : (s.dequeued k q e).reefer = s.reefer := by simp [State.dequeued]
@[simp] theorem State.dequeued_entry (n : Fin 4096) : (s.dequeued k q e).entry n = s.entry n := by simp [State.entry]
@[simp] theorem State.dequeued_criteria (c : Fin 16) : (s.dequeued k q e).criteria c = s.criteria c := by simp [State.criteria]
@[simp] theorem State.dequeued_notice : (s.dequeued k q e).notice = s.notice := by simp [State.dequeued]
@[simp] theorem State.dequeued_cpb : (s.dequeued k q e).cpb = s.cpb := by simp [State.dequeued]
@[simp] theorem State.dequeued_intake : (s.dequeued k q e).intake = q := by simp [State.dequeued]
@[simp] theorem State.dequeued_scratch : (s.dequeued k q e).scratch = { EventScratch.idle with work := k } := by simp [State.dequeued]
@[simp] theorem State.dequeued_stamp : (s.dequeued k q e).stamp = s.stamp := State.stamp_congr (by simp) (by simp) (by simp)
@[simp] theorem State.dequeued_mirrorBase (m : WindowKind) : (s.dequeued k q e).mirrorBase m = s.mirrorBase m :=
  State.countTaken_mirrorBase _ e m

theorem State.dequeued_counts : CountsTaken s (s.dequeued k q e) e := State.countTaken_counts _ e

theorem State.dequeued_alike : Alike s.grid (s.beginEvent k) (s.dequeued k q e) :=
  .of_begun (by simp) (by simp) (by simp) (by simp) (by simp [Grid.reads]) (by simp) (by simp) (by simp [EventScratch.idle])

/-- The dequeue itself touches the queues and the window counters. -/
theorem State.dequeued_onlyTouches : OnlyTouches [.intake, .windows] s ((s.dequeued k q e).setScratch s.scratch) := by
  simp [OnlyTouches, State.dequeued]

end

/-- A larger list of blocks. -/
theorem OnlyTouches.mono {l l' : List Block} {s t : State} (h : OnlyTouches l s t) (hl : l ⊆ l') : OnlyTouches l' s t := by
  obtain ⟨h1, h2, h3, h4, h5, h6, htime, hwindows, hintake, harb, hport, hcranes, hgrid, hreefer, hnotice, hcmd, hmirror⟩ := h
  exact ⟨h1, h2, h3, h4, h5, h6, htime.imp_left (hl ·), hwindows.imp_left (hl ·), hintake.imp_left (hl ·), harb.imp_left (hl ·),
    hport.imp_left (hl ·), hcranes.imp_left (hl ·), hgrid.imp_left (hl ·), hreefer.imp_left (hl ·), hnotice.imp_left (hl ·),
    hcmd.imp_left (hl ·), hmirror.imp_left (hl ·)⟩

section
variable {k : Work} {s v : State} {q : Intake} {e : QueueEntry}

/-- Whatever the handling brings about, the record has left its queue and counts as taken, if the handling leaves queues and window
counters alone. -/
theorem State.dequeued_finish (hintake : v.intake = (s.dequeued k q e).intake) (hwindows : v.windows = (s.dequeued k q e).windows) :
    v.finish.intake = q ∧ CountsTaken s v.finish e := by
  refine ⟨by simp [hintake], fun i => ?_⟩
  rw [← State.dequeued_counts s k q e i]
  simp [State.window, hwindows]

/-- A handling that calls for no status block and leaves the notices alone. -/
theorem Free.finish_notice (hs : Free k s) (hv : v.notice = s.notice) : v.finish.notice = s.notice := by
  rw [State.finish_notice_followed, hv, hs.notice_followed]

end

theorem State.finish_arb_of_quiet {v : State} (h : v.scratch.statusDue = false) : v.finish.arb = v.arb := by
  simp [State.flushStatus_arb, h]

end Sys2Proof.Machine
end

section
/-! SUPPORT. Reefer reports that are not used (R118, R120, R121). -/

namespace Sys2Proof.Machine

theorem reeferReportDequeue_next {s : State} {e : QueueEntry} {rest : List QueueEntry} (hs : Free .reeferJob s)
    (hq : s.intake.reefer = e :: rest) : exec .reeferReportDequeue s =
      .next ((s.dequeued .reeferJob { s.intake with reefer := rest } e).reeferRecord e.bytes e.arrival).finish := by
  obtain ⟨hreset, -, hheld⟩ := hs
  simp only [exec, execReeferReportDequeue]
  rw [event_next hreset (by simp [hq]) hheld]
  simp [hq, State.dequeued]

section
variable {s : State} {bytes : List Byte} {a : Nat}

theorem State.reeferRecord_rejected (h : (ReeferReport.read bytes).kind ≠ 1 ∨ (ReeferReport.read bytes).tag = 0) :
    s.reeferRecord bytes a = s.setReefer { s.reefer with rejected := min (s.reefer.rejected + 1) 4294967295 } := if_pos h

theorem State.reeferRecord_held {n : Fin 4096} (hkind : (ReeferReport.read bytes).kind = 1) (htag : (ReeferReport.read bytes).tag ≠ 0)
    (h : Holds s n (ReeferReport.read bytes).tag) : s.reeferRecord bytes a = s.reportFor n (ReeferReport.read bytes) a := by
  simp only [State.reeferRecord, hkind, htag, holder_eq_some_iff.2 h, ne_eq, not_true_eq_false, or_self, if_false]

theorem State.reeferRecord_unknown (hkind : (ReeferReport.read bytes).kind = 1) (htag : (ReeferReport.read bytes).tag ≠ 0)
    (h : NotHeld s (ReeferReport.read bytes).tag) : s.reeferRecord bytes a = s.unknownTag (ReeferReport.read bytes) a := by
  simp only [State.reeferRecord, hkind, htag, holder_eq_none_iff.2 h, ne_eq, not_true_eq_false, or_self, if_false]

variable {r : ReeferReport}

theorem State.unknownTag_manual (h : s.reefer.mode = .manual) :
    s.unknownTag r a = s.setReefer { s.reefer with unknownTags := min (s.reefer.unknownTags + 1) 4294967295 } := by
  simp only [State.unknownTag, h, satAdd, counterMax]

theorem State.unknownTag_dropped (h : s.reefer.mode = .auto) (hp : ∀ n, (s.entry n).state ≠ .vacant ∧ (s.entry n).state ≠ .silent) :
    s.unknownTag r a = s.dropReport r.tag := by
  simp only [State.unknownTag, h, placeFor_eq_none_iff.2 hp]

theorem State.unknownTag_enrols {n : Fin 4096} {evicted : Bool} (h : s.reefer.mode = .auto) (hp : PlaceForNewTag s n evicted) :
    s.unknownTag r a = ((s.enrolAt n evicted r.tag 0 none a).noticeEnrolment n r.tag evicted).reportFor n r a := by
  simp only [State.unknownTag, h, placeFor_eq_some_iff.2 hp]

/-- A report of a sequence number not ahead of the entry's last is a duplicate or old (R121). -/
theorem ReeferEntry.accepts_eq_false {e : ReeferEntry} {l seq : Nat} (hlast : e.lastSequence = some l)
    (h : seqDiff seq l = 0 ∨ 32768 ≤ seqDiff seq l) : e.accepts seq = false := by
  simp only [ReeferEntry.accepts, hlast, Bool.and_eq_false_iff, decide_eq_false_iff_not]
  omega

theorem ReeferEntry.accepts_eq_true {e : ReeferEntry} {seq : Nat}
    (h : ∀ l, e.lastSequence = some l → 1 ≤ seqDiff seq l ∧ seqDiff seq l ≤ 32767) : e.accepts seq = true := by
  unfold ReeferEntry.accepts
  split
  · rfl
  · next l hl => simp [h l hl]

theorem State.reportFor_duplicate {n : Fin 4096} (h : (s.entry n).accepts r.sequence = false) : s.reportFor n r a =
    (s.setEntry n { s.entry n with duplicates := min ((s.entry n).duplicates + 1) 4294967295 }).writeReeferMirror n := by
  simp [State.reportFor, h, satAdd, counterMax]

theorem State.reportFor_used {n : Fin 4096} (h : (s.entry n).accepts r.sequence = true) : s.reportFor n r a = s.useReport n r a := by
  simp [State.reportFor, h]

/-! ### A dropped report (R118) -/

/-- Less than a minute after the last TABLE_FULL, a dropped report only counts. -/
theorem State.dropReport_limited {tag t : Nat} (h : s.reefer.tableFull = some t) (hlt : s.time.lt < t + 60000000) :
    s.dropReport tag = s.setReefer { s.reefer with dropped := min (s.reefer.dropped + 1) 4294967295 } := by
  have hclosed : limiterOpen s.reefer.tableFull s.time.lt = false := by
    simp only [limiterOpen, h, decide_eq_false_iff_not]
    omega
  simp [State.dropReport, hclosed, satAdd, counterMax]

theorem State.dropReport_open {tag : Nat} (h : ∀ t, s.reefer.tableFull = some t → t + 60000000 ≤ s.time.lt) :
    let r : ReeferTable := { s.reefer with dropped := min (s.reefer.dropped + 1) 4294967295, tableFull := some s.time.lt }
    s.dropReport tag = (s.setReefer r).raise .tableFull 0 (word tag) (word r.dropped) (word (s.reefer.inState .excursion)) := by
  have hopen : limiterOpen s.reefer.tableFull s.time.lt = true := by
    unfold limiterOpen
    split
    · next t ht => simpa [Nat.add_comm] using h t ht
    · rfl
  simp only [State.dropReport, hopen, if_true]
  rfl

end

/-- The end of a handling that has changed the reefer table alone. -/
theorem setReefer_finish_frame {s : State} {q : Intake} {e : QueueEntry} (hs : Free .reeferJob s) (r : ReeferTable) :
    let t := ((s.dequeued .reeferJob q e).setReefer r).finish
    OnlyTouches [.intake, .windows, .reefer] s t ∧ t.reefer = r ∧ t.notice = s.notice := by
  refine ⟨OnlyTouches.finish hs ?_ (.inr (by simp [EventScratch.idle])), by simp, hs.finish_notice (by simp)⟩
  simp [OnlyTouches, State.dequeued]

/-- The end of a dropped report (R118). -/
theorem dropReport_finish {s : State} {q : Intake} {e : QueueEntry} (hs : Free .reeferJob s) (tag : Nat) :
    let t := ((s.dequeued .reeferJob q e).dropReport tag).finish
    OnlyTouches [.intake, .windows, .reefer, .notice, .arb] s t ∧ StatusIfFlagged .reeferJob s t ∧
      (∀ a, s.reefer.tableFull = some a → s.time.lt < a + 60000000 → t.notice = s.notice ∧
        t.reefer = { s.reefer with dropped := min (s.reefer.dropped + 1) 4294967295 }) ∧
      ((∀ a, s.reefer.tableFull = some a → a + 60000000 ≤ s.time.lt) →
        t.reefer = { s.reefer with dropped := min (s.reefer.dropped + 1) 4294967295, tableFull := some s.time.lt } ∧
        t.notice = (s.notice.take (noticeOf .tableFull 0 s.stamp tag t.reefer.dropped (s.reefer.inState .excursion))).followed) := by
  intro t
  have hstatus : ThenStatusIfFlagged .reeferJob s t ((s.dequeued .reeferJob q e).dropReport tag).arb :=
    .of_emits (State.dropReport_emits ..) (by simp [EventScratch.idle]) (by simp) (by simp) (by simp)
  rw [State.dropReport_arb, State.dequeued_arb] at hstatus
  refine ⟨OnlyTouches.finish hs ?_ (.inl (by simp)), hstatus, fun a ha hlt => ?_, fun hopen => ?_⟩
  · simp [OnlyTouches, State.dequeued]
  · obtain ⟨-, hreefer, hnotice⟩ := setReefer_finish_frame (q := q) (e := e) hs
      { s.reefer with dropped := min (s.reefer.dropped + 1) 4294967295 }
    have ht : t = ((s.dequeued .reeferJob q e).setReefer { s.reefer with dropped := min (s.reefer.dropped + 1) 4294967295 }).finish := by
      simp only [t, State.dropReport_limited (s := s.dequeued .reeferJob q e) (by simpa using ha) (by simpa using hlt), State.dequeued_reefer]
    exact ⟨ht ▸ hnotice, ht ▸ hreefer⟩
  · have hdrop := State.dropReport_open (s := s.dequeued .reeferJob q e) (tag := tag) (by simpa using hopen)
    simp only [State.dequeued_reefer, State.dequeued_time] at hdrop
    have hreefer : t.reefer = { s.reefer with dropped := min (s.reefer.dropped + 1) 4294967295, tableFull := some s.time.lt } := by
      simp only [t, hdrop]
      simp
    refine ⟨hreefer, ?_⟩
    have hstamp : ((s.dequeued .reeferJob q e).setReefer
        { s.reefer with dropped := min (s.reefer.dropped + 1) 4294967295, tableFull := some s.time.lt }).stamp = s.stamp :=
      State.stamp_congr (by simp) (by simp) (by simp)
    rw [hreefer]
    simp only [t, State.finish_notice_followed, hdrop, State.raise_notice, hstamp, State.setReefer_notice, State.dequeued_notice]
    rfl

/-- The end of a duplicate or old report at entry n (R121). -/
theorem duplicate_finish {s : State} {q : Intake} {e : QueueEntry} (hs : Free .reeferJob s) (n : Fin 4096) (x : ReeferEntry) :
    let t := (((s.dequeued .reeferJob q e).setEntry n x).writeReeferMirror n).finish
    OnlyTouches [.intake, .windows, .reefer, .arb] s t ∧ t.arb = WithReeferMirror .reeferJob s t n ∧
      t.reefer = { s.reefer with entries := upd s.reefer.entries n x } := by
  intro t
  have hreefer : t.reefer = { s.reefer with entries := upd s.reefer.entries n x } := by simp [t]
  have hentry : t.entry n = x := by rw [State.entry, hreefer, upd_get_self]
  have hnotice : t.notice = s.notice := hs.finish_notice (by simp)
  refine ⟨OnlyTouches.finish hs ?_ (.inl (by simp)), ?_, hreefer⟩
  · simp [OnlyTouches, State.dequeued]
  · rw [State.finish_arb_of_quiet (by simp [EventScratch.idle]), State.writeReeferMirror_arb]
    exact WithReeferMirror.congr (by simp) (s.dequeued_mirrorBase ..) (by simp) (hentry ▸ State.setEntry_entry_self ..)

/-- Settles O45: the four ways in which a report is not used, each with the one count that shows it. -/
theorem unusedReeferReport : Obligations.UnusedReeferReport := by
  intro s e rest hs hq r
  generalize hu : s.dequeued .reeferJob { s.intake with reefer := rest } e = u
  have hholds {n : Fin 4096} (h : Holds s n r.tag) : Holds u n r.tag := by simpa [Holds, ← hu] using h
  have hnext := reeferReportDequeue_next hs hq
  rw [hu] at hnext
  obtain ⟨hintake, hcounts⟩ := State.dequeued_finish (s := s) (k := .reeferJob) (q := { s.intake with reefer := rest }) (e := e)
    (v := u.reeferRecord e.bytes e.arrival) (by simp [hu]) (by simp [hu])
  refine ⟨_, hnext, hintake, hcounts, fun hrejected => ?rejected, fun hkind htag hnone => ?unknown,
    fun n l hkind htag hn hlast hold => ?duplicate⟩
  case rejected =>
    rw [State.reeferRecord_rejected hrejected, ← hu]
    obtain ⟨htouches, hreefer, -⟩ := setReefer_finish_frame (q := { s.intake with reefer := rest }) (e := e) hs _
    exact ⟨htouches, hreefer.trans (by simp)⟩
  case unknown =>
    rw [State.reeferRecord_unknown hkind htag (by simpa [NotHeld, ← hu] using hnone)]
    refine ⟨fun hmode => ?_, fun hmode hfull => ?_⟩
    · rw [State.unknownTag_manual (by simpa [← hu] using hmode), ← hu]
      obtain ⟨htouches, hreefer, -⟩ := setReefer_finish_frame (q := { s.intake with reefer := rest }) (e := e) hs _
      exact ⟨htouches, hreefer.trans (by simp)⟩
    · rw [State.unknownTag_dropped (by simpa [← hu] using hmode) (by simpa [← hu] using hfull), ← hu]
      exact dropReport_finish hs _
  case duplicate =>
    rw [State.reeferRecord_held hkind htag (hholds hn), State.reportFor_duplicate
      (ReeferEntry.accepts_eq_false (by simpa [← hu] using hlast) hold), ← hu, State.dequeued_entry]
    exact duplicate_finish hs n _

end Sys2Proof.Machine
end

section
/-! SUPPORT. The silence sweep (R126, R127). -/

namespace Sys2Proof.Machine

/-- A pass over n places after a visit, by either description (R101, R126). -/
theorem Pass.visited_eq {p : Pass} {n : Nat} (hrun : p.inProgress = true) : p.visited n = p.afterVisit (n + 1) := by
  unfold Pass.visited Pass.afterVisit
  by_cases h : p.position < n
  · simp [h]
  · cases hheld : p.startHeld <;> simp [h, hrun]

theorem ReeferState.watched_iff (x : ReeferState) : x.watched = true ↔ x = .enrolled ∨ x = .active ∨ x = .excursion := by
  cases x <;> simp [ReeferState.watched]

theorem sweepVisit_next {s : State} {n : Fin 4096} (hs : Free .silenceSweep s) (hrun : s.reefer.sweep.inProgress = true)
    (hpos : s.reefer.sweep.position = n.val) : exec .sweepVisit s = .next ((s.beginEvent .silenceSweep).sweepEntry n).finish := by
  obtain ⟨hreset, -, hheld⟩ := hs
  simp only [exec, execSweepVisit]
  rw [event_next hreset (by simp [hrun, hpos]) hheld]
  simp [hpos]

/-- Settles O47: the entry at the position is silenced when it is watched and its age exceeds its limit. -/
theorem sweepVisitSilences : Obligations.SweepVisitSilences := by
  intro s n hs hrun hpos e age due
  have hsweep : s.reefer.sweep.visited 4095 = s.reefer.sweep.afterVisit 4096 := Pass.visited_eq hrun
  have hdue : due ↔ (e.state.watched && decide (1000000 * (s.criteria e.criteria).silentLimit < age)) = true := by
    rw [Bool.and_eq_true, ReeferState.watched_iff, decide_eq_true_eq]
  refine ⟨_, sweepVisit_next hs hrun hpos, OnlyTouches.finish hs ?_ (.inl (by simp)), fun hnot => ?kept, fun hyes => ?silenced⟩
  · simp [OnlyTouches]
  case kept =>
    have heq : (s.beginEvent .silenceSweep).sweepEntry n = (s.beginEvent .silenceSweep).setReefer
        { s.reefer with sweep := s.reefer.sweep.afterVisit 4096 } := by
      rw [← hsweep]
      exact if_neg (mt hdue.2 hnot)
    rw [heq]
    refine ⟨OnlyTouches.finish hs ?_ (.inr (by simp [EventScratch.idle])), by simp⟩
    simp [OnlyTouches]
  case silenced =>
    generalize hx : ({ e with state := .silent, wasInExcursion := e.state == .excursion } : ReeferEntry) = x
    generalize hu : ((s.beginEvent .silenceSweep).setReefer { s.reefer with sweep := s.reefer.sweep.afterVisit 4096 }).setEntry n x = u
    have heq : (s.beginEvent .silenceSweep).sweepEntry n =
        (u.raise .silent n.val (word e.tag) (word (age / 1000000)) (word e.state.code)).writeReeferMirror n := by
      rw [← hu, ← hx, ← hsweep]
      exact if_pos (hdue.1 hyes)
    have hcode : word e.state.code = word (match e.state with | .enrolled => 1 | .active => 2 | _ => 3) := by
      obtain ⟨h | h | h, -⟩ := hyes <;> rw [h] <;> rfl
    have hflag : decide (e.state = .excursion) = (e.state == .excursion) := (beq_eq_decide ..).symm
    have hstamp : u.stamp = s.stamp := State.stamp_congr (by simp [← hu]) (by simp [← hu]) (by simp [← hu])
    have hreefer : u.reefer = { s.reefer with sweep := s.reefer.sweep.afterVisit 4096, entries := upd s.reefer.entries n x } := by
      simp [← hu]
    rw [heq]
    refine ⟨?_, ?_, ?_⟩
    · rw [State.finish_reefer, State.writeReeferMirror_reefer, State.raise_reefer, hreefer, ← hx, ← hflag]
    · rw [State.finish_notice_followed, State.writeReeferMirror_notice, State.raise_notice, hstamp, hcode]
      simp only [← hu, State.setEntry_notice, State.setReefer_notice, State.beginEvent_notice]
      rfl
    · have hstatus := ThenStatusIfFlagged.of_emits (k := .silenceSweep) (s := s)
        ((u.raise_emits .silent n.val (word e.tag) (word (age / 1000000)) (word e.state.code)).trans (State.writeReeferMirror_emits _ n))
        (by simp [← hu, EventScratch.idle]) (by simp [← hu]) (by simp [← hu]) (by simp [← hu])
      rw [State.writeReeferMirror_arb] at hstatus
      refine (congrArg (ThenStatusIfFlagged .silenceSweep s _) ?_).mp hstatus
      exact WithReeferMirror.congr (by rw [(State.raise_emits ..).work, ← hu]; simp) (State.mirrorBase_congr (by simp [← hu]) _) (by simp [← hu]) (by simp [State.entry])

end Sys2Proof.Machine
end

section
/-! SUPPORT. Used reefer reports (R118, R120 to R143). -/

namespace Sys2Proof.Machine

/-! ## Entries of a table taken again -/

/-- A table is the values of its entries. -/
theorem vector_ext_get {α : Type} {n : Nat} {v w : Vector α n} (h : ∀ j, v.get j = w.get j) : v = w :=
  Vector.ext fun j hj => h ⟨j, hj⟩

/-- Taking one entry twice leaves the later value. -/
theorem upd_upd {α : Type} {n : Nat} (v : Vector α n) (i : Fin n) (x y : α) : upd (upd v i x) i y = upd v i y := by
  refine vector_ext_get fun j => ?_
  rw [upd_get, upd_get, upd_get]
  split <;> rfl

/-- An entry that takes the value it has changes nothing. -/
theorem upd_get_eq {α : Type} {n : Nat} (v : Vector α n) (i : Fin n) : upd v i (v.get i) = v := by
  refine vector_ext_get fun j => ?_
  rw [upd_get]
  split
  · next h => rw [h]
  · rfl

theorem State.setEntry_entry_eq (s : State) (n : Fin 4096) : s.setEntry n (s.entry n) = s := by
  have hupd : upd s.reefer.entries n (s.entry n) = s.reefer.entries := upd_get_eq ..
  unfold State.setEntry
  rw [hupd]
  rfl

/-! ## The entry that a report finds (R114, R118) -/

section
variable {s : State} {r : ReeferReport} {a : Nat} {n : Fin 4096}

/-- The notices of automatic enrolment of a tag that takes its place (R118). -/
theorem enrolmentNotices_eq {evicted : Bool} (h : NotHeld s r.tag) (hp : PlaceForNewTag s n evicted) :
    EnrolmentNotices s r n = (if evicted = true then [EvictionNotice s n r.tag] else []) ++
      [noticeOf .enrolled n.val s.stamp r.tag 0 (boolNat evicted)] := by
  have hnot : ¬((s.entry n).state ≠ .vacant ∧ (s.entry n).tag = r.tag) := fun ⟨hv, ht⟩ => (h n).elim hv (· ht)
  rw [EnrolmentNotices, if_neg hnot]
  cases evicted with
  | false => simp [(hp : _ ∧ _).1, boolNat]
  | true => simp [(hp : _ ∧ _ ∧ _).1 n, boolNat]

theorem enrolmentNotices_held (h : Holds s n r.tag) : EnrolmentNotices s r n = [] := if_pos ⟨h.1, h.2.1⟩

theorem enrolmentNotices_stamp : ∀ x ∈ EnrolmentNotices s r n, x.stamp = s.stamp := by
  unfold EnrolmentNotices EvictionNotice noticeOf
  split_ifs <;> simp

/-- A tag that takes its place: the notices of the enrolment, and the entry. -/
theorem State.enrolment_eq {evicted : Bool} (h : NotHeld s r.tag) (hp : PlaceForNewTag s n evicted) :
    (s.enrolAt n evicted r.tag 0 none a).noticeEnrolment n r.tag evicted =
      (s.raiseNotices (EnrolmentNotices s r n)).setEntry n (EnrolledAs r.tag 0 none a) := by
  rw [enrolmentNotices_eq h hp]
  cases evicted <;> rfl

/-- A report that finds its entry e at n is handled as a report for it, after the notices of an enrolment. -/
theorem State.reeferRecord_found {bytes : List Byte} {e : ReeferEntry} (h : ReportEntry s (ReeferReport.read bytes) a n e) :
    s.reeferRecord bytes a = ((s.raiseNotices (EnrolmentNotices s (ReeferReport.read bytes) n)).setEntry n e).reportFor n
      (ReeferReport.read bytes) a := by
  obtain ⟨hkind, htag, ⟨hheld, rfl⟩ | ⟨hnone, hmode, ⟨evicted, hp⟩, rfl⟩⟩ := h
  · rw [State.reeferRecord_held hkind htag hheld, enrolmentNotices_held hheld, State.raiseNotices_nil, State.setEntry_entry_eq]
  · rw [State.reeferRecord_unknown hkind htag hnone, State.unknownTag_enrols hmode hp, State.enrolment_eq hnone hp]

end

/-! ## The report at its entry -/

section
variable (e : ReeferEntry) (c : Criteria) (r : ReeferReport) (a n : Nat) (now : Stamp)

theorem bookkeepingNotices_stamp : ∀ x ∈ BookkeepingNotices n e r a now, x.stamp = now := by
  unfold BookkeepingNotices noticeOf
  simp only [List.mem_append]
  rintro x ((hx | hx) | hx)
  · split at hx <;> simp_all
  · split at hx <;> simp_all
  · split at hx
    · split at hx <;> simp_all
    · simp at hx

theorem excursionNotices_stamp : ∀ x ∈ ExcursionNotices n e c r a now, x.stamp = now := by
  unfold ExcursionNotices
  simp only
  split
  · simp
  · simp only [List.mem_append]
    rintro x (hx | hx) <;> (split at hx <;> simp_all)

end

section
variable {s : State} {bytes : List Byte} {a : Nat} {n : Fin 4096} {e : ReeferEntry}

/-- The state before the coverage sample of a report: the notices so far, and the entry as the report finds it. -/
def State.bookkept (s : State) (r : ReeferReport) (a : Nat) (n : Fin 4096) (e : ReeferEntry) : State :=
  ((s.raiseNotices (EnrolmentNotices s r n)).setEntry n e).raiseNotices (BookkeepingNotices n.val e r a s.stamp)

/-- A used report in its steps (R120). -/
theorem State.reeferRecord_used {r : ReeferReport} (hr : r = ReeferReport.read bytes) (h : ReportEntry s r a n e)
    (hseq : ∀ l, e.lastSequence = some l → 1 ≤ seqDiff r.sequence l ∧ seqDiff r.sequence l ≤ 32767) :
    s.reeferRecord bytes a = ((((s.bookkept r a n e).reeferSample n e r a).setEntry n
      (AfterReport e (s.criteria e.criteria) r a s.stamp)).raiseNotices
        (ExcursionNotices n.val e (s.criteria e.criteria) r a s.stamp)).writeReeferMirror n := by
  generalize hv : (s.raiseNotices (EnrolmentNotices s r n)).setEntry n e = v
  have hentry : v.entry n = e := by rw [← hv, State.setEntry_entry_self]
  have hstamp : v.stamp = s.stamp := by rw [← hv]; exact State.raiseNotices_stamp ..
  have hcriteria (c : Fin 16) : v.criteria c = s.criteria c := by rw [← hv]; simp [State.criteria]
  rw [State.reeferRecord_found (hr ▸ h), ← hr]
  rw [hv, State.reportFor_used (by rw [hentry]; exact ReeferEntry.accepts_eq_true hseq), State.useReport_eq]
  simp only [hentry, hstamp, hcriteria, State.bookkept, hv]

section
variable (s : State) (r : ReeferReport) (a : Nat) (n : Fin 4096) (e : ReeferEntry)

@[simp] theorem State.bookkept_time : (s.bookkept r a n e).time = s.time := by simp [State.bookkept]
@[simp] theorem State.bookkept_arb : (s.bookkept r a n e).arb = s.arb := by simp [State.bookkept]
@[simp] theorem State.bookkept_windows : (s.bookkept r a n e).windows = s.windows := by simp [State.bookkept]
@[simp] theorem State.bookkept_cranes : (s.bookkept r a n e).cranes = s.cranes := by simp [State.bookkept]
@[simp] theorem State.bookkept_grid : (s.bookkept r a n e).grid = s.grid := by simp [State.bookkept]
@[simp] theorem State.bookkept_reefer : (s.bookkept r a n e).reefer = { s.reefer with entries := upd s.reefer.entries n e } := by
  simp [State.bookkept]

theorem State.bookkept_emits : Emits s (s.bookkept r a n e) :=
  ((s.raiseNotices_emits _).trans (State.setEntry_emits _ n e)).trans (State.raiseNotices_emits ..)

theorem State.bookkept_notice : (s.bookkept r a n e).notice =
    (EnrolmentNotices s r n ++ BookkeepingNotices n.val e r a s.stamp).foldl NoticeUnit.take s.notice := by
  have hstamp : ((s.raiseNotices (EnrolmentNotices s r n)).setEntry n e).stamp = s.stamp := State.raiseNotices_stamp ..
  rw [State.bookkept, State.raiseNotices_notice _ _ (by rw [hstamp]; exact bookkeepingNotices_stamp _ _ _ _ _), State.setEntry_notice,
    State.raiseNotices_notice _ _ enrolmentNotices_stamp, List.foldl_append]

theorem State.bookkept_deferred : (s.bookkept r a n e).scratch.deferred = s.scratch.deferred := by
  obtain ⟨u, x, h, hx, -⟩ := s.raiseNotices_eq (EnrolmentNotices s r n)
  obtain ⟨u', x', h', hx', -⟩ := ((s.raiseNotices (EnrolmentNotices s r n)).setEntry n e).raiseNotices_eq
    (BookkeepingNotices n.val e r a s.stamp)
  rw [State.bookkept, h', State.setScratch_scratch, hx', State.setEntry_scratch, h, State.setScratch_scratch, hx]

end

end

/-! ## The end of the report -/

section
variable {s w : State} {a : Nat} {n : Fin 4096} {x : ReeferEntry} {l : List Notice}

/-- A report's end: from the state w after its sample, the entry, the last notices and the mirror record. -/
theorem reportEnd_notice (hstamp : ∀ y ∈ l, y.stamp = w.stamp) :
    (((w.setEntry n x).raiseNotices l).writeReeferMirror n).finish.notice = (l.foldl NoticeUnit.take w.notice).followed := by
  have hset : (w.setEntry n x).stamp = w.stamp := rfl
  rw [State.finish_notice_followed, State.writeReeferMirror_notice, State.raiseNotices_notice _ _ (by rw [hset]; exact hstamp),
    State.setEntry_notice]

theorem reportEnd_status {u : State} (he : Emits u w) (hdue : u.scratch.statusDue = false) (hwork : u.scratch.work = .reeferJob)
    (hnotice : u.notice = s.notice) (hcpb : w.cpb = s.cpb) :
    let t := (((w.setEntry n x).raiseNotices l).writeReeferMirror n).finish
    ThenStatusIfFlagged .reeferJob s t (WithReeferMirror .reeferJob w t n) := by
  intro t
  have hend : Emits u (((w.setEntry n x).raiseNotices l).writeReeferMirror n) :=
    ((he.trans (State.setEntry_emits w n x)).trans (State.raiseNotices_emits ..)).trans (State.writeReeferMirror_emits ..)
  have hcpb' : (((w.setEntry n x).raiseNotices l).writeReeferMirror n).cpb = s.cpb := by simpa using hcpb
  have hstatus := ThenStatusIfFlagged.of_emits hend hdue hwork hnotice hcpb'
  rw [State.writeReeferMirror_arb] at hstatus
  refine (congrArg (ThenStatusIfFlagged .reeferJob s t) ?_).mp hstatus
  have hw : ((w.setEntry n x).raiseNotices l).scratch.work = .reeferJob := by
    rw [(State.raiseNotices_emits ..).work, State.setEntry_scratch, he.work, hwork]
  exact WithReeferMirror.congr hw (State.mirrorBase_congr (by simp) _) (by simp) (by simp [State.entry, t])

end

/-- Settles O46: the report in its steps, from which the entry, the notices in their order and the mirror record are read off, with and
without a coverage sample. -/
theorem usedReeferReport : Obligations.UsedReeferReport := by
  intro s q rest n e hs hq hfound r hseq before after
  generalize hu : s.dequeued .reeferJob { s.intake with reefer := rest } q = u
  have hnext := reeferReportDequeue_next hs hq
  rw [hu] at hnext
  have hfoundu : ReportEntry u r q.arrival n e := by simpa [ReportEntry, Holds, NotHeld, PlaceForNewTag, ← hu] using hfound
  have hstamp : u.stamp = s.stamp := by rw [← hu, State.dequeued_stamp]
  have hbefore : before.foldl NoticeUnit.take s.notice = (u.bookkept r q.arrival n e).notice := by
    rw [State.bookkept_notice, hstamp]
    simp [before, EnrolmentNotices, EvictionNotice, ← hu]
  generalize hw : (u.bookkept r q.arrival n e).reeferSample n e r q.arrival = w
  have hcriteria : u.criteria e.criteria = s.criteria e.criteria := by rw [← hu, State.dequeued_criteria]
  have hsteps := State.reeferRecord_used (s := u) (r := r) rfl hfoundu hseq
  rw [hstamp, hcriteria, hw] at hsteps
  have htime : w.time = s.time := by rw [← hw, State.reeferSample_time, State.bookkept_time, ← hu, State.dequeued_time]
  have hafter : ∀ y ∈ after, y.stamp = w.stamp := by
    rw [State.stamp_congr (s := w) (t := s) (by rw [htime]) (by rw [htime]) (by rw [htime])]
    exact excursionNotices_stamp _ _ _ _ _ _
  have hemits : Emits u w := hw ▸ (u.bookkept_emits ..).trans (State.reeferSample_emits ..)
  have hstatus := reportEnd_status (s := s) (n := n) (x := AfterReport e (s.criteria e.criteria) r q.arrival s.stamp) (l := after) hemits
    (by simp [← hu, EventScratch.idle]) (by simp [← hu]) (by simp [← hu]) (by rw [← hw]; simp [State.bookkept, ← hu])
  obtain ⟨hintake, hcounts⟩ := State.dequeued_finish (s := s) (k := .reeferJob) (q := { s.intake with reefer := rest }) (e := q)
    (v := u.reeferRecord q.bytes q.arrival) (by simp [hu]) (by simp [hu])
  refine ⟨_, hnext, OnlyTouches.finish hs (by simp [OnlyTouches, ← hu, State.dequeued]) (.inl (by simp)), hintake, hcounts, ?reefer,
    fun hnone => ?unsampled, fun p hp hserving => ?sampled⟩
  case reefer =>
    rw [hsteps]
    simp [← hw, ← hu, upd_upd]
  case unsampled =>
    have hkept : w = u.bookkept r q.arrival n e := by
      rw [← hw]
      unfold State.reeferSample
      obtain h | h := hnone
      · rw [h]
      · split <;> simp [h]
    rw [hsteps]
    refine ⟨by simp [hkept, ← hu], by simp [hkept, ← hu], ?_, ?_⟩
    · rw [reportEnd_notice hafter, List.foldl_append, hbefore, hkept]
    · refine (congrArg (ThenStatusIfFlagged .reeferJob s _) ?_).mp hstatus
      exact WithReeferMirror.congr rfl (by rw [State.mirrorBase_congr (s := u) (by simp [hkept]), ← hu, State.dequeued_mirrorBase])
        (by simp [hkept, ← hu]) rfl
  case sampled =>
    intro b v
    have hsample : w = (u.bookkept r q.arrival n e).sample (p.val / 4) (p.val % 4) r.serving r.level q.arrival (.reefer n.val) := by
      rw [← hw]
      simp only [State.reeferSample, hp, if_neg hserving]
    have hbegun : Alike s.grid b (u.bookkept r q.arrival n e) := by
      refine ⟨by simp [b, ← hu], by simp [b, ← hu], hbefore.symm, by simp [b, ← hu], ?_, ?_, by simp [b, ← hu, Grid.reads], fun k => ?_⟩
      · rw [(u.bookkept_emits ..).work, ← hu, State.dequeued_scratch]
      · rw [State.bookkept_deferred, ← hu, State.dequeued_scratch]
      · rw [State.mirrorBase_congr (s := u) (by simp), ← hu, State.dequeued_mirrorBase]
        rfl
    have halike := hbegun.sample (p.val / 4) (p.val % 4) r.serving r.level q.arrival (.reefer n.val)
    rw [← hsample] at halike
    have hgrid : w.grid = v.grid := halike.grid_eq ((Alike.refl b).sample ..)
    rw [hsteps]
    refine ⟨by simpa using hgrid, by simpa using halike.cranes, ?_, ?_⟩
    · rw [reportEnd_notice hafter, halike.notice]
    · refine (congrArg (ThenStatusIfFlagged .reeferJob s _) ?_).mp hstatus
      unfold WithReeferMirror
      have hbase : v.mirrorBase .reeferMirror = s.mirrorBase .reeferMirror := State.mirrorBase_congr (by simp [v, b]) _
      rw [halike.mirrors, halike.arb]
      exact hbase ▸ rfl

end Sys2Proof.Machine
end

section
/-! SUPPORT. SET_COVERAGE_PARAMETERS, SET_CRITERIA and SET_ENROLMENT_MODE (R106, R116, R118). -/

namespace Sys2Proof.Machine

/-! ## A command whose effect is one table's new value -/

section
variable {k : Command} {s : State}

theorem setGrid_complete_done (ho : Offered k s) (g : Grid) :
    let t := ((s.taking.setGrid g).complete .done).finish
    OnlyTouches [.grid, .cmd, .arb] s t ∧ Reports s t .done ∧ t.grid = g := by
  obtain ⟨hfree, -⟩ := ho
  refine ⟨OnlyTouches.complete .done hfree ?_ (by simp) (by simp), Reports.of_complete (by decide) rfl rfl rfl rfl, by simp⟩
  simp [OnlyTouches, State.taking]

theorem setReefer_complete_done (ho : Offered k s) (r : ReeferTable) :
    let t := ((s.taking.setReefer r).complete .done).finish
    OnlyTouches [.reefer, .cmd, .arb] s t ∧ Reports s t .done ∧ t.reefer = r := by
  obtain ⟨hfree, -⟩ := ho
  refine ⟨OnlyTouches.complete .done hfree ?_ (by simp) (by simp), Reports.of_complete (by decide) rfl rfl rfl rfl, by simp⟩
  simp [OnlyTouches, State.taking]

end

/-! ## The ranges of the arguments -/

section
variable (s : State)

theorem State.coverageArgs_inRange_iff : s.coverageArgs.inRange = true ↔ CoverageArgsGood s := by
  simp only [CoverageParams.inRange, thresholdInRange, Bool.and_eq_true, decide_eq_true_eq]
  simp [State.coverageArgs, CoverageArgsGood, and_assoc]

theorem State.criteriaArgs_inRange_iff : s.criteriaArgs.inRange = true ↔ CriteriaArgsGood s := criteria_inRange_iff s.criteriaArgs

end

theorem asIndex_eq_some {n v : Nat} {i : Fin n} (h : asIndex n v = some i) : v = i.val := by
  unfold asIndex at h
  split at h
  · rw [← Option.some.inj h]
  · cases h

/-- Settles O37, command by command: arguments in range replace the parameters, and others are refused. -/
theorem setTableParameters : Obligations.SetTableParameters := by
  refine ⟨fun s ho => ⟨_, command_next ho State.doSetCoverageParameters, fun hbad => ?coverageBad, fun hgood => ?coverage⟩,
    fun s ho => ⟨_, command_next ho State.doSetCriteria, fun hbad => ?criteriaBad, fun i hi hgood => ?criteria⟩,
    fun s ho => ⟨_, command_next ho State.doSetEnrolmentMode, fun hbad => ?modeBad, fun hgood => ?mode⟩⟩
  case coverageBad =>
    exact Refuses.of_effect ho (by decide) (if_neg (mt (s.taking.coverageArgs_inRange_iff).1 hbad))
  case coverage =>
    have heffect : s.taking.doSetCoverageParameters = (s.taking.setGrid { s.grid with params := s.coverageArgs }, .done) :=
      if_pos ((s.taking.coverageArgs_inRange_iff).2 hgood)
    rw [heffect]
    exact setGrid_complete_done ho _
  case criteriaBad =>
    refine Refuses.of_effect ho (by decide) ?_
    unfold State.doSetCriteria
    split
    · next i hi =>
      have hle := i.isLt
      have harg := asIndex_eq_some hi
      rw [State.taking_arg] at harg
      exact if_neg fun h => hbad.elim (by omega) (fun hbad => hbad ((s.taking.criteriaArgs_inRange_iff).1 h))
    · rfl
  case criteria =>
    have heffect : s.taking.doSetCriteria =
        (s.taking.setReefer { s.reefer with criteria := upd s.reefer.criteria i s.criteriaArgs }, .done) := by
      simp only [State.doSetCriteria, State.taking_arg, ← hi, asIndex_val]
      exact if_pos ((s.taking.criteriaArgs_inRange_iff).2 hgood)
    rw [heffect]
    exact setReefer_complete_done ho _
  case modeBad =>
    refine Refuses.of_effect ho (by decide) ?_
    rw [State.doSetEnrolmentMode, State.taking_arg, if_neg (by omega), if_neg (by omega)]
  case mode =>
    have heffect : s.taking.doSetEnrolmentMode =
        (s.taking.setReefer { s.reefer with mode := if s.arg 1 = 1 then .auto else .manual }, .done) := by
      obtain h | h : s.arg 1 = 0 ∨ s.arg 1 = 1 := by omega
      · simp [State.doSetEnrolmentMode, h]
        rfl
      · simp [State.doSetEnrolmentMode, h]
        rfl
    rw [heffect]
    exact setReefer_complete_done ho _

end Sys2Proof.Machine
end

section
/-! SUPPORT. Squares that take new entries (R99, R100), one after another. -/

namespace Sys2Proof.Machine

section
variable (s : State) (q : Fin 512) (entries : Vector CellEntry 24)

theorem State.changeSquare_square_self : (s.changeSquare q entries).square q =
    ({ s.square q with entries := entries } : Square).summarised s.grid.params s.stamp := by
  rw [State.changeSquare_square, if_pos rfl]

theorem State.changeSquare_square_other {p : Fin 512} (h : p ≠ q) : (s.changeSquare q entries).square p = s.square p := by
  rw [State.changeSquare_square, if_neg h]

theorem State.changeSquare_stamp : (s.changeSquare q entries).stamp = s.stamp := State.stamp_congr (by simp) (by simp) (by simp)

end

theorem Square.summarised_entries (x : Square) (p : CoverageParams) (now : Stamp) : (x.summarised p now).entries = x.entries := rfl

/-- Place c is cleared in the squares of a list, one after another (R94): each takes the new entries with its summary, and nothing else of
the grid changes. -/
theorem dropEntry_fold (c : Fin 24) (l : List (Fin 512)) (hl : l.Nodup) (s : State) :
    let t := l.foldl (fun u q => u.dropEntry c q) s
    t.grid = { s.grid with squares := t.grid.squares } ∧ ∀ q, t.square q = if q ∈ l then
      ({ s.square q with entries := upd (s.square q).entries c .absent } : Square).summarised s.grid.params s.stamp else s.square q := by
  induction l generalizing s with
  | nil => exact ⟨rfl, fun q => by simp⟩
  | cons p l ih =>
    obtain ⟨hp, hl⟩ := List.nodup_cons.1 hl
    have hgrid := s.changeSquare_grid p (upd (s.square p).entries c .absent)
    obtain ⟨hrest, hsquares⟩ := ih hl (s.dropEntry c p)
    refine ⟨?_, fun q => ?_⟩
    · rw [List.foldl_cons, hrest, State.dropEntry, hgrid]
    · rw [List.foldl_cons, hsquares, State.dropEntry, State.changeSquare_stamp, hgrid]
      by_cases hq : q = p
      · subst hq
        simp [hp, State.changeSquare_square_self]
      · simp [hq, State.changeSquare_square_other]

/-- Alike states stay so through a list of operations that keep them so. -/
theorem Alike.foldl {α : Type} {g0 : Grid} {f : State → α → State} (hf : ∀ u v x, Alike g0 u v → Alike g0 (f u x) (f v x)) (l : List α)
    {s t : State} (h : Alike g0 s t) : Alike g0 (l.foldl f s) (l.foldl f t) := by
  induction l generalizing s t with
  | nil => exact h
  | cons x l ih => exact ih (hf s t x h)

end Sys2Proof.Machine
end

section
/-! SUPPORT. SET_CELL and CLEAR_CELL (R93, R94). -/

namespace Sys2Proof.Machine

section
variable {s : State} {c : Fin 24}

/-- The clearing of place c, square by square. -/
theorem State.clearPlace_spec (s : State) (c : Fin 24) :
    (s.clearPlace c).grid = { s.grid with cells := upd s.grid.cells c none, squares := (s.clearPlace c).grid.squares } ∧
      ∀ q, (s.clearPlace c).square q =
        ({ s.square q with entries := upd (s.square q).entries c .absent } : Square).summarised s.grid.params s.stamp := by
  have hmem := List.mem_finRange (n := 512)
  have hnodup := List.nodup_finRange 512
  unfold State.clearPlace
  generalize List.finRange 512 = l at hmem hnodup
  obtain ⟨hgrid, hsquares⟩ := dropEntry_fold c l hnodup (s.setGrid { s.grid with cells := upd s.grid.cells c none })
  refine ⟨hgrid, fun q => ?_⟩
  rw [hsquares q, if_pos (hmem q)]
  rfl

theorem State.clearPlace_onlyTouches (s : State) (c : Fin 24) :
    OnlyTouches [.grid, .cranes, .notice, .arb] s ((s.clearPlace c).setScratch s.scratch) := by
  simp [OnlyTouches]

/-- The squares of an event of the Command Unit in which place c is empty, cleared in index order (R94). -/
def State.clearedInOrder (s : State) (c : Fin 24) : State :=
  (List.finRange 512).foldl (fun x q => x.changeSquare q (upd (x.square q).entries c .absent))
    { s.beginEvent .command with grid := { s.grid with cells := upd s.grid.cells c none } }

/-- The effects of the clearing within the command are those of the same clearing within an event of the Command Unit. -/
theorem State.clearPlace_alike (s : State) (c : Fin 24) : Alike { s.grid with cells := upd s.grid.cells c none }
    (s.clearedInOrder c) (s.taking.clearPlace c) := by
  unfold State.clearPlace State.clearedInOrder
  generalize List.finRange 512 = l
  refine Alike.foldl (f := fun x q => x.changeSquare q (upd (x.square q).entries c .absent)) (fun u v q h => ?_) l
    ⟨rfl, rfl, rfl, rfl, rfl, rfl, rfl, fun _ => rfl⟩
  simp only [h.square]
  exact h.changeSquare ..

theorem clearsInOrder_iff (s t : State) (c : Fin 24) : ClearsInOrder s t c ↔ t.cranes = (s.clearedInOrder c).cranes ∧
    t.notice = (s.clearedInOrder c).notice.followed ∧ t.arb =
      (if t.notice.flags = s.notice.flags ∧ t.notice.overflow = s.notice.overflow then (s.clearedInOrder c).arb
        else (s.clearedInOrder c).arb.hand .command ⟨s.pageAddr 0x200, t.statusBlock⟩).hand .command
          ⟨s.pageAddr 0x80, t.cmd.resultRecord⟩ := by
  unfold ClearsInOrder State.clearedInOrder
  exact Iff.rfl

/-- The end of a command whose effect has made the state w, alike to u, and given it the grid g. -/
theorem alike_complete_done {k : Command} (ho : Offered k s) {w u : State} {g0 g : Grid} (halike : Alike g0 u w) (hemits : Emits s.taking w)
    (hblocks : OnlyTouches [.grid, .cranes, .notice, .arb] s.taking (w.setScratch s.taking.scratch)) :
    let t := ((w.setGrid g).complete .done).finish
    t.cmd = s.cmd.reported .done ∧ OnlyTouches [.grid, .cranes, .notice, .cmd, .arb] s t ∧ t.grid = g ∧ t.cranes = u.cranes ∧ t.notice = u.notice.followed ∧ t.arb =
      (if t.notice.flags = s.notice.flags ∧ t.notice.overflow = s.notice.overflow then u.arb
        else u.arb.hand .command ⟨s.pageAddr 0x200, t.statusBlock⟩).hand .command ⟨s.pageAddr 0x80, t.cmd.resultRecord⟩ := by
  obtain ⟨hfree, -⟩ := ho
  have hcpb : (w.setGrid g).cpb = s.cpb := by
    obtain ⟨-, hcpb, -⟩ := hblocks
    exact hcpb
  have hcmd : (w.setGrid g).cmd = s.taking.cmd := by
    simp only [OnlyTouches] at hblocks
    simp_all
  refine ⟨State.complete_cmd_reported (by decide) hcmd, OnlyTouches.complete .done hfree ?_ (by simp) (by simp), by simp,
    by simpa using halike.cranes, ?_, ?_⟩
  · simp only [OnlyTouches, State.taking] at hblocks
    simp_all [OnlyTouches]
  · rw [State.finish_notice_followed, State.complete_notice, State.setGrid_notice, halike.notice]
  · have harb := State.complete_arb_of_emits (r := .done) (by decide) (hemits.trans (w.setGrid_emits g)) hcpb
    rw [State.setGrid_arb, halike.arb] at harb
    exact harb

/-- What the clearing of place c has made of the state: the place is empty, its entries are absent, and the effects of R100 are those of
the state u. -/
structure Cleared (s w u : State) (c : Fin 24) : Prop where
  alike : Alike { s.grid with cells := upd s.grid.cells c none } u w
  emits : Emits s.taking w
  blocks : OnlyTouches [.grid, .cranes, .notice, .arb] s.taking (w.setScratch s.taking.scratch)
  grid : w.grid = { s.grid with cells := upd s.grid.cells c none, squares := w.grid.squares }
  squares : ∀ q, w.square q =
    ({ s.square q with entries := upd (s.square q).entries c .absent } : Square).summarised s.grid.params s.stamp
  inOrder : ∀ t : State, ClearsInOrder s t c ↔ t.cranes = u.cranes ∧ t.notice = u.notice.followed ∧ t.arb =
    (if t.notice.flags = s.notice.flags ∧ t.notice.overflow = s.notice.overflow then u.arb
      else u.arb.hand .command ⟨s.pageAddr 0x200, t.statusBlock⟩).hand .command ⟨s.pageAddr 0x80, t.cmd.resultRecord⟩

theorem State.clearPlace_cleared (s : State) (c : Fin 24) : ∃ w u, w = s.taking.clearPlace c ∧ Cleared s w u c := by
  obtain ⟨hspec, hsquares⟩ := s.taking.clearPlace_spec c
  exact ⟨_, _, rfl, s.clearPlace_alike c, State.clearPlace_emits .., s.taking.clearPlace_onlyTouches c, hspec, hsquares,
    fun t => clearsInOrder_iff s t c⟩

theorem Cleared.placeCell {w u : State} (h : Cleared s w u c) (identity : Nat) :
    w.placeCell c identity = w.setGrid { w.grid with cells := upd s.grid.cells c (some identity) } := by
  have hcells : w.grid.cells = upd s.grid.cells c none := by rw [h.grid]
  rw [State.placeCell, hcells, upd_upd]

/-- The end of a cell command that has cleared place c and then given it the value `place`, which no square shows. -/
theorem Cleared.complete_done {k : Command} {w u : State} (h : Cleared s w u c) (ho : Offered k s) {place : Option Nat} {g : Grid}
    (hg : g = { w.grid with cells := upd s.grid.cells c place }) :
    let t := ((w.setGrid g).complete .done).finish
    t.cmd = s.cmd.reported .done ∧ OnlyTouches [.grid, .cranes, .notice, .cmd, .arb] s t ∧ ClearsPlace s t c place ∧
      ClearsInOrder s t c := by
  obtain ⟨hcmd, htouches, hgrid, horder⟩ := alike_complete_done (g := g) ho h.alike h.emits h.blocks
  have hsquare (q : Fin 512) : (((w.setGrid g).complete .done).finish).square q = w.square q := by
    rw [State.square, hgrid, hg]
    rfl
  refine ⟨hcmd, htouches, ⟨?_, fun q => ?_⟩, (h.inOrder _).2 horder⟩
  · rw [hgrid, hg, h.grid]
  · rw [hsquare, h.squares]
    exact ⟨rfl, rfl⟩

end

/-! ## The effects of the two commands -/

section
variable {s : State} {c : Fin 24}

theorem State.identityElsewhere_iff {identity : Nat} :
    s.identityElsewhere c identity = true ↔ ∃ d, d ≠ c ∧ s.grid.cells.get d = some identity := by
  simp [State.identityElsewhere]

theorem State.doSetCell_badArgument (h : 23 < s.arg 1 ∨ s.arg 2 = 0) : s.doSetCell = (s, .badArgument) := by
  unfold State.doSetCell
  split
  · rfl
  · next c hc =>
    have hle := c.isLt
    have harg := asIndex_eq_some hc
    exact if_pos (h.resolve_left (by omega))

theorem State.doSetCell_overlap (hc : c.val = s.arg 1) (h2 : s.arg 2 ≠ 0) (h : ∃ d, d ≠ c ∧ s.grid.cells.get d = some (s.arg 2)) :
    s.doSetCell = (s, .overlap) := by
  simp [State.doSetCell, ← hc, h2, State.identityElsewhere_iff.2 h]

section
variable (hc : c.val = s.arg 1) (h2 : s.arg 2 ≠ 0) (h : ∀ d, d ≠ c → s.grid.cells.get d ≠ some (s.arg 2))
include hc h2 h

/-! The effect where no other place holds the identity, by what the place holds (R93). -/

theorem State.doSetCell_empty (hget : s.grid.cells.get c = none) : s.doSetCell = (s.placeCell c (s.arg 2), .done) := by
  have helsewhere : s.identityElsewhere c (s.arg 2) = false := by
    rw [← Bool.not_eq_true, State.identityElsewhere_iff]
    exact fun ⟨d, hd, hd'⟩ => h d hd hd'
  simp [State.doSetCell, ← hc, h2, helsewhere, hget]

theorem State.doSetCell_held {old : Nat} (hget : s.grid.cells.get c = some old) :
    s.doSetCell = if old = s.arg 2 then (s, .done) else ((s.clearPlace c).placeCell c (s.arg 2), .done) := by
  have helsewhere : s.identityElsewhere c (s.arg 2) = false := by
    rw [← Bool.not_eq_true, State.identityElsewhere_iff]
    exact fun ⟨d, hd, hd'⟩ => h d hd hd'
  simp only [State.doSetCell, ← hc, asIndex_val, if_neg h2, helsewhere, Bool.false_eq_true, if_false, hget]

end

theorem State.doClearCell_badArgument (h : 23 < s.arg 1) : s.doClearCell = (s, .badArgument) := by
  simp [State.doClearCell, asIndex_eq_none h]

theorem State.doClearCell_eq (hc : c.val = s.arg 1) :
    s.doClearCell = if s.grid.cells.get c = none then (s, .notFound) else (s.clearPlace c, .done) := by
  simp only [State.doClearCell, ← hc, asIndex_val]

end

@[simp] theorem State.taking_grid (s : State) : s.taking.grid = s.grid := rfl

/-- Settles O36: an argument, an overlap, or what the place holds decides the command; a clearing is `State.clearPlace`. -/
theorem setAndClearCell : Obligations.SetAndClearCell := by
  refine ⟨fun s ho => ⟨fun hbad => ⟨_, command_next ho State.doSetCell, ?setBad⟩,
      fun c hc h2 => ⟨_, command_next ho State.doSetCell, fun hoverlap => ?overlap, fun halone => ?set⟩⟩,
    fun s ho => ⟨fun hbad => ⟨_, command_next ho State.doClearCell, ?clearBad⟩,
      fun c hc => ⟨_, command_next ho State.doClearCell, fun hnone => ?missing, fun hsome => ?clear⟩⟩⟩
  case setBad => exact Refuses.of_effect ho (by decide) (State.doSetCell_badArgument (s := s.taking) hbad)
  case overlap => exact Refuses.of_effect ho (by decide) (State.doSetCell_overlap (s := s.taking) hc h2 hoverlap)
  case set =>
    cases hget : s.grid.cells.get c with
    | none =>
      obtain ⟨htouches, hreports, hgrid⟩ := setGrid_complete_done ho { s.grid with cells := upd s.grid.cells c (some (s.arg 2)) }
      rw [State.doSetCell_empty (s := s.taking) hc h2 halone hget]
      exact ⟨hreports.1, fun _ => ⟨htouches, hreports, hgrid⟩, nofun, nofun⟩
    | some old =>
      have heffect := State.doSetCell_held (s := s.taking) hc h2 halone hget
      by_cases hold : old = s.arg 2
      · have hrefuses := Refuses.of_effect ho (r := .done) (by decide) (heffect.trans (if_pos hold))
        refine ⟨hrefuses.1.1, nofun, fun _ => hrefuses, fun old' ho' hne => ?_⟩
        exact absurd (Option.some.inj ho' ▸ hold) hne
      · obtain ⟨w, u, hw, hcleared⟩ := s.clearPlace_cleared c
        rw [if_neg (c := old = s.taking.arg 2) hold, ← hw, State.taking_arg, hcleared.placeCell] at heffect
        rw [heffect]
        generalize hg : ({ w.grid with cells := upd s.grid.cells c (some (s.arg 2)) } : Grid) = g
        obtain ⟨hcmd, htouches, hclears, horder⟩ := hcleared.complete_done ho hg.symm
        exact ⟨hcmd, nofun, fun hsame => absurd (Option.some.inj hsame) hold, fun _ _ _ => ⟨htouches, hclears, horder⟩⟩
  case clearBad => exact Refuses.of_effect ho (by decide) (State.doClearCell_badArgument (s := s.taking) hbad)
  case missing => exact Refuses.of_effect ho (by decide) ((State.doClearCell_eq (s := s.taking) hc).trans (if_pos hnone))
  case clear =>
    obtain ⟨w, u, hw, hcleared⟩ := s.clearPlace_cleared c
    have heffect := (State.doClearCell_eq (s := s.taking) hc).trans (if_neg hsome)
    rw [← hw] at heffect
    rw [heffect]
    obtain ⟨hcmd, htouches, hclears, horder⟩ := hcleared.complete_done (place := none) (g := w.grid) ho (by rw [hcleared.grid])
    exact ⟨hcmd, htouches, hclears, horder⟩

end Sys2Proof.Machine
end

section
/-! SUPPORT. Measurement records (R103, R104). -/

namespace Sys2Proof.Machine

theorem measurementRecordDequeue_next {s : State} {e : QueueEntry} {rest : List QueueEntry} (hs : Free .measureJob s)
    (hq : s.intake.measure = e :: rest) : exec .measurementRecordDequeue s =
      .next ((s.dequeued .measureJob { s.intake with measure := rest } e).measureRecord e.bytes e.arrival).finish := by
  obtain ⟨hreset, -, hheld⟩ := hs
  simp only [exec, execMeasurementRecordDequeue]
  rw [event_next hreset (by simp [hq]) hheld]
  simp [hq, State.dequeued]

/-- The segment a sample settles on is its own clamping (R97). -/
theorem CoverageParams.clampSegment_idem (p : CoverageParams) (segment : Nat) :
    p.clampSegment (p.clampSegment segment) = p.clampSegment segment := by
  unfold CoverageParams.clampSegment
  split_ifs <;> omega

section
variable {s : State} {segment band : Nat}

/-- A sample changes no square but its own, and no parameter. -/
theorem State.sample_frame (identity : Nat) (level : Int) (arrival : Nat) (src : SampleSource) :
    let t := s.sample segment band identity level arrival src
    t.grid.params = s.grid.params ∧ ∀ p, p ≠ squareIndex (s.grid.params.clampSegment segment) band → t.square p = s.square p := by
  obtain ⟨hknown, hunknown⟩ := sampleApplied s segment band identity arrival level src
  cases h : s.grid.cellIndex identity with
  | none =>
    obtain ⟨-, -, hgrid, -⟩ := hunknown h
    refine ⟨?_, fun p _ => ?_⟩
    · rw [hgrid]
    · rw [State.square, hgrid]
      rfl
  | some c =>
    obtain ⟨hgrid, hothers, -⟩ := hknown c h
    refine ⟨?_, hothers⟩
    rw [hgrid]

/-- The pairs of a used record change no square but the record's. -/
theorem measurePairs_frame (source arrival : Nat) (l : List (Nat × Int)) (s : State)
    (hseg : s.grid.params.clampSegment segment = segment) :
    let t := l.foldl (fun u x => u.measurePair segment band source arrival x) s
    ∀ p, p ≠ squareIndex segment band → t.square p = s.square p := by
  induction l generalizing s with
  | nil => exact fun p _ => rfl
  | cons x l ih =>
    intro t p hp
    have hpair : (s.measurePair segment band source arrival x).grid.params = s.grid.params ∧
        (s.measurePair segment band source arrival x).square p = s.square p := by
      unfold State.measurePair
      split
      · exact ⟨rfl, rfl⟩
      · obtain ⟨hparams, hothers⟩ := s.sample_frame (segment := segment) (band := band) x.1 x.2 arrival (.measurement source)
        exact ⟨hparams, hothers p (by rwa [hseg])⟩
    obtain ⟨hparams, hsquare⟩ := hpair
    exact (ih _ (by rw [hparams, hseg]) p hp).trans hsquare

/-- Pairs without an identity change nothing (R104). -/
theorem measurePairs_skipped (source arrival : Nat) {l : List (Nat × Int)} (h : ∀ x ∈ l, x.1 = 0) :
    l.foldl (fun u x => u.measurePair segment band source arrival x) s = s := by
  induction l with
  | nil => rfl
  | cons x l ih =>
    have hx : s.measurePair segment band source arrival x = s := if_pos (h x (by simp))
    rw [List.foldl_cons, hx]
    exact ih fun y hy => h y (by simp [hy])

end

/-- Settles O40: a rejected record changes one count, and a used one is the fold of its pairs' samples. -/
theorem measurementRecordHandled : Obligations.MeasurementRecordHandled := by
  intro s e rest hs hq r segment sampled
  generalize hu : s.dequeued .measureJob { s.intake with measure := rest } e = u
  have hnext := measurementRecordDequeue_next hs hq
  rw [hu] at hnext
  obtain ⟨hintake, hcounts⟩ := State.dequeued_finish (s := s) (k := .measureJob) (q := { s.intake with measure := rest }) (e := e)
    (v := u.measureRecord e.bytes e.arrival) (by simp [hu]) (by simp [hu])
  have hemits : Emits u (u.measureRecord e.bytes e.arrival) := State.measureRecord_emits ..
  refine ⟨_, hnext, OnlyTouches.finish hs (by simp [OnlyTouches, ← hu, State.dequeued]) (.inl (by simp)), hintake, hcounts,
    fun hbad => ?rejected, fun hkind hband => ?used⟩
  case rejected =>
    have hrecord : u.measureRecord e.bytes e.arrival =
        u.setGrid { s.grid with measureRejected := min (s.grid.measureRejected + 1) 4294967295 } := by
      rw [← s.dequeued_grid .measureJob { s.intake with measure := rest } e, hu]
      exact if_pos hbad
    rw [hrecord]
    refine ⟨OnlyTouches.finish hs ?_ (.inr (by simp [← hu, EventScratch.idle])), by simp⟩
    simp [OnlyTouches, ← hu, State.dequeued]
  case used =>
    generalize hg : ({ s.grid with
      measureClamped := if s.grid.params.segmentCount ≤ r.segment ∨ 8 < r.pairCount then min (s.grid.measureClamped + 1) 4294967295
        else s.grid.measureClamped
      measureUsed := min (s.grid.measureUsed + 1) 4294967295 } : Grid) = g
    have hrecord : u.measureRecord e.bytes e.arrival = (r.pairs.take (min r.pairCount 8)).foldl
        (fun t x => t.measurePair segment r.band r.source e.arrival x) (u.setGrid g) := by
      have hgrid : u.grid = s.grid := by rw [← hu, State.dequeued_grid]
      have hnot : ¬(r.kind ≠ 1 ∨ 3 < r.band) := by omega
      rw [State.measureRecord, ← hg]
      refine (if_neg hnot).trans ?_
      simp only [hgrid, satAdd, ← Bool.decide_or, decide_eq_true_eq]
      rfl
    have hbegun : Alike g (s.beginEvent .measureJob) (u.setGrid g) := by
      refine .of_begun (by simp [← hu]) (by simp [← hu]) (by simp [← hu]) (by simp [← hu]) (by simp [← hg, Grid.reads]) (fun k => ?_)
        (by simp [← hu]) (by simp [← hu, EventScratch.idle])
      rw [State.mirrorBase_congr (s := u) (by simp), ← hu, State.dequeued_mirrorBase]
    have halike : Alike g sampled (u.measureRecord e.bytes e.arrival) := by
      rw [hrecord]
      refine Alike.foldl (fun v w x h => ?_) _ hbegun
      split
      exacts [h, h.sample ..]
    have hself : Alike s.grid sampled sampled := by
      refine Alike.foldl (fun v w x h => ?_) _ (Alike.refl (s.beginEvent .measureJob))
      split
      exacts [h, h.sample ..]
    refine ⟨?_, by simpa using halike.cranes, ?_, ?_, fun p hp => ?_, fun hnone => ?_⟩
    · rw [State.finish_grid, halike.grid, hself.grid, ← hg]
      rfl
    · rw [State.finish_notice_followed, halike.notice]
    · have hstatus := ThenStatusIfFlagged.of_emits (k := .measureJob) (s := s) hemits (by simp [← hu, EventScratch.idle])
        (by simp [← hu]) (by simp [← hu]) (by simp [← hu])
      rwa [halike.arb] at hstatus
    · have hothers := measurePairs_frame (segment := segment) (band := r.band) r.source e.arrival (r.pairs.take (min r.pairCount 8)) (u.setGrid g)
        (by rw [State.setGrid_grid, ← hg]; exact s.grid.params.clampSegment_idem r.segment) p hp
      rw [State.square, State.finish_grid, hrecord]
      refine hothers.trans ?_
      rw [State.square, State.setGrid_grid, ← hg]
      rfl
    · rw [hrecord, measurePairs_skipped _ _ hnone]
      refine OnlyTouches.finish hs ?_ (.inr (by simp [← hu, EventScratch.idle]))
      simp [OnlyTouches, ← hu, State.dequeued]

end Sys2Proof.Machine
end

section
/-! SUPPORT. The aging pass and the clearing of the grid (R100, R102, R107). -/

namespace Sys2Proof.Machine

/-! ## A square that takes new entries within an event that moves a pass or the clearing on -/

/-- No crane stands in the square: a change of its state judges none (R86). -/
theorem State.reportSquare_of_empty {s : State} {q : Fin 512} (h : ∀ i, (s.crane i).square ≠ some q) (before after : SquareState) :
    s.reportSquare q before after = s := by
  unfold State.reportSquare
  induction List.finRange 16 with
  | nil => rfl
  | cons i l ih => rw [List.foldl_cons, if_neg (h i), ih]

/-- What the mirror record of square q adds to the own writes. -/
theorem State.writeGridMirror_eq {s t : State} {q : Fin 512} {k : Work} {u : State} (hk : u.scratch.work = k)
    (hbase : u.mirrorBase .gridMirror = s.mirrorBase .gridMirror) (harb : u.arb = s.arb) (hcells : u.grid.cells = s.grid.cells)
    (hsquare : u.square q = t.square q) : (u.writeGridMirror q).arb = WithGridMirror k s t q := by
  rw [State.writeGridMirror_arb, hk, hbase, harb, hcells, hsquare]
  rfl

section
variable {s : State} {k : Work} {g : Grid} {q : Fin 512} {entries : Vector CellEntry 24}

/-- The state in which a visit of work k changes square q: the event has begun, and its pass or clearing has moved on to the grid g. -/
def State.visiting (s : State) (k : Work) (g : Grid) : State := (s.beginEvent k).setGrid g

theorem State.visiting_alike (hg : g = g.reads s.grid) : Alike g (s.beginEvent k) (s.visiting k g) :=
  .of_begun rfl rfl rfl rfl hg (fun _ => rfl) rfl rfl

theorem State.visiting_square (hg : g = g.reads s.grid) (p : Fin 512) : (s.visiting k g).square p = s.square p :=
  (State.visiting_alike (k := k) hg).square p

/-- Of the grid, square q alone changes besides. -/
theorem State.visiting_grid (hg : g = g.reads s.grid) : ((s.visiting k g).changeSquare q entries).grid = { g with
    squares := upd s.grid.squares q (({ s.square q with entries := entries } : Square).summarised s.grid.params s.stamp) } := by
  have hsquares : g.squares = s.grid.squares := by rw [hg]; rfl
  have hparams : g.params = s.grid.params := by rw [hg]; rfl
  rw [State.changeSquare_grid, State.visiting_square hg, ← hsquares, ← hparams]
  rfl

theorem State.visiting_emits (s : State) (k : Work) (g : Grid) (q : Fin 512) (entries : Vector CellEntry 24) :
    Emits (s.beginEvent k) ((s.visiting k g).changeSquare q entries) :=
  (State.setGrid_emits _ g).trans (State.changeSquare_emits ..)

/-- A change of entries that leaves state and best cell as they were has no effect (R100). -/
theorem State.changeSquare_of_kept (h : ((s.changeSquare q entries).square q).state = (s.square q).state)
    (hbest : ((s.changeSquare q entries).square q).best = (s.square q).best) : s.changeSquare q entries =
      s.setSquare q (({ s.square q with entries := entries } : Square).summarised s.grid.params s.stamp) := by
  rw [State.changeSquare_square_self] at h hbest
  have hsquare := s.setSquare_square_self q (({ s.square q with entries := entries } : Square).summarised s.grid.params s.stamp)
  rw [State.changeSquare, State.afterRecompute_of_kept (by rw [hsquare]; exact h), if_pos (by rw [hsquare]; exact hbest)]

/-- The cranes, notices and own writes of a visit that ends with its change of entries are those of R100. -/
theorem recomputedBy_visit (hg : g = g.reads s.grid) (hentries : ∀ t : State, t = ((s.visiting k g).changeSquare q entries).finish →
    (t.square q).entries = entries) :
    let t := ((s.visiting k g).changeSquare q entries).finish
    RecomputedBy k s t q (t.square q).entries := by
  intro t
  have halike := (State.visiting_alike (k := k) hg).changeSquare q entries
  rw [hentries t rfl]
  refine ⟨by simpa [t] using halike.cranes, ?_, ?_⟩
  · rw [State.finish_notice_followed, halike.notice]
  · have hstatus := ThenStatusIfFlagged.of_emits (k := k) (s := s) (s.visiting_emits k g q entries) rfl rfl rfl
      (by simp [State.visiting])
    rw [halike.arb] at hstatus
    exact hstatus

/-- Where no crane stands in the square, a change of its state or best cell shows in SQUARE_STATE and in the mirror record alone. -/
theorem visit_unoccupied (hg : g = g.reads s.grid) (hempty : ∀ i, (s.crane i).square ≠ some q) {t : State}
    (hsquare : t.square q = ((s.visiting k g).changeSquare q entries).square q)
    (hchanged : ¬((t.square q).state = (s.square q).state ∧ (t.square q).best = (s.square q).best)) :
    let v := (s.visiting k g).changeSquare q entries
    v.cranes = s.cranes ∧ v.notice = (if (t.square q).state = (s.square q).state then s.notice else s.notice.take
      { kind := .squareState, subject := q.val, stamp := s.stamp, value1 := BitVec.ofNat 32 (s.square q).state.code,
        value2 := BitVec.ofNat 32 (t.square q).state.code, value3 := BitVec.ofInt 32 ((t.square q).bestEstimate.getD 0) }) ∧
      v.arb = WithGridMirror k s t q := by
  have hold := State.visiting_square (k := k) hg q
  have hcells : (s.visiting k g).grid.cells = s.grid.cells := (State.visiting_alike (k := k) hg).cells
  generalize hb : s.visiting k g = b at hold hcells hsquare ⊢
  intro v
  have hbcranes : b.cranes = s.cranes := by rw [← hb]; rfl
  have hbnotice : b.notice = s.notice := by rw [← hb]; rfl
  have hbarb : b.arb = s.arb := by rw [← hb]; rfl
  have hbwork : b.scratch.work = k := by rw [← hb]; rfl
  have hbstamp : b.stamp = s.stamp := by rw [← hb]; rfl
  have hbwindows : b.windows = s.windows := by rw [← hb]; rfl
  have hset := b.setSquare_square_self q (t.square q)
  have hv : v = (b.setSquare q (t.square q)).afterRecompute q (s.square q) := by
    rw [hsquare, State.changeSquare_square_self, ← hold]
    rfl
  by_cases hstate : (t.square q).state = (s.square q).state
  · have hbest : ¬(t.square q).best = (s.square q).best := fun h => hchanged ⟨hstate, h⟩
    rw [State.afterRecompute_of_kept (by rw [hset, hstate]), hset, if_neg hbest] at hv
    rw [if_pos hstate, hv]
    exact ⟨by simp [hbcranes], by simp [hbnotice], State.writeGridMirror_eq (by simp [hbwork]) (State.mirrorBase_congr (by simp [hbwindows]) _)
      (by simp [hbarb]) (by simp [hcells]) hset⟩
  · rw [State.afterRecompute_of_changed (by rw [hset]; exact hstate), hset, State.reportSquare_of_empty] at hv
    · rw [if_neg hstate, hv]
      have hwork : ((b.setSquare q (t.square q)).raise .squareState q.val (word (s.square q).state.code) (word (t.square q).state.code)
          (wordI ((t.square q).bestEstimate.getD 0))).scratch.work = k := by
        rw [(State.raise_emits ..).work]
        exact hbwork
      refine ⟨by simp [hbcranes], ?_, State.writeGridMirror_eq hwork (State.mirrorBase_congr (by simp [hbwindows]) _)
        (by simp [hbarb]) (by simp [hcells]) ((State.raise_square ..).trans hset)⟩
      rw [State.writeGridMirror_notice, State.raise_notice, State.setSquare_notice, hbnotice]
      exact congrArg _ (congrArg (fun stamp => Notice.mk _ _ stamp _ _ _) hbstamp)
    · intro i
      have hcrane : b.crane i = s.crane i := by rw [State.crane, hbcranes]; rfl
      have h := hempty i
      rw [← hcrane] at h
      simpa [State.crane] using h

end

/-! ## AGING_VISIT -/

section
variable {s : State} {q : Fin 512}

theorem agingVisit_next (hs : Free .agingPass s) (hrun : s.grid.aging.inProgress = true) (hpos : s.grid.aging.position = q.val) :
    exec .agingVisit s = .next ((s.visiting .agingPass { s.grid with aging := s.grid.aging.afterVisit 512 }).changeSquare q
      (Vector.ofFn fun c => ((s.square q).entries.get c).aged s.grid.params.ageLimit s.time.lt)).finish := by
  obtain ⟨hreset, -, hheld⟩ := hs
  have hvisited : s.grid.aging.visited 511 = s.grid.aging.afterVisit 512 := Pass.visited_eq hrun
  simp only [exec, execAgingVisit]
  rw [event_next hreset (by simp [hrun, hpos]) hheld, ← hvisited]
  simp only [State.beginEvent_grid, hpos, asIndex_val]
  rfl

theorem clearGridVisit_next (hs : Free .longOperation s) (hrun : s.grid.clearing = true) (hpos : s.grid.clearPosition = q.val) :
    exec .clearGridVisit s = .next ((s.beginEvent .longOperation).clearSquare q).finish := by
  obtain ⟨hreset, -, hheld⟩ := hs
  simp only [exec, execClearGridVisit]
  rw [event_next hreset (by simp [hrun, hpos]) hheld]
  simp only [State.beginEvent_grid, hpos, asIndex_val]

end

/-- Settles O41: the visit is a change of the square's entries to the aged ones. -/
theorem agingVisitAges : Obligations.AgingVisitAges := by
  intro s q hs hrun hpos
  have hg : ({ s.grid with aging := s.grid.aging.afterVisit 512 } : Grid) =
      Grid.reads { s.grid with aging := s.grid.aging.afterVisit 512 } s.grid := rfl
  have hnext := agingVisit_next hs hrun hpos
  generalize he : (Vector.ofFn fun c => ((s.square q).entries.get c).aged s.grid.params.ageLimit s.time.lt) = entries at hnext
  generalize hgrid : ({ s.grid with aging := s.grid.aging.afterVisit 512 } : Grid) = g at hg hnext
  have htgrid : ((s.visiting .agingPass g).changeSquare q entries).finish.grid = { g with
      squares := upd s.grid.squares q (({ s.square q with entries := entries } : Square).summarised s.grid.params s.stamp) } := by
    rw [State.finish_grid, State.visiting_grid hg]
  have hsquare (p : Fin 512) : ((s.visiting .agingPass g).changeSquare q entries).finish.square p =
      if p = q then ({ s.square q with entries := entries } : Square).summarised s.grid.params s.stamp else s.square p := by
    rw [State.square, htgrid, upd_get]
    rfl
  have hself := hsquare q
  rw [if_pos rfl] at hself
  refine ⟨_, hnext, OnlyTouches.finish hs ?_ (.inl (by simp)), ?_, fun p hp => ?_, fun c => ?_, ?_, fun hstate hbest => ?_, ?_,
    fun hempty hchanged => ?_⟩
  · simp [OnlyTouches, State.visiting]
  · rw [htgrid, ← hgrid]
  · rw [hsquare, if_neg hp]
  · rw [hself, Square.summarised_entries, ← he, ofFn_get]
    cases (s.square q).entries.get c <;> rfl
  · rw [hself, Square.summarised_entries]
  · have hold := State.visiting_square (k := .agingPass) hg q
    rw [State.square, State.finish_grid] at hstate hbest
    rw [State.changeSquare_of_kept (hstate.trans (by rw [hold])) (hbest.trans (by rw [hold]))]
    refine OnlyTouches.finish hs ?_ (.inr (by simp [State.visiting, EventScratch.idle]))
    simp [OnlyTouches, State.visiting]
  · exact recomputedBy_visit hg fun t ht => by rw [ht, hself, Square.summarised_entries]
  · obtain ⟨hcranes, hnotice, harb⟩ := visit_unoccupied (k := .agingPass) (entries := entries) hg hempty
      (t := ((s.visiting .agingPass g).changeSquare q entries).finish) (by rw [State.square, State.finish_grid]; rfl) hchanged
    refine ⟨by rw [State.finish_cranes, hcranes], by rw [State.finish_notice_followed, hnotice], ?_⟩
    · have hstatus := ThenStatusIfFlagged.of_emits (k := .agingPass) (s := s) (s.visiting_emits .agingPass g q entries) rfl rfl rfl
        (by simp [State.visiting])
      rwa [harb] at hstatus

/-! ## CLEAR_GRID_VISIT -/

/-- A square without entries is UNKNOWN. -/
theorem Square.summarised_absent (x : Square) (p : CoverageParams) (now : Stamp) :
    let y := ({ x with entries := Vector.replicate 24 .absent } : Square).summarised p now
    y.state = .unknown ∧ y.best = none ∧ y.bestEstimate = none :=
  Square.summarised_unknown _ _ _ fun c e u => by simp

/-- A visit writes the record once: by R100 when it changed the state or the best cell, and else by itself (log entry 14). -/
theorem State.clearSquare_eq (s : State) (q : Fin 512) : (s.beginEvent .longOperation).clearSquare q =
    if (s.square q).state = .unknown ∧ (s.square q).best = none then
      ((s.visiting .longOperation { s.grid with clearPosition := q.val + 1 }).changeSquare q (Vector.replicate 24 .absent)).writeGridMirror q
    else (s.visiting .longOperation { s.grid with clearPosition := q.val + 1 }).changeSquare q (Vector.replicate 24 .absent) := by
  have hsquare : ((s.visiting .longOperation { s.grid with clearPosition := q.val + 1 }).changeSquare q
      (Vector.replicate 24 .absent)).square q = ({ s.square q with entries := Vector.replicate 24 .absent } : Square).summarised
        s.grid.params s.stamp := State.changeSquare_square_self ..
  obtain ⟨hstate, hbest, -⟩ := (s.square q).summarised_absent s.grid.params s.stamp
  have hkept : ((({ s.square q with entries := Vector.replicate 24 .absent } : Square).summarised s.grid.params s.stamp).state =
      (s.square q).state ∧ (({ s.square q with entries := Vector.replicate 24 .absent } : Square).summarised s.grid.params s.stamp).best =
      (s.square q).best) ↔ (s.square q).state = .unknown ∧ (s.square q).best = none := by
    rw [hstate, hbest, eq_comm (a := SquareState.unknown), eq_comm (a := none)]
  simp only [State.clearSquare]
  change (if ((State.changeSquare (s.visiting .longOperation { s.grid with clearPosition := q.val + 1 }) q _).square q).state = (s.square q).state ∧
    ((State.changeSquare (s.visiting .longOperation { s.grid with clearPosition := q.val + 1 }) q _).square q).best = (s.square q).best
    then _ else _) = _
  rw [hsquare]
  exact if_congr hkept rfl rfl

/-- Settles O42: the visit is a change of the square's entries to absent ones, with a mirror record of its own where R100 writes none. -/
theorem clearGridVisitClears : Obligations.ClearGridVisitClears := by
  intro s q hs hrun hpos
  have hg : ({ s.grid with clearPosition := q.val + 1 } : Grid) = Grid.reads { s.grid with clearPosition := q.val + 1 } s.grid := rfl
  have hnext := clearGridVisit_next hs hrun hpos
  rw [State.clearSquare_eq] at hnext
  generalize hgrid : ({ s.grid with clearPosition := q.val + 1 } : Grid) = g at hg hnext
  have hold := State.visiting_square (k := .longOperation) hg q
  have hvgrid := State.visiting_grid (k := .longOperation) (q := q) (entries := Vector.replicate 24 .absent) hg
  obtain ⟨hstate, hbest, hestimate⟩ := (s.square q).summarised_absent s.grid.params s.stamp
  have hsquare (t : State) (ht : t.grid = ((s.visiting .longOperation g).changeSquare q (Vector.replicate 24 .absent)).grid)
      (p : Fin 512) : t.square p = if p = q then
        ({ s.square q with entries := Vector.replicate 24 .absent } : Square).summarised s.grid.params s.stamp else s.square p := by
    rw [State.square, ht, hvgrid, upd_get]
    rfl
  have hself (t : State) (ht : t.grid = ((s.visiting .longOperation g).changeSquare q (Vector.replicate 24 .absent)).grid) :=
    (hsquare t ht q).trans (if_pos rfl)
  have hother (t : State) (ht : t.grid = ((s.visiting .longOperation g).changeSquare q (Vector.replicate 24 .absent)).grid)
      (p : Fin 512) (hp : p ≠ q) := (hsquare t ht p).trans (if_neg hp)
  have habsent (t : State) (ht : t.grid = ((s.visiting .longOperation g).changeSquare q (Vector.replicate 24 .absent)).grid)
      (c : Fin 24) : (t.square q).entries.get c = .absent := by
    rw [hself t ht, Square.summarised_entries, replicate_get]
  by_cases hkept : (s.square q).state = .unknown ∧ (s.square q).best = none
  · have hv : (s.visiting .longOperation g).changeSquare q (Vector.replicate 24 .absent) = (s.visiting .longOperation g).setSquare q
        (((s.visiting .longOperation g).changeSquare q (Vector.replicate 24 .absent)).square q) := by
      have hsame := State.changeSquare_of_kept (s := s.visiting .longOperation g) (q := q) (entries := Vector.replicate 24 .absent)
        (by rw [hself _ rfl, hold, hstate, hkept.1]) (by rw [hself _ rfl, hold, hbest, hkept.2])
      rw [State.changeSquare_square_self]
      exact hsame
    rw [if_pos hkept] at hnext
    generalize hx : ((s.visiting .longOperation g).changeSquare q (Vector.replicate 24 .absent)).square q = x at hv
    generalize hvd : (s.visiting .longOperation g).changeSquare q (Vector.replicate 24 .absent) = v at *
    have htouches : OnlyTouches [.grid, .arb] s ((v.writeGridMirror q).setScratch s.scratch) := by
      rw [hv]
      simp [OnlyTouches, State.visiting]
    have hquiet : (v.writeGridMirror q).scratch.statusDue = false := by
      rw [hv]
      simp [State.visiting, EventScratch.idle]
    have harb : (v.writeGridMirror q).finish.arb = WithGridMirror .longOperation s (v.writeGridMirror q).finish q := by
      rw [State.finish_arb_of_quiet hquiet]
      refine State.writeGridMirror_eq ?_ (State.mirrorBase_congr ?_ _) ?_ ?_ ?_
      · rw [hv]; rfl
      · rw [hv]; rfl
      · rw [hv]; rfl
      · rw [hvgrid, hg]; rfl
      · simp [State.square]
    have hnotice : (v.writeGridMirror q).finish.notice = s.notice := hs.finish_notice (by rw [hv]; simp [State.visiting])
    have htgrid : (v.writeGridMirror q).finish.grid = v.grid := by simp
    refine ⟨_, hnext, (OnlyTouches.finish hs htouches (.inl (by simp))).mono (by simp), ?_, fun p hp => hother _ htgrid p hp,
      habsent _ htgrid, by rw [hself _ htgrid, hstate], by rw [hself _ htgrid, hbest], by rw [hself _ htgrid, hestimate], fun _ _ =>
      ⟨OnlyTouches.finish hs htouches (.inl (by simp)), harb⟩, fun h => absurd hkept h, fun _ => ⟨?_, ?_, ?_⟩⟩
    · rw [htgrid, hvgrid, ← hgrid]
    · rw [hv]
      simp [State.visiting]
    · rw [if_pos hkept.1, hnotice]
    · rw [ThenStatusIfFlagged, hnotice, if_pos ⟨rfl, rfl⟩, harb]
  · rw [if_neg hkept] at hnext
    have hunoccupied := fun hempty => visit_unoccupied (k := .longOperation) (q := q) (entries := Vector.replicate 24 .absent) hg hempty
      (t := ((s.visiting .longOperation g).changeSquare q (Vector.replicate 24 .absent)).finish) (by simp [State.square])
    have hemits := s.visiting_emits .longOperation g q (Vector.replicate 24 .absent)
    have htouches : OnlyTouches [.grid, .cranes, .notice, .arb] s
        (((s.visiting .longOperation g).changeSquare q (Vector.replicate 24 .absent)).setScratch s.scratch) := by
      simp [OnlyTouches, State.visiting]
    have hrecomputed := recomputedBy_visit (k := .longOperation) (q := q) (entries := Vector.replicate 24 .absent) hg
      fun t ht => by rw [ht, hself _ (State.finish_grid _), Square.summarised_entries]
    have hcpb : ((s.visiting .longOperation g).changeSquare q (Vector.replicate 24 .absent)).cpb = s.cpb := by simp [State.visiting]
    generalize hvd : (s.visiting .longOperation g).changeSquare q (Vector.replicate 24 .absent) = v at *
    have htgrid : v.finish.grid = v.grid := State.finish_grid _
    refine ⟨_, hnext, OnlyTouches.finish hs htouches (.inl (by simp)), ?_, fun p hp => hother _ htgrid p hp,
      habsent _ htgrid, by rw [hself _ htgrid, hstate], by rw [hself _ htgrid, hbest], by rw [hself _ htgrid, hestimate],
      fun h1 h2 => absurd ⟨h1, h2⟩ hkept, fun _ => ?_, fun hempty => ?_⟩
    · rw [htgrid, hvgrid, ← hgrid]
    · dsimp only at hrecomputed
      rwa [hself _ htgrid, Square.summarised_entries] at hrecomputed
    · obtain ⟨hcranes, hnotice, harb⟩ := hunoccupied hempty (by
        rw [hself _ htgrid, hstate, hbest, eq_comm (a := SquareState.unknown), eq_comm (a := none)]
        exact hkept)
      have hstatus := ThenStatusIfFlagged.of_emits (k := .longOperation) (s := s) hemits rfl rfl rfl hcpb
      rw [harb] at hstatus
      refine ⟨by rw [State.finish_cranes, hcranes], ?_, hstatus⟩
      rw [State.finish_notice_followed, hnotice, hself _ htgrid, hstate, hestimate]
      by_cases hunknown : (s.square q).state = .unknown
      · rw [if_pos hunknown, if_pos hunknown.symm, hs.notice_followed]
      · rw [if_neg hunknown, if_neg (fun h => hunknown h.symm)]
        cases (s.square q).state <;> rfl

end Sys2Proof.Machine
end

section
/-! SUPPORT. The events of local time (R1, R12, R101, R126). -/

namespace Sys2Proof.Machine

section
variable {t : TimeBase}

theorem clamp64_eq (x : Int) : clamp64 x = max (-(2 ^ 63)) (min (2 ^ 63 - 1) x) := rfl

/-- A slew step in the range of OC and S (R12). -/
theorem TimeBase.slewed_eq (h : TimeInRange t) : t.slewed = { t with
    oc := if 0 < t.slew then min (t.oc + 1) (2 ^ 63 - 1) else if t.slew < 0 then max (t.oc - 1) (-(2 ^ 63)) else t.oc
    slew := if 0 < t.slew then t.slew - 1 else if t.slew < 0 then t.slew + 1 else t.slew } := by
  obtain ⟨-, hlow, hhigh, -⟩ := h
  rw [TimeBase.slewed, clamp64_eq]
  obtain hpos | hzero | hneg := lt_trichotomy 0 t.slew
  · rw [Int.sign_eq_one_of_pos hpos, if_pos hpos, if_pos hpos, max_eq_right (by omega), min_comm]
  · rw [← hzero]
    simp only [Int.sign_zero, add_zero, sub_zero, lt_irrefl, if_false]
    rw [min_eq_right hhigh, max_eq_right hlow]
  · rw [Int.sign_eq_neg_one_of_neg hneg, if_neg (by omega), if_pos hneg, if_neg (by omega), if_pos hneg, min_eq_right (by omega),
      sub_neg_eq_add, ← sub_eq_add_neg, max_comm]

/-- One microsecond in the range of local time, OC and S (R1, R12). -/
theorem TimeBase.tick_eq (h : TimeInRange t) : t.tick = t.afterMicrosecond := by
  obtain ⟨-, hlow, hhigh, hslow, hshigh⟩ := h
  have hslewed : ({ t with lt := min (t.lt + 1) ltMax } : TimeBase).slewed = _ :=
    TimeBase.slewed_eq ⟨min_le_right .., hlow, hhigh, hslow, hshigh⟩
  unfold TimeBase.tick TimeBase.afterMicrosecond
  by_cases hboundary : min (t.lt + 1) ltMax % 1000 = 0
  · have hnot : ¬min (t.lt + 1) (2 ^ 48 - 1) % 1000 ≠ 0 := not_not.2 hboundary
    simp only [if_pos hboundary, if_neg hnot]
    exact hslewed
  · simp only [if_neg hboundary, if_pos (show min (t.lt + 1) (2 ^ 48 - 1) % 1000 ≠ 0 from hboundary)]
    rfl

theorem Pass.start_eq (p : Pass) (n : Nat) : p.start n = p.afterStart n := by
  cases h : p.inProgress <;> simp [Pass.start, Pass.afterStart, h]

end

/-- Settles O4, event by event. -/
theorem clockedEvents : Obligations.ClockedEvents := by
  refine ⟨fun s hr ht => ?_, fun s hr ht hboundary hmax hslew => ?_, fun s hr hpos hmul htaken => ?_, fun s hr hpos hmul htaken => ?_⟩
  · rw [← TimeBase.tick_eq ht]
    simp only [exec, execLocalTimeAdvance]
    exact quietEvent_next hr rfl
  · rw [← TimeBase.tick_eq ht]
    have hmax : s.time.lt < ltMax := hmax
    simp only [exec, execSlewStep]
    exact quietEvent_next hr (by simp [TimeBase.slewDue, hboundary, hslew, hmax])
  · rw [← Pass.start_eq]
    simp only [exec, execAgingPassStart]
    exact quietEvent_next hr (by simp [Pass.startDue, hpos, hmul, htaken])
  · rw [← Pass.start_eq]
    simp only [exec, execSilenceSweepStart]
    exact quietEvent_next hr (by simp [Pass.startDue, hpos, hmul, htaken])

end Sys2Proof.Machine
end

section
/-! SUPPORT. A VALUE that fails a check (R6, R10, R11). -/

namespace Sys2Proof.Machine

/-- The first check of R6 that fails is the judgement's reason. -/
theorem TimeBase.judgeValue_fails {t : TimeBase} {m : TimeMessage} {arrival : Nat} {v : Violation} (h : ValueFails t m arrival v) :
    t.judgeValue m arrival = some v := by
  cases v with
  | remark => exact h.elim
  | wrongMark =>
    cases hcapture : t.capture with
    | none => simp [TimeBase.judgeValue, hcapture]
    | some c => simp [TimeBase.judgeValue, hcapture, h c hcapture]
  | late =>
    obtain ⟨c, hcapture, hmark, hlate⟩ := h
    have hlate : (2000 * t.interval : Int) < (arrival : Int) - c.ltm := by omega
    simp [TimeBase.judgeValue, hcapture, hmark, hlate]
  | continuity =>
    obtain ⟨c, hcapture, hmark, harrival, hon, hsome, hother⟩ := h
    have hlate : ¬(2000 * t.interval : Int) < (arrival : Int) - c.ltm := by omega
    simp only [TimeBase.judgeValue, hcapture, hmark, ne_eq, not_true_eq_false, if_false, hlate]
    exact if_pos ⟨hon, hsome, hother⟩

/-- The Time Base keeps the capture on WRONG_MARK and clears it on LATE and CONTINUITY (R6). -/
theorem TimeBase.afterViolation_eq (t : TimeBase) {v : Violation} (h : v ≠ .remark) :
    t.afterViolation v = { t with capture := if v = .wrongMark then t.capture else none } := by
  cases v with
  | remark => exact absurd rfl h
  | wrongMark | late | continuity => rfl

/-- Settles O6: the VALUE is a violation of the judgement's reason. -/
theorem valueViolation : Obligations.ValueViolation := by
  intro s e rest v hs hq hrun hkind hfails
  obtain ⟨htouches, hintake, hcounts⟩ := timeRecord_finish_frame (rest := rest) (e := e) hs
  have hv : v ≠ .remark := by
    rintro rfl
    exact hfails
  have hvalue := (State.timeRecord_value (s := s.timeTaken e rest) (by simpa using hrun) hkind e.arrival)
  rw [State.valueMessage, State.timeTaken_time, TimeBase.judgeValue_fails hfails] at hvalue
  refine ⟨_, timeRecordDequeue_next hs hq, htouches, hintake, hcounts, ?_, ?_, ?_⟩
  · rw [hvalue, ← TimeBase.afterViolation_eq s.time hv]
    simp [State.violation]
  · rw [hvalue]
    exact StatusIfFlagged.of_violation (by simp) (by simp) (by simp) (by simp) (by simp [EventScratch.idle])
  · have hstamp : ((s.timeTaken e rest).setTime (s.time.afterViolation v)).stamp = s.stamp := by
      rw [TimeBase.afterViolation_eq s.time hv]
      exact State.stamp_congr (by simp) (by simp) (by simp)
    rw [hvalue, State.finish_notice_followed, State.violation_notice, hstamp, State.setTime_notice, State.timeTaken_notice]
    cases v <;> cases s.time.capture <;> rfl

end Sys2Proof.Machine
end

section
/-! SUPPORT. The downstream port (R20, R39, R40, R62). -/

namespace Sys2Proof.Machine

theorem BeatPlan.apply_eq (x : BeatPlan × List Byte) : x.1.apply x.2 =
    match x.1 with | .pass => x.2 | .hold frame => frame | .zero => List.replicate 16 0 := by
  obtain ⟨p, beat⟩ := x
  cases p <;> rfl

/-- The plan is applied beat by beat. -/
theorem returnedData_flatten (plan : List BeatPlan) (data : List (List Byte)) (hlength : data.length = plan.length)
    (hbeats : ∀ b ∈ data, b.length = 16) : returnedData plan data.flatten = ((plan.zip data).map fun x => x.1.apply x.2).flatten := by
  induction plan generalizing data with
  | nil => rfl
  | cons p plan ih =>
    cases data with
    | nil => simp at hlength
    | cons b data =>
      obtain ⟨hb, hdata⟩ := List.forall_mem_cons.1 hbeats
      simp only [List.flatten_cons, List.zip_cons_cons, List.map_cons, returnedData]
      rw [List.take_left' hb, List.drop_left' hb, ih data (by simpa using hlength) hdata]

theorem length_flatten_of_beats (data : List (List Byte)) (hbeats : ∀ b ∈ data, b.length = 16) :
    data.flatten.length = 16 * data.length := by
  rw [List.length_flatten, List.map_congr_left hbeats, List.map_const', List.sum_replicate_nat, mul_comm]

/-- Settles O18, event by event. -/
theorem portsMove : Obligations.PortsMove := by
  refine ⟨⟨fun s p rest hr hpassing hnext => ?_, fun s w rest hr hown hnext => ?_, fun s h rest hr hheld hroom => ?_⟩,
    fun s n st m a l hr hflight => ?_, fun s n st m a plan data hr hflight hlength hbeats => ?_, fun s n st w hr hflight => ?_⟩
  · simp only [exec, execForwardDownstream]
    rw [quietEvent_next hr (by simpa [Arbiter.passingNext, hpassing, or_comm] using hnext)]
    simp [Arbiter.sendPassing, hpassing, State.setArb]
  · simp only [exec, execOwnWriteIssue]
    rw [quietEvent_next hr (by simpa [Arbiter.ownNext, hown] using hnext)]
    simp [Arbiter.sendOwn, hown, State.setArb]
  · simp only [exec, execHeldWriteJoin]
    rw [quietEvent_next hr (by simp [hheld, hroom])]
    simp [Arbiter.joinHeld, hheld, State.setArb]
  · simp only [exec, execWriteResponse]
    rw [quietEvent_next hr (by simp [hflight])]
    simp [hflight, State.landed, State.respond, State.setArb, State.setPort]
  · simp only [exec, execReadDataReturn]
    rw [quietEvent_next hr (by simp [hflight, length_flatten_of_beats data hbeats, hlength])]
    simp only [hflight, returnedData_flatten plan data hlength hbeats, BeatPlan.apply_eq]
    rfl
  · simp only [exec, execOwnWriteResponse]
    rw [quietEvent_next hr (by simp [hflight])]
    rfl

end Sys2Proof.Machine
end

section
/-! SUPPORT. Offers that take no command of the table (R161, R162, R165). -/

namespace Sys2Proof.Machine

/-- An effect on the Command Unit alone. -/
theorem Free.finish_setCmd {k : Work} {s : State} (hs : Free k s) (c : CommandUnit) :
    ((s.beginEvent k).setCmd c).finish = { s with cmd := c } := by
  have hnotice := hs.notice_followed
  have hscratch := hs.scratch_idle
  obtain ⟨inReset, cpb, cpid, time, windows, intake, arb, port, cranes, grid, reefer, notice, cmd, mirror, scratch, restarts, pending⟩ := s
  subst hscratch
  exact congrArg (fun n => (⟨inReset, cpb, cpid, time, windows, intake, arb, port, cranes, grid, reefer, n, c, mirror, .idle, restarts,
    pending⟩ : State)) hnotice

/-- Settles O53, offer by offer. -/
theorem offersJudged : Obligations.OffersJudged := by
  refine ⟨fun s hs hmark htag => ?_, fun s hs hmark htag hidle hcode => ?_, fun s hs hmark htag hlong hcode => ?_⟩
  · obtain ⟨hreset, -, hheld⟩ := id hs
    simp only [exec, execOfferJudgement]
    rw [event_next hreset (by simp [hmark, htag]) hheld]
    exact congrArg _ (hs.finish_setCmd _)
  · obtain ⟨hreset, -, hheld⟩ := id hs
    simp only [exec, execUnknownCommand]
    have hunknown : codeNamesCommand s.cmd.code = false := by
      simp only [codeNamesCommand, decide_eq_false_iff_not]
      omega
    rw [event_next hreset (by simp [CommandUnit.offers, hmark, htag, hidle, hunknown]) hheld]
    refine ⟨_, rfl, Reports.of_complete (by decide) rfl rfl rfl rfl, OnlyTouches.complete _ hs ?_ (by simp) (by simp)⟩
    simp [OnlyTouches, State.take]
  · obtain ⟨hreset, -, hheld⟩ := id hs
    simp only [exec, execBusyRefusal]
    rw [event_next hreset (by simpa [CommandUnit.offers, hmark, htag, hlong, codeTakenWhileBusy] using hcode) hheld]
    refine ⟨_, rfl, OnlyTouches.finish hs ?_ (.inl (by simp)), by simp, ?_⟩
    · simp [OnlyTouches]
    · rw [State.finish_arb_of_quiet (by simp [EventScratch.idle])]
      simp [State.writeResult, State.hand, State.pageAddr]

end Sys2Proof.Machine
end

section
/-! SUPPORT. The records that the part writes, field by field (R61, R177, R179 to R182). -/

namespace Sys2Proof.Machine

/-! ## Fields in order -/

theorem leBytes_length (n v : Nat) : (leBytes n v).length = n := by
  induction n generalizing v with
  | zero => rfl
  | succ n ih => rw [leBytes, List.length_cons, ih]

theorem leNat_leBytes (n v : Nat) : leNat (leBytes n v) = v % 2 ^ (8 * n) := by
  induction n generalizing v with
  | zero => simp [leBytes, leNat, Nat.mod_one]
  | succ n ih =>
    rw [leBytes, leNat, ih, BitVec.toNat_ofNat, mul_add, mul_one, add_comm (8 * n) 8, pow_add, Nat.mod_mul]
    rfl

/-- A field holds its value modulo the field's size. -/
theorem leBytes_mod (n v : Nat) : leBytes n (v % 2 ^ (8 * n)) = leBytes n v := by
  induction n generalizing v with
  | zero => rfl
  | succ n ih =>
    have hhead : BitVec.ofNat 8 (v % 2 ^ (8 * (n + 1))) = BitVec.ofNat 8 v := by
      apply BitVec.eq_of_toNat_eq
      rw [BitVec.toNat_ofNat, BitVec.toNat_ofNat, Nat.mod_mod_of_dvd _ (pow_dvd_pow 2 (by omega))]
    have htail : v % 2 ^ (8 * (n + 1)) / 256 = v / 256 % 2 ^ (8 * n) := by
      rw [mul_add, mul_one, add_comm (8 * n) 8, pow_add]
      exact Nat.mod_mul_right_div_self v (2 ^ 8) _
    rw [leBytes, leBytes, hhead, htail, ih]

theorem beBytes_length (n v : Nat) : (beBytes n v).length = n := by
  rw [beBytes, List.length_reverse, leBytes_length]

theorem beNat_beBytes (n v : Nat) : beNat (beBytes n v) = v % 2 ^ (8 * n) := by
  rw [beNat, beBytes, List.reverse_reverse, leNat_leBytes]

section
variable {enc : Nat → Nat → List Byte}

/-- The fields of a record in a byte order, one after the other. -/
def packed (enc : Nat → Nat → List Byte) (fields : List (Nat × Nat × Nat)) : List Byte := fields.flatMap fun f => enc f.2.1 f.2.2

/-- Each field begins where the one before it ends, from `start` up to `stop`. -/
def consecutive (start stop : Nat) : List (Nat × Nat × Nat) → Bool
  | [] => start == stop
  | f :: fields => f.1 == start && consecutive (start + f.2.1) stop fields

theorem packed_cons (f : Nat × Nat × Nat) (fields : List (Nat × Nat × Nat)) :
    packed enc (f :: fields) = enc f.2.1 f.2.2 ++ packed enc fields := rfl

/-- Each field stands in its place after bytes of the length at which the fields start. -/
theorem packed_fields (henc : ∀ n v, (enc n v).length = n) (before : List Byte) (stop : Nat) (fields : List (Nat × Nat × Nat))
    (h : consecutive before.length stop fields = true) : (before ++ packed enc fields).length = stop ∧
      ∀ f ∈ fields, ((before ++ packed enc fields).drop f.1).take f.2.1 = enc f.2.1 f.2.2 := by
  induction fields generalizing before with
  | nil => exact ⟨(congrArg List.length (List.append_nil before)).trans (beq_iff_eq.1 h), fun f hf => absurd hf (List.not_mem_nil)⟩
  | cons f fields ih =>
    obtain ⟨hstart, hrest⟩ := Bool.and_eq_true_iff.1 h
    have hlater := ih (before ++ enc f.2.1 f.2.2) (by rwa [List.length_append, henc])
    rw [List.append_assoc, ← packed_cons] at hlater
    obtain ⟨hlength, hfields⟩ := hlater
    refine ⟨hlength, List.forall_mem_cons.2 ⟨?_, hfields⟩⟩
    rw [beq_iff_eq.1 hstart, List.drop_left, packed_cons, List.take_left' (henc ..)]

/-- A record that is its fields in order is laid out so. -/
theorem LaidOut.of_packed {r : List Byte} {size : Nat} {fields : List (Nat × Nat × Nat)} (hr : r = packed leBytes fields)
    (hfields : consecutive 0 size fields = true) : LaidOut r size fields := by
  obtain ⟨hlength, hvalues⟩ := packed_fields leBytes_length [] size fields hfields
  rw [hr]
  refine ⟨hlength, fun f hf => ?_⟩
  rw [← leNat_leBytes]
  exact congrArg leNat (hvalues f hf)

/-- The fields of a radio record that is its fields in order (R181). -/
theorem field_packed {size : Nat} {fields : List (Nat × Nat × Nat)} (hfields : consecutive 0 size fields = true) :
    (packed beBytes fields).length = size ∧ ∀ f ∈ fields, field (packed beBytes fields) f.1 f.2.1 = f.2.2 % 2 ^ (8 * f.2.1) := by
  obtain ⟨hlength, hvalues⟩ := packed_fields beBytes_length [] size fields hfields
  refine ⟨hlength, fun f hf => ?_⟩
  rw [← beNat_beBytes]
  exact congrArg beNat (hvalues f hf)

end

/-! ## Values of fields -/

theorem boolNat_isSome {α : Type} [DecidableEq α] (x : Option α) : boolNat x.isSome = if x = none then 0 else 1 := by
  cases x <;> rfl

theorem mul_boolNat (n : Nat) (b : Bool) : n * boolNat b = if b then n else 0 := by
  cases b <;> simp [boolNat]

theorem unsigned16_eq (x : Int) : unsigned 16 x = signedField 2 x := rfl

theorem unsigned64_eq (x : Int) : unsigned 64 x = signedField 8 x := rfl

theorem qualityByte_eq (x : Option Stamp) : qualityByte x = qualityField x := by
  cases x <;> rfl

/-- The low 32 bits of a stamp are what a field of 4 bytes holds of it. -/
theorem leBytes_stampLow (x : Option Stamp) : leBytes 4 (stampLow x) = leBytes 4 (stampValue x) := by
  cases x with
  | none => rfl
  | some t => exact leBytes_mod 4 _

theorem countOf_eq {α : Type} {n : Nat} (v : Vector α n) (p : α → Bool) : countOf v p = (List.finRange n).countP fun i => p (v.get i) := by
  rw [countOf, toList_eq_map_get, List.countP_map]
  rfl

theorem ReeferTable.inState_eq (s : State) (x : ReeferState) : s.reefer.inState x = EntriesIn s x := countOf_eq ..

/-- The fields of the HOLD frame before its check word (R61). -/
def holdFields (id sequence reason stamp : Nat) : List (Nat × Nat × Nat) :=
  [(0, 1, 2), (1, 1, id), (2, 2, sequence), (4, 1, 0), (5, 1, reason), (6, 2, 0), (8, 2, 0), (10, 4, stamp)]

/-- The HOLD frame is its fields and the check word over them. -/
theorem holdFrame_packed (id sequence reason stamp : Nat) :
    holdFrame id sequence reason stamp = packed beBytes (holdFields id sequence reason stamp ++
      [(14, 2, checkWord (packed beBytes (holdFields id sequence reason stamp)))]) ∧
      (holdFrame id sequence reason stamp).take 14 = packed beBytes (holdFields id sequence reason stamp) := by
  have hbody : beBytes 1 2 ++ beBytes 1 id ++ beBytes 2 sequence ++ beBytes 1 0 ++ beBytes 1 reason ++ beBytes 2 0 ++ beBytes 2 0 ++
      beBytes 4 stamp = packed beBytes (holdFields id sequence reason stamp) := by
    simp only [packed, holdFields, List.flatMap_cons, List.flatMap_nil, List.append_nil, List.append_assoc]
  obtain ⟨hlength, -⟩ := field_packed (fields := holdFields id sequence reason stamp) (size := 14) rfl
  rw [holdFrame, hbody, withCheckWord]
  refine ⟨?_, List.take_left' hlength⟩
  simp only [packed, List.flatMap_append, List.flatMap_cons, List.flatMap_nil, List.append_nil]

/-! ## The records -/

/-- Settles O10, record by record: each is its fields in order. -/
theorem recordLayouts : Obligations.RecordLayouts := by
  refine ⟨fun c => ?result, fun r => by cases r <;> rfl, fun s => ?status, fun n post => ?notice, fun k => ?kind, fun e => ?reefer,
    fun x cells => ?square, fun c => ?crane, fun id sequence reason stamp => ?hold⟩
  case result =>
    apply LaidOut.of_packed (hfields := rfl)
    unfold packed CommandUnit.resultRecord
    simp only [List.flatMap_cons, List.flatMap_nil, List.append_nil, List.append_assoc]
  case status =>
    apply LaidOut.of_packed (hfields := rfl)
    unfold packed State.statusBlock
    simp only [List.flatMap_cons, List.flatMap_nil, List.append_nil, List.append_assoc, boolNat_isSome, unsigned64_eq,
      ReeferTable.inState_eq]
    cases s.time.lastSuccess <;> rfl
  case notice =>
    apply LaidOut.of_packed (hfields := rfl)
    unfold packed Notice.record
    simp only [List.flatMap_cons, List.flatMap_nil, List.append_nil, List.append_assoc]
    rfl
  case kind => cases k <;> exact ⟨by decide, rfl⟩
  case reefer =>
    apply LaidOut.of_packed (hfields := rfl)
    unfold packed ReeferEntry.mirrorRecord
    simp only [List.flatMap_cons, List.flatMap_nil, List.append_nil, List.append_assoc, boolNat_isSome, mul_ite, mul_zero, mul_one,
      show List.range 6 = [0, 1, 2, 3, 4, 5] from rfl]
    simp only [mul_boolNat, unsigned16_eq, qualityByte_eq]
    cases e.side <;> rfl
  case square =>
    apply LaidOut.of_packed (hfields := rfl)
    unfold packed Square.mirrorRecord
    simp only [List.flatMap_cons, List.flatMap_nil, List.append_nil, List.append_assoc, countOf_eq, unsigned16_eq, qualityByte_eq,
      leBytes_stampLow]
    rfl
  case crane =>
    apply LaidOut.of_packed (hfields := rfl)
    unfold packed Crane.mirrorRecord
    simp only [List.flatMap_cons, List.flatMap_nil, List.append_nil, List.append_assoc, boolNat_isSome, mul_ite, mul_zero, mul_one,
      unsigned16_eq, qualityByte_eq]
    rfl
  case hold =>
    obtain ⟨hframe, hbody⟩ := holdFrame_packed id sequence reason stamp
    obtain ⟨hlength, hfields⟩ := field_packed (fields := holdFields id sequence reason stamp ++
      [(14, 2, checkWord (packed beBytes (holdFields id sequence reason stamp)))]) (size := 16) rfl
    have hchecked : checkWord (packed beBytes (holdFields id sequence reason stamp)) % 2 ^ 16 =
        checkWord (packed beBytes (holdFields id sequence reason stamp)) := Nat.mod_eq_of_lt (BitVec.isLt _)
    rw [← hframe] at hlength hfields
    dsimp only
    rw [hbody]
    simp only [holdFields, List.cons_append, List.nil_append, List.forall_mem_cons] at hfields
    obtain ⟨h0, h1, h2, h4, h5, h6, h8, h10, h14, -⟩ := hfields
    exact ⟨hlength, h0, h1, h2, h4, h5, h6, h8, h10, h14.trans hchecked⟩

end Sys2Proof.Machine
end

section
/-! SUPPORT. Write transfers as one event (R20, R23 to R26, R33 to R36). -/

namespace Sys2Proof.Machine

/-! ## The event of a transfer -/

theorem Free.setScratch_idle {k : Work} {s : State} (hs : Free k s) : s.setScratch .idle = s := by
  rw [← hs.scratch_idle]
  rfl

theorem present_write_next {m : MasterId} {a : Address} {l : List Lane} {s : State} (hwf : (Transfer.write m a l).wf = true)
    (hs : Free .other s) : present (.write m a l) s = .next (s.passWrite m a l).finish := by
  have hidle := hs.setScratch_idle
  obtain ⟨hreset, -⟩ := hs
  simp [present, hwf, hreset, State.takeTransfer, hidle]

theorem writeTransfer_next {m : MasterId} {a : Address} {l : List Lane} {s : State} (hwf : (Transfer.write m a l).wf = true)
    (hs : Free .other s) : exec (.writeTransfer m a l) s = .next (s.passWrite m a l).finish :=
  present_write_next hwf hs

/-- Operands that are no transfer have no effect (log entry 26). -/
theorem present_of_not_wf {x : Transfer} (s : State) (h : x.wf = false) : present x s = .next s := by
  simp [present, h]

/-- A row for one word presents the write of the page's beat with that word's lanes (R150, R153). -/
theorem ringBeat_eq {s : State} {m : MasterId} {o n : Nat} {w l : List Lane} (h : WordLanes o n w l) :
    s.ringBeat m o n w = .write m (BitVec.ofNat 40 (s.pageAddr 0x100)) l := by
  obtain ⟨hlength, hlanes⟩ := h
  refine congrArg (Transfer.write m _) (List.ext_getElem? fun j => ?_)
  obtain hj | hj := Nat.lt_or_ge j 16
  · rw [hlanes j hj, List.getElem?_map, List.getElem?_range hj]
    rfl
  · rw [List.getElem?_eq_none (by simpa using hj), List.getElem?_eq_none (by omega)]

/-- However a write transfer is presented, it is presented as one. -/
theorem presentsWrite_exec {c : Instr} {m : MasterId} {a : Address} {l : List Lane} {s : State} (hc : PresentsWrite s c m a l) :
    exec c s = present (.write m a l) s := by
  obtain rfl | ⟨rfl, ⟨w, rfl, hw⟩ | ⟨w, rfl, hw⟩ | ⟨w, rfl, hw⟩⟩ | ⟨beat, hbeat, rfl, rfl⟩ := hc
  · rfl
  · simp only [exec, execRingBaseWrite]
    rw [ringBeat_eq hw]
  · simp only [exec, execRingLengthWrite]
    rw [ringBeat_eq hw]
  · simp only [exec, execConsumerIndexWrite]
    rw [ringBeat_eq hw]
  · simp only [exec, execControlPageWrite]
    rw [if_pos hbeat]

theorem presentsWrite_next {c : Instr} {m : MasterId} {a : Address} {l : List Lane} {s : State} (hc : PresentsWrite s c m a l)
    (hwf : (Transfer.write m a l).wf = true) (hs : Free .other s) : exec c s = .next (s.passWrite m a l).finish :=
  (presentsWrite_exec hc).trans (present_write_next hwf hs)

section
variable {s v : State} {p : Passing}

/-- A transfer that is forwarded and does nothing else. -/
theorem Free.forward_finish (hs : Free .other s) (p : Passing) : OnlyTouches [.arb] s (s.forward p).finish ∧
    (s.forward p).finish.arb = { s.arb with passing := s.arb.passing ++ [p] } := by
  refine ⟨OnlyTouches.finish hs (by simp [OnlyTouches]) (.inl (by simp)), ?_⟩
  rw [State.finish_arb_of_quiet (by simp [hs.scratch_idle, EventScratch.idle])]
  rfl

/-- The end of a forwarded transfer that has handed no own write. -/
theorem ForwardsWithStatus.of_emits (hs : Free .other s) (he : Emits s v) (harb : v.arb = s.arb) (hcpb : v.cpb = s.cpb) :
    ForwardsWithStatus p s (v.forward p).finish := by
  have hdue := he.statusDue_iff (by rw [hs.scratch_idle]; rfl)
  refine ForwardsWithStatus.of_finish harb (he.work.trans (by rw [hs.scratch_idle]; rfl)) hcpb ?_
  rw [← Bool.not_eq_true, hdue, NoticeUnit.Flagged, not_not]

/-- The end of an event that has handed no own write. -/
theorem StatusIfFlagged.of_emits {k : Work} {s u v : State} (he : Emits u v) (hdue : u.scratch.statusDue = false)
    (hwork : u.scratch.work = k) (hnotice : u.notice = s.notice) (harb : v.arb = s.arb) (hcpb : v.cpb = s.cpb) :
    StatusIfFlagged k s v.finish := by
  have hstatus := ThenStatusIfFlagged.of_emits he hdue hwork hnotice hcpb
  rwa [harb] at hstatus

end

/-! ## Transfers that pass unaltered -/

section
variable {s : State} {m : MasterId} {a : Address}

theorem State.downWindow_of_kind {w : Window} (h : w.kind ≠ some .craneDown) : s.downWindow w = none := by
  cases hdown : s.downWindow w with
  | none => rfl
  | some x => exact absurd (State.downWindow_eq_some hdown).1 h

theorem State.passRead_unwatched (h : ∀ i, s.windowAt a.toNat = some i → (s.window i).kind ≠ some .craneDown) (n : Nat) :
    s.passRead m a n = s.forward (.read m a (List.replicate n .pass)) := by
  unfold State.passRead
  cases hat : s.windowAt a.toNat with
  | none => rfl
  | some i => simp only [State.downWindow_of_kind (h i hat)]

theorem State.passWrite_window {i : Fin 32} (hpage : s.pageOffset a.toNat = none) (hat : s.windowAt a.toNat = some i) (l : List Lane) :
    s.passWrite m a l = s.windowWrite i m a l := by
  simp only [State.passWrite, hpage, hat]

theorem State.passWrite_page {off : Nat} (hpage : s.pageOffset a.toNat = some off) (l : List Lane) :
    s.passWrite m a l = s.pageWrite off m a l := by
  simp only [State.passWrite, hpage]

/-- A window without a slot table hands a permitted write to Record Intake and forwards it (R23, R33). -/
theorem State.windowWrite_permitted {i : Fin 32} {k : WindowKind} (hkind : (s.window i).kind = some k) (hk : k.partOnly = false)
    (hdown : k ≠ .craneDown) (hm : (s.window i).permits m = true) (l : List Lane) :
    s.windowWrite i m a l = (s.intakeWrite i k m a.toNat l).forward (.write m a l) := by
  have hblocks : (s.window i).blocks m = false := by simp [Window.blocks, hkind, hk, hm]
  simp only [State.windowWrite, hblocks, Bool.false_eq_true, if_false, hkind,
    State.downWindow_of_kind (s := s) (w := s.window i) (by rw [hkind]; exact fun h => hdown (Option.some.inj h))]

end

theorem spanWf_iff (a n : Nat) : spanWf a n = true ↔ a % 16 = 0 ∧ n % 16 = 0 ∧ 16 ≤ n ∧ n ≤ 256 ∧ a % 4096 + n ≤ 4096 := by
  simp [spanWf, and_assoc]

theorem State.pageAddr_toNat (s : State) {off : Nat} (h : off ≤ 4096) : (BitVec.ofNat 40 (s.pageAddr off)).toNat = s.pageAddr off := by
  have hlt := s.cpb.isLt
  rw [BitVec.toNat_ofNat]
  exact Nat.mod_eq_of_lt (by unfold State.pageAddr; omega)

/-- Settles O11: what no window watches is forwarded alone, and operands that are no transfer have no effect. -/
theorem transfersPassUnaltered : Obligations.TransfersPassUnaltered := by
  refine ⟨⟨fun m a n s h => present_of_not_wf s ?_, fun m a l s h => present_of_not_wf s ?_, fun m beat l s h => ?_⟩,
    fun m a n s hwf hreset hset hwindow => ⟨_, readTransfer_next hwf (.of_settled hreset hset), ?_⟩,
    fun m a l s hwf hreset hset hpage hwindow => ⟨_, writeTransfer_next hwf (.of_settled hreset hset), ?_⟩⟩
  · rw [← Bool.not_eq_true, Transfer.wf, spanWf_iff]
    omega
  · rw [← Bool.not_eq_true, Transfer.wf, spanWf_iff]
    omega
  · simp only [exec, execControlPageWrite]
    by_cases hbeat : beat < 256
    · rw [if_pos hbeat]
      refine present_of_not_wf s ?_
      rw [← Bool.not_eq_true, Transfer.wf, spanWf_iff, State.pageAddr_toNat s (by omega), State.pageAddr]
      omega
    · rw [if_neg hbeat]
  · rw [State.passRead_unwatched hwindow]
    exact (Free.of_settled hreset hset).forward_finish _
  · have hforward : s.passWrite m a l = s.forward (.write m a l) := by
      cases hat : s.windowAt a.toNat with
      | none => simp only [State.passWrite, hpage, hat]
      | some i =>
        obtain ⟨hkind, hm⟩ := hwindow i hat
        rw [State.passWrite_window hpage hat, State.windowWrite_permitted hkind rfl (by decide) hm]
        rfl
    rw [hforward]
    exact (Free.of_settled hreset hset).forward_finish _

/-! ## Blocked writes -/

section
variable {s : State}

/-- The notices of a blocked write (R26). -/
theorem State.blockWrite_notice (s : State) (subject : Nat) (m : MasterId) (a : Address) : (s.blockWrite subject m a).notice =
    ({ s.notice with flags := s.notice.flags ||| 0x001#12 } : NoticeUnit).take
      { kind := .writeBlocked, subject, stamp := s.stamp, value1 := word m.toNat, value2 := word a.toNat,
        value3 := word (a.toNat / 2 ^ 32) } := rfl

theorem State.blockWrite_port (s : State) (subject : Nat) (m : MasterId) (a : Address) :
    (s.blockWrite subject m a).port = { s.port with responses := s.port.responses ++ [.write m .error] } := rfl

/-- The page blocks a write of a byte forbidden to its master (R25, R179). -/
theorem State.pageBlocks_iff (s : State) (m : MasterId) (off : Nat) (l : List Lane) : s.pageBlocks m off l = true ↔
    ∃ j x, l[j]? = some x ∧ x.strobe = true ∧
      ((off + j < 0x44 ∧ m ≠ s.cpid) ∨ (0x80 ≤ off + j ∧ off + j < 0xA0) ∨ (0x200 ≤ off + j ∧ off + j < 0x260) ∨
        (0x400 ≤ off + j ∧ off + j < 0x600)) := by
  rw [State.pageBlocks, List.any_eq_true]
  simp only [Prod.exists, List.mem_zipIdx_iff_getElem?, Bool.and_eq_true, pageForbidden, Bool.or_eq_true, decide_eq_true_eq,
    Bool.not_eq_true', beq_eq_false_iff_ne, or_assoc]
  exact exists_comm

theorem Window.blocks_of {w : Window} {k : WindowKind} {m : MasterId} (hkind : w.kind = some k)
    (h : k = .noticeRing ∨ k = .reeferMirror ∨ k = .gridMirror ∨ k = .craneMirror ∨ w.writers.getLsbD m.toNat = false) :
    w.blocks m = true := by
  obtain rfl | rfl | rfl | rfl | h := h
  case inr.inr.inr.inr => simp [Window.blocks, Window.permits, h]
  all_goals simp [Window.blocks, hkind, WindowKind.partOnly]

end

/-- Settles O12: a window's counter and the effects of R26, and for the page those effects alone. -/
theorem writesBlocked : Obligations.WritesBlocked := by
  refine ⟨fun m a l s i k hwf hreset hset hpage hat hkind hblock => ?_, fun c m a l s off hc hwf hreset hset hpage hblock => ?_⟩
  · have hs := Free.of_settled hreset hset
    refine ⟨_, writeTransfer_next hwf hs, ?_⟩
    rw [State.passWrite_window hpage hat, State.windowWrite, if_pos (Window.blocks_of hkind hblock)]
    refine ⟨OnlyTouches.finish hs ?_ (.inl (by simp)), by simp; rfl, by simp [State.blockWrite_port], ?_, ?_⟩
    · simp [OnlyTouches]
    · rw [State.finish_notice_followed, State.blockWrite_notice]
      rfl
    · exact StatusIfFlagged.of_emits ((s.setWindow_emits ..).trans (State.blockWrite_emits ..)) (by rw [hs.scratch_idle]; rfl)
        (by rw [hs.scratch_idle]; rfl) rfl (by simp) (by simp)
  · have hs := Free.of_settled hreset hset
    refine ⟨_, presentsWrite_next hc hwf hs, ?_⟩
    rw [State.passWrite_page hpage, State.pageWrite, if_pos ((s.pageBlocks_iff ..).2 hblock)]
    refine ⟨OnlyTouches.finish hs ?_ (.inl (by simp)), by simp [State.blockWrite_port], ?_, ?_⟩
    · simp [OnlyTouches]
    · rw [State.finish_notice_followed, State.blockWrite_notice]
      rfl
    · exact StatusIfFlagged.of_emits (State.blockWrite_emits ..) (by rw [hs.scratch_idle]; rfl)
        (by rw [hs.scratch_idle]; rfl) rfl (by simp) (by simp)

end Sys2Proof.Machine
end

section
/-! SUPPORT. Settling record positions (R33 to R36). -/

namespace Sys2Proof.Machine

/-! ## The write into an intake window -/

/-- What the torn or missed positions of one transfer do to the notices: the flag, and one notice with the first position and their
number (R35, R36). -/
theorem State.reportPositions_notice (s : State) (f : Flag) (k : NoticeKind) (i : Fin 32) (m : MasterId) (l : List Nat) :
    (s.reportPositions f k i m l).notice = if l = [] then s.notice
      else ({ s.notice with flags := s.notice.flags ||| f.bit } : NoticeUnit).take
        { kind := k, subject := i.val, stamp := s.stamp, value1 := word m.toNat, value2 := word (l.headD 0), value3 := word l.length } := by
  cases l with
  | nil => rfl
  | cons p l => rfl

theorem State.reportPositions_stamp (s : State) (f : Flag) (k : NoticeKind) (i : Fin 32) (m : MasterId) (l : List Nat) :
    (s.reportPositions f k i m l).stamp = s.stamp := by
  cases l <;> rfl

/-- Settles O13, by the settlement of the transfer's positions. -/
theorem intakeWriteSettles : Obligations.IntakeWriteSettles := by
  intro m a l s i k size capacity hwf hreset hset hpage hat hkind hm hshape
  have hs := Free.of_settled hreset hset
  have hk : k.intakeShape = some (size, capacity) ∧ k.partOnly = false ∧ k ≠ .craneDown := by
    obtain ⟨rfl, rfl, rfl⟩ | ⟨rfl, rfl, rfl⟩ | ⟨rfl, rfl, rfl⟩ | ⟨rfl, rfl, rfl⟩ := hshape <;> exact ⟨rfl, rfl, by decide⟩
  obtain ⟨hintake, honly, hdown⟩ := hk
  intro r n u1 u2
  refine ⟨_, writeTransfer_next hwf hs, ?_⟩
  have hwrite : s.intakeWrite i k m a.toNat l = (((s.setIntake (s.intake.setQueue k r.queue)).setWindow i
      { s.window i with torn := satAdd (s.window i).torn r.torn.length, missed := satAdd (s.window i).missed r.missed.length }).reportPositions
        .tornRecord .tornRecord i m r.torn).reportPositions .intakeOverrun .intakeOverrun i m r.missed := by
    simp only [State.intakeWrite, hintake]
    rfl
  rw [State.passWrite_window hpage hat, State.windowWrite_permitted hkind honly hdown hm]
  refine ⟨OnlyTouches.finish hs ?_ (.inl (by simp)), ?_, ?_, ?_, ForwardsWithStatus.of_emits hs (State.intakeWrite_emits ..) (by simp) (by simp)⟩
  · simp [OnlyTouches]
  · rw [State.finish_windows, State.forward_windows, hwrite]
    simp
    rfl
  · rw [State.finish_intake, State.forward_intake, hwrite]
    simp
  · rw [State.finish_notice_followed, State.forward_notice, hwrite, State.reportPositions_notice, State.reportPositions_notice,
      State.reportPositions_stamp]
    rfl

end Sys2Proof.Machine
end

section
/-! SUPPORT. Every touched record position is settled exactly once (R33, R34). -/

namespace Sys2Proof.Machine

/-! ## One position -/

/-- A transfer writes the position whole. -/
def writtenWhole (bytes : List (Option Byte)) : Bool := bytes.any Option.isSome && bytes.all Option.isSome

/-- A transfer writes the position in part. -/
def writtenInPart (bytes : List (Option Byte)) : Bool := bytes.any Option.isSome && bytes.any Option.isNone

theorem writtenWhole_iff (bytes : List (Option Byte)) : writtenWhole bytes = true ↔ bytes ≠ [] ∧ bytes.all Option.isSome = true := by
  cases bytes with
  | nil => simp [writtenWhole]
  | cons x bytes => cases x <;> simp [writtenWhole]

theorem writtenInPart_iff (bytes : List (Option Byte)) :
    writtenInPart bytes = true ↔ bytes.any Option.isSome = true ∧ bytes.any Option.isNone = true := Bool.and_eq_true_iff

theorem all_isNone_eq (bytes : List (Option Byte)) : (bytes.all fun x => x.isNone) = !bytes.any Option.isSome := by
  simp only [← Option.not_isSome, List.not_any_eq_all_not]

theorem any_isNone_eq (bytes : List (Option Byte)) : bytes.any Option.isNone = !bytes.all Option.isSome := by
  rw [List.not_all_eq_any_not]
  simp

section
variable {t : Settlement} {capacity position : Nat} {bytes : List (Option Byte)} {entry : List Byte → QueueEntry}

/-- A position written whole is taken while the queue has room, and is missed else. -/
theorem Settlement.settle_whole (h : writtenWhole bytes = true) : t.settle capacity position bytes entry =
    if t.queue.length < capacity then { t with queue := t.queue ++ [entry (bytes.filterMap id)] }
    else { t with missed := t.missed ++ [position] } := by
  obtain ⟨hany, hall⟩ := Bool.and_eq_true_iff.1 h
  rw [Settlement.settle, all_isNone_eq, any_isNone_eq, hany, hall]
  rfl

theorem Settlement.settle_torn (h : writtenInPart bytes = true) :
    t.settle capacity position bytes entry = { t with torn := t.torn ++ [position] } := by
  obtain ⟨hany, hnone⟩ := Bool.and_eq_true_iff.1 h
  rw [Settlement.settle, all_isNone_eq, hany, hnone]
  rfl

/-- A position of which no byte is written is not touched. -/
theorem Settlement.settle_untouched (hwhole : ¬writtenWhole bytes = true) (htorn : ¬writtenInPart bytes = true) :
    t.settle capacity position bytes entry = t := by
  have hany : bytes.any Option.isSome = false := by
    rw [writtenInPart, any_isNone_eq] at htorn
    rw [writtenWhole] at hwhole
    revert hwhole htorn
    cases bytes.any Option.isSome <;> cases bytes.all Option.isSome <;> decide
  rw [Settlement.settle, all_isNone_eq, hany]
  rfl

theorem not_writtenInPart_of_whole (h : writtenWhole bytes = true) : ¬writtenInPart bytes = true := by
  obtain ⟨-, hall⟩ := Bool.and_eq_true_iff.1 h
  simp [writtenInPart, any_isNone_eq, hall]

end

/-! ## All positions of a transfer -/

/-- Of the positions written whole, those that find room are taken and the others are missed; those written in part are torn. -/
theorem settle_foldl (capacity : Nat) (bytes : Nat → List (Option Byte)) (entry : List Byte → QueueEntry) (l : List Nat) (t : Settlement) :
    l.foldl (fun t p => t.settle capacity p (bytes p) entry) t =
      { queue := t.queue ++ ((l.filter fun p => writtenWhole (bytes p)).take (capacity - t.queue.length)).map
          fun p => entry ((bytes p).filterMap id)
        torn := t.torn ++ l.filter fun p => writtenInPart (bytes p)
        missed := t.missed ++ (l.filter fun p => writtenWhole (bytes p)).drop (capacity - t.queue.length) } := by
  induction l generalizing t with
  | nil => simp
  | cons p l ih =>
    rw [List.foldl_cons, ih]
    by_cases hwhole : writtenWhole (bytes p) = true
    · rw [Settlement.settle_whole hwhole, List.filter_cons_of_pos (p := fun p => writtenWhole (bytes p)) hwhole,
        List.filter_cons_of_neg (p := fun p => writtenInPart (bytes p)) (not_writtenInPart_of_whole hwhole)]
      by_cases hroom : t.queue.length < capacity
      · obtain ⟨n, hn⟩ : ∃ n, capacity - t.queue.length = n + 1 := ⟨capacity - t.queue.length - 1, by omega⟩
        have hn' : capacity - (t.queue.length + 1) = n := by omega
        simp [hroom, hn, hn']
      · have hfull : capacity - t.queue.length = 0 := by omega
        simp [hroom, hfull]
    · rw [List.filter_cons_of_neg (p := fun p => writtenWhole (bytes p)) hwhole]
      by_cases htorn : writtenInPart (bytes p) = true
      · simp [Settlement.settle_torn htorn, htorn]
      · rw [Settlement.settle_untouched hwhole htorn,
          List.filter_cons_of_neg (p := fun p => writtenInPart (bytes p)) htorn]

theorem reachedPositions_pairwise (off len size : Nat) : (reachedPositions off len size).Pairwise (· < ·) :=
  List.pairwise_lt_range.map _ fun _ _ h => Nat.add_lt_add_right h _

theorem mem_reachedPositions {off len size p : Nat} (h : off / size ≤ p ∧ p ≤ (off + len - 1) / size) :
    p ∈ reachedPositions off len size :=
  List.mem_map.2 ⟨p - off / size, List.mem_range.2 (by omega), by omega⟩

theorem writtenByte_isSome {a x : Nat} {l : List Lane} (h : (writtenByte a l x).isSome = true) : a ≤ x ∧ x < a + l.length := by
  unfold writtenByte at h
  split at h
  · cases h
  · split at h
    · next hlane =>
      obtain ⟨hlt, -⟩ := List.getElem?_eq_some_iff.1 hlane
      omega
    · cases h

/-- Every position of which a byte is written is reached. -/
theorem recordBytes_reached {base size p a : Nat} {l : List Lane} (hsize : 0 < size) (hbase : base ≤ a)
    (h : (recordBytes base size p a l).any Option.isSome = true) : p ∈ reachedPositions (a - base) l.length size := by
  obtain ⟨b, hb, hsome⟩ := List.any_eq_true.1 h
  obtain ⟨j, hj, rfl⟩ := List.mem_map.1 hb
  have hj := List.mem_range.1 hj
  obtain ⟨hlow, hhigh⟩ := writtenByte_isSome hsome
  refine mem_reachedPositions ⟨?_, ?_⟩
  · refine Nat.lt_succ_iff.1 ((Nat.div_lt_iff_lt_mul hsize).2 ?_)
    rw [Nat.succ_mul]
    omega
  · exact (Nat.le_div_iff_mul_le hsize).2 (by omega)

/-- Settles O14: the positions written whole are split where the queue is full. -/
theorem everyTouchedPositionSettledOnce : Obligations.EveryTouchedPositionSettledOnce := by
  intro s i k size capacity a l w r reached bytes whole entry
  have hr : r = _ := settle_foldl capacity bytes (fun b =>
    { bytes := b, arrival := s.time.lt, window := i, crane := if k = .craneUp then w.crane else none, counted := true }) reached _
  have hsorted : reached.Pairwise (· < ·) := reachedPositions_pairwise ..
  generalize hn : capacity - (s.intake.queue k).length = n at hr
  generalize hwholes : (reached.filter fun p => writtenWhole (bytes p)) = wholes at hr
  have hsublist : wholes.Sublist reached := hwholes ▸ List.filter_sublist
  have hmem (p : Nat) : p ∈ wholes ↔ p ∈ reached ∧ whole p := by
    rw [← hwholes, List.mem_filter, writtenWhole_iff]
  have hqueue : r.queue = s.intake.queue k ++ (wholes.take n).map entry := by
    rw [hr, ← hn]
  have hmissed : r.missed = wholes.drop n := by
    rw [hr, ← hn]
    rfl
  have htorn : r.torn = reached.filter fun p => writtenInPart (bytes p) := by
    rw [hr]
    rfl
  refine ⟨hsorted, fun hsize hbase p => recordBytes_reached hsize hbase, ⟨wholes.take n, (List.take_sublist ..).trans hsublist, hqueue,
    fun p => ?_, ?_⟩, ?_, ?_, fun p => ?_, fun hne => ?_, fun hle => ?_⟩
  · rw [hmissed, ← List.mem_append, List.take_append_drop, hmem]
  · rw [hmissed]
    have hpairs := hsorted.sublist hsublist
    rw [← List.take_append_drop n wholes, List.pairwise_append] at hpairs
    exact hpairs.2.2
  · rw [htorn]
    exact List.filter_sublist
  · rw [hmissed]
    exact (List.drop_sublist ..).trans hsublist
  · rw [htorn, List.mem_filter, writtenInPart_iff]
  · rw [hmissed, ne_eq, List.drop_eq_nil_iff, not_le] at hne
    rw [hqueue, List.length_append, List.length_map, List.length_take_of_le hne.le]
    omega
  · rw [hqueue, List.length_append, List.length_map, List.length_take]
    omega

end Sys2Proof.Machine
end

section
/-! SUPPORT. DELETE_WINDOW and DEFINE_WINDOW (R27 to R30). -/

namespace Sys2Proof.Machine

/-! ## The judgement of the ring (R151) -/

section
variable (s : State)

/-- The status block is due after a judgement where it was due before, or where the ring state or a flag differs (R154). -/
def DueByRing (s t : State) : Prop := t.scratch.work = s.scratch.work ∧
  (t.scratch.statusDue = true ↔ s.scratch.statusDue = true ∨ RingDiffers t.notice s.notice)

theorem DueByRing.refl : DueByRing s s := ⟨rfl, by simp [RingDiffers]⟩

theorem State.setRing_dueByRing (r : RingState) : DueByRing s (s.setRing r) :=
  ⟨rfl, by simp [RingDiffers, State.setRing]⟩

theorem State.judgeRing_dueByRing : DueByRing s s.judgeRing := by
  unfold State.judgeRing
  split
  · exact s.setRing_dueByRing .ready
  · have hflag := or_flagBit_eq_self_iff s.notice.flags .ringDefine
    refine ⟨rfl, ?_⟩
    rw [State.setFlag_scratch, State.setFlag_notice]
    simp only [RingDiffers, State.setRing, State.setScratch_notice, State.setNotice_notice, State.setScratch_scratch, Bool.or_eq_true,
      bne_iff_ne, ne_eq, hflag, Bool.not_eq_true', Bool.not_eq_true, or_assoc]

theorem State.rejudgeRing_dueByRing : DueByRing s s.rejudgeRing := by
  unfold State.rejudgeRing
  split
  · exact s.judgeRing_dueByRing
  · exact .refl s

/-- A window command's judgement, as R151 states it on the table. -/
theorem State.rejudgeRing_judgedOn : s.rejudgeRing.notice = RingJudgedOn s.window s.notice := by
  rw [State.rejudgeRing_notice, RingJudgedOn]
  split
  · rw [State.judgeRing_notice]
    refine if_congr ?_ rfl rfl
    rw [State.ringValid_iff]
    simp only [Window.coversRing_iff]
  · rfl

end

/-! ## A removed window (R30, R66) -/

section
variable (s : State) (i : Fin 32)

/-- The state in which the ring is judged for a removed window. -/
def State.unwindowed : State := ((s.dropSlotTable (s.window i)).setIntake (s.intake.uncountFrom i)).setWindow i .cleared

theorem State.removeWindow_eq : s.removeWindow i =
    if (s.window i).kind = some .noticeRing then (s.unwindowed i).rejudgeRing else s.unwindowed i := rfl

theorem State.unwindowed_notice : (s.unwindowed i).notice = s.notice := by simp [State.unwindowed]

theorem State.unwindowed_window : (s.unwindowed i).window = fun j => if j = i then .cleared else s.window j := by
  funext j
  rw [State.unwindowed, State.setWindow_window]
  simp [State.window]

theorem State.removeWindow_notice : (s.removeWindow i).notice = if (s.window i).kind = some .noticeRing then
    RingJudgedOn (fun j => if j = i then Window.cleared else s.window j) s.notice else s.notice := by
  rw [State.removeWindow_eq]
  split
  · rw [State.rejudgeRing_judgedOn, State.unwindowed_notice, State.unwindowed_window]
  · exact s.unwindowed_notice i

theorem State.removeWindow_dueByRing : DueByRing s (s.removeWindow i) := by
  have hsame : (s.unwindowed i).scratch = s.scratch := by simp [State.unwindowed]
  have hnotice := s.unwindowed_notice i
  rw [State.removeWindow_eq]
  split
  · have hdue := (s.unwindowed i).rejudgeRing_dueByRing
    rwa [DueByRing, hsame, hnotice] at hdue
  · rw [DueByRing, hsame, hnotice]
    exact DueByRing.refl s

/-- The slot table goes with the window of its crane, and no other crane is touched (R66). -/
theorem State.removeWindow_craneTable (c : Fin 16) : (s.removeWindow i).crane c =
    if (s.window i).kind = some .craneDown ∧ (s.window i).crane = some c then (s.crane c).withTable none else s.crane c := by
  have hdrop : (s.dropSlotTable (s.window i)).crane c =
      if (s.window i).kind = some .craneDown ∧ (s.window i).crane = some c then (s.crane c).withTable none else s.crane c := by
    unfold State.dropSlotTable
    split
    · next d hkind hcrane =>
      rw [State.setCrane_crane, hkind, hcrane]
      by_cases hc : c = d
      · rw [if_pos hc, if_pos ⟨rfl, congrArg some hc.symm⟩, hc]
        rfl
      · rw [if_neg hc, if_neg fun h => hc (Option.some.inj h.2).symm]
    · next hother =>
      rw [if_neg fun h => hother c h.1 h.2]
  rw [← hdrop, State.removeWindow_eq]
  split <;> simp [State.unwindowed, State.crane]

end

/-! ## DELETE_WINDOW -/

section
variable {s v : State}

theorem State.complete_finish_notice (v : State) (r : ResultCode) : (v.complete r).finish.notice = v.notice.followed := by
  rw [State.finish_notice_followed, State.complete_notice]

theorem State.complete_finish_crane (v : State) (r : ResultCode) (c : Fin 16) : (v.complete r).finish.crane c = v.crane c := by
  simp [State.crane]

/-- A short command whose effect calls for the status block where D holds. -/
theorem reports_of_due {r : ResultCode} {D : Prop} (hr : r ≠ .running) (hcmd : v.cmd = s.taking.cmd) (harb : v.arb = s.arb)
    (hcpb : v.cpb = s.cpb) (hwork : v.scratch.work = .command) (hdue : v.scratch.statusDue = true ↔ D) :
    (D → ReportsWithStatus s (v.complete r).finish r) ∧ (¬D → Reports s (v.complete r).finish r) := by
  refine ⟨fun h => ⟨State.complete_cmd_reported hr hcmd, ?_⟩, fun h => ⟨State.complete_cmd_reported hr hcmd, ?_⟩⟩
  · rw [State.complete_finish_arb hr, if_pos (hdue.2 h), hwork, harb, State.finish_statusBlock, State.complete_statusBlock hr]
    simp [State.pageAddr, hcpb]
  · rw [State.complete_finish_arb hr, if_neg (mt hdue.1 h), hwork, harb]
    simp [State.pageAddr, hcpb]

theorem State.doDeleteWindow_badArgument (h : 31 < s.arg 1) : s.doDeleteWindow = (s, .badArgument) := by
  simp only [State.doDeleteWindow, asIndex_eq_none (n := 32) (show 32 ≤ s.arg 1 from h)]

theorem State.doDeleteWindow_index {i : Fin 32} (hi : i.val = s.arg 1) : s.doDeleteWindow =
    if (s.window i).inUse = false then (s, .notFound)
    else if (s.window i).lock ≠ .openLevel then (s, .locked) else (s.removeWindow i, .done) := by
  simp only [State.doDeleteWindow, ← hi, asIndex_val, Bool.not_eq_true']

end

/-- Settles O16: the effect is the removal of the window. -/
theorem deleteWindowResult : Obligations.DeleteWindowResult := by
  intro s ho
  refine ⟨fun hbad => ⟨_, command_next ho State.doDeleteWindow, Refuses.of_effect ho (by decide)
    (State.doDeleteWindow_badArgument (s := s.taking) hbad)⟩, fun i hi => ⟨_, command_next ho State.doDeleteWindow, ?_⟩⟩
  have heffect := State.doDeleteWindow_index (s := s.taking) hi
  by_cases huse : (s.window i).inUse = false
  · rw [if_pos huse]
    exact Refuses.of_effect ho (by decide) (heffect.trans (if_pos huse))
  by_cases hlock : (s.window i).lock ≠ .openLevel
  · rw [if_neg huse, if_pos hlock]
    exact Refuses.of_effect ho (by decide) (heffect.trans ((if_neg huse).trans (if_pos hlock)))
  rw [if_neg huse, if_neg hlock, heffect.trans ((if_neg huse).trans (if_neg hlock))]
  have hnotice := State.complete_finish_notice (s.taking.removeWindow i) .done
  have hwindow (j : Fin 32) := (State.complete_finish_window (s.taking.removeWindow i) .done j).trans (s.taking.removeWindow_window i j)
  obtain ⟨hfree, -⟩ := id ho
  obtain ⟨hwork, hdue⟩ := s.taking.removeWindow_dueByRing i
  refine ⟨OnlyTouches.complete .done hfree ?_ (by simp) (by simp), hwindow,
    (State.complete_finish_intake ..).trans (s.taking.removeWindow_intake i),
    fun c => ?_, ?_, reports_of_due (r := .done) (by decide) ?_ ?_ ?_ hwork ?_⟩
  · simp [OnlyTouches, State.taking]
  · exact (State.complete_finish_crane ..).trans (s.taking.removeWindow_craneTable i c)
  · rw [hnotice, State.removeWindow_notice, funext hwindow]
    rfl
  · simp
  · simp
  · simp [State.taking]
  · rw [hdue, hnotice]
    simp [RingDiffers, NoticeUnit.followed, EventScratch.idle]

end Sys2Proof.Machine
end

section
/-! SUPPORT. DEFINE_WINDOW (R27 to R29). -/

namespace Sys2Proof.Machine

/-! ## The checks of R27 -/

theorem WindowKind.ofCode_code (k : WindowKind) : WindowKind.ofCode k.code = some k := by
  cases k <;> rfl

theorem WindowKind.code_ofCode {n : Nat} {k : WindowKind} (h : WindowKind.ofCode n = some k) : k.code = n := by
  simpa using List.find?_some h

/-- A code from 1 to 10 names a kind (R22). -/
theorem WindowKind.ofCode_eq_none {n : Nat} (h : n < 1 ∨ 10 < n) : WindowKind.ofCode n = none := by
  refine List.find?_eq_none.2 fun k _ => ?_
  have hrange : 1 ≤ k.code ∧ k.code ≤ 10 := by cases k <;> decide
  simp only [beq_iff_eq]
  omega

theorem WindowKind.exists_code {n : Nat} (h : ¬(n < 1 ∨ 10 < n)) : ∃ k : WindowKind, k.code = n := by
  obtain ⟨hlow, hhigh⟩ : 1 ≤ n ∧ n ≤ 10 := by omega
  interval_cases n
  exacts [⟨.craneDown, rfl⟩, ⟨.craneUp, rfl⟩, ⟨.reeferIn, rfl⟩, ⟨.measureIn, rfl⟩, ⟨.timeIn, rfl⟩, ⟨.noticeRing, rfl⟩,
    ⟨.reeferMirror, rfl⟩, ⟨.gridMirror, rfl⟩, ⟨.craneMirror, rfl⟩, ⟨.guarded, rfl⟩]

theorem WindowKind.code_inj {j k : WindowKind} (h : j.code = k.code) : j = k := by
  have := congrArg WindowKind.ofCode h
  rwa [WindowKind.ofCode_code, WindowKind.ofCode_code, Option.some.injEq] at this

theorem WindowKind.ofCrane_iff (k : WindowKind) : k.ofCrane = true ↔ k.code = 1 ∨ k.code = 2 := by
  cases k <;> decide

theorem WindowKind.mirror_isSome_iff (k : WindowKind) : k.mirror.isSome = true ↔ k.code = 7 ∨ k.code = 8 ∨ k.code = 9 := by
  cases k <;> decide

section
variable {s : State} {i : Fin 32} {k : WindowKind}

/-- The size rule of R22 fails. -/
theorem sizeRule_eq_false_iff (k : WindowKind) (size slotSize ringWord : Nat) : sizeRule k size slotSize ringWord = false ↔
    (k.code = 1 ∧ ¬(slotSize ∈ [256, 512, 1024, 2048] ∧ size % slotSize = 0 ∧ 8 ≤ size / slotSize ∧ size / slotSize ≤ 64)) ∨
      (k.code = 6 ∧ size < 32 * ringWord) ∨ (k.code = 7 ∧ size ≠ 262144) ∨ (k.code = 8 ∧ size ≠ 8192) ∨ (k.code = 9 ∧ size ≠ 4096) := by
  rw [← Bool.not_eq_true]
  cases k with
  | craneDown => simp [sizeRule, WindowKind.code, and_assoc]
  | noticeRing => simp [sizeRule, WindowKind.code]
  | reeferMirror | gridMirror | craneMirror => simp [sizeRule, WindowKind.code]
  | craneUp | reeferIn | measureIn | timeIn | guarded => simp [sizeRule, WindowKind.code]

/-- Check 3 of R27. -/
theorem State.defineArgsBad_iff (s : State) (k : WindowKind) : s.defineArgsBad k = true ↔ DefineArgsBad s k.code := by
  simp only [State.defineArgsBad, Bool.or_eq_true, Bool.and_eq_true, bne_iff_ne, decide_eq_true_eq, WindowKind.ofCrane_iff,
    Bool.not_eq_true', sizeRule_eq_false_iff, DefineArgsBad, State.defineBase, State.defineSize]
  constructor
  · rintro (((((h | h) | h | h) | h) | h) | h)
    · exact .inl h
    · exact .inr (.inl (by omega))
    · exact .inr (.inr (.inl h))
    · exact .inr (.inr (.inr (.inl h)))
    · exact .inr (.inr (.inr (.inr (.inl (of_decide_eq_true h)))))
    · exact .inr (.inr (.inr (.inr (.inr (.inl h)))))
    · exact .inr (.inr (.inr (.inr (.inr (.inr h)))))
  · rintro (h | h | h | h | h | h | h)
    · exact .inl (.inl (.inl (.inl (.inl h))))
    · exact .inl (.inl (.inl (.inl (.inr (by omega)))))
    · exact .inl (.inl (.inl (.inr (.inl h))))
    · exact .inl (.inl (.inl (.inr (.inr h))))
    · exact .inl (.inl (.inr (decide_eq_true h)))
    · exact .inl (.inr h)
    · exact .inr h

theorem rangesMeet_iff (b1 n1 b2 n2 : Nat) : rangesMeet b1 n1 b2 n2 = true ↔ Share b1 n1 b2 n2 := by
  simp [rangesMeet, Share]

theorem State.otherWindow_iff_another (s : State) (i : Fin 32) {p q : Window → Bool} (h : ∀ w, p w = q w) :
    s.otherWindow i p = true ↔ AnotherWindow s i.val q := by
  rw [State.otherWindow_iff, AnotherWindow]
  simp only [h, ne_eq, Fin.ext_iff]

/-- Check 4 of R27. -/
theorem State.overlap_iff (s : State) (i : Fin 32) : (rangesMeet s.defineBase s.defineSize (s.pageAddr 0) 4096 ||
    s.otherWindow i fun w => rangesMeet s.defineBase s.defineSize w.base w.size) = true ↔
      Share s.defineBase s.defineSize (s.pageAddr 0) 4096 ∨ AnotherWindow s i.val fun w =>
        decide (s.defineBase < w.base + w.size ∧ w.base < s.defineBase + s.defineSize) := by
  rw [Bool.or_eq_true, rangesMeet_iff, s.otherWindow_iff_another i fun w => by rw [rangesMeet, ← Bool.decide_and]]

theorem craneArg_val (hargs : ¬DefineArgsBad s k.code) (hcrane : k.ofCrane = true) : (Fin.ofNat 16 (s.arg 7)).val = s.arg 7 := by
  refine Nat.mod_eq_of_lt ?_
  by_contra h
  exact hargs (.inr (.inr (.inr (.inr (.inr (.inl ⟨k.ofCrane_iff.1 hcrane, by omega⟩))))))

/-- The crane that a new definition of a crane kind names (R28). -/
theorem State.definedWindow_crane (hargs : ¬DefineArgsBad s k.code) :
    (s.definedWindow k).crane = if k.ofCrane = true then some (Fin.ofNat 16 (s.arg 7)) else none := by
  simp only [State.definedWindow]
  split
  · next hcrane => rw [← craneArg_val hargs hcrane, asIndex_val, craneArg_val hargs hcrane]
  · rfl

/-- Checks 5 and 6 of R27. -/
def DefineStateBad (s : State) (i : Nat) (k : Nat) : Prop :=
  ((k = 1 ∨ k = 2) ∧ ∃ c : Fin 16, c.val = s.arg 7 ∧ (s.crane c).link = .dormant) ∨
    ((k = 1 ∨ k = 2) ∧ AnotherWindow s i fun w => w.kind.map WindowKind.code == some k && w.crane.map Fin.val == some (s.arg 7)) ∨
    ((k = 7 ∨ k = 8 ∨ k = 9) ∧ AnotherWindow s i fun w => w.kind.map WindowKind.code == some k)

theorem WindowKind.map_code_beq (x : Option WindowKind) (k : WindowKind) :
    (x == some k) = (x.map WindowKind.code == some k.code) := by
  rw [Bool.eq_iff_iff, beq_iff_eq, beq_iff_eq, ← Option.map_some]
  exact ((Option.map_injective fun _ _ => WindowKind.code_inj).eq_iff).symm

theorem Fin.map_val_beq {n : Nat} (x : Option (Fin n)) (c : Fin n) : (x == some c) = (x.map Fin.val == some c.val) := by
  rw [Bool.eq_iff_iff, beq_iff_eq, beq_iff_eq, ← Option.map_some]
  exact ((Option.map_injective Fin.val_injective).eq_iff).symm

/-- Checks 4 to 6 of R27, in order. -/
theorem State.defineConflict_eq (hargs : ¬DefineArgsBad s k.code) :
    ((Share s.defineBase s.defineSize (s.pageAddr 0) 4096 ∨ AnotherWindow s i.val fun w =>
        decide (s.defineBase < w.base + w.size ∧ w.base < s.defineBase + s.defineSize)) → s.defineConflict i k = some .overlap) ∧
    (¬(Share s.defineBase s.defineSize (s.pageAddr 0) 4096 ∨ AnotherWindow s i.val fun w =>
        decide (s.defineBase < w.base + w.size ∧ w.base < s.defineBase + s.defineSize)) →
      (DefineStateBad s i.val k.code → s.defineConflict i k = some .state) ∧
        (¬DefineStateBad s i.val k.code → s.defineConflict i k = none)) := by
  rw [← s.overlap_iff i]
  refine ⟨fun h => by rw [State.defineConflict, if_pos h], fun h => ?_⟩
  rw [State.defineConflict, if_neg h, State.definedWindow_crane hargs]
  by_cases hcrane : k.ofCrane = true
  · have hmirror : ¬(k.code = 7 ∨ k.code = 8 ∨ k.code = 9) := by
      have := k.ofCrane_iff.1 hcrane
      omega
    have hrange := craneArg_val hargs hcrane
    have hstate : DefineStateBad s i.val k.code ↔ (s.crane (Fin.ofNat 16 (s.arg 7))).link = .dormant ∨
        (s.otherWindow i fun w => w.kind == some k && w.crane == some (Fin.ofNat 16 (s.arg 7))) = true := by
      rw [s.otherWindow_iff_another i fun w => by rw [WindowKind.map_code_beq, Fin.map_val_beq, hrange]]
      have hindex : (∃ c : Fin 16, c.val = s.arg 7 ∧ (s.crane c).link = .dormant) ↔ (s.crane (Fin.ofNat 16 (s.arg 7))).link = .dormant :=
        ⟨fun ⟨c, hc, hlink⟩ => (Fin.ext (hrange.trans hc.symm) : Fin.ofNat 16 (s.arg 7) = c) ▸ hlink, fun hlink => ⟨_, hrange, hlink⟩⟩
      rw [DefineStateBad, hindex]
      simp only [k.ofCrane_iff.1 hcrane, hmirror, true_and, false_and, or_false]
    rw [if_pos hcrane, hstate]
    simp only
    split_ifs <;> simp_all
  · have hstate : DefineStateBad s i.val k.code ↔ (k.mirror.isSome && s.otherWindow i fun w => w.kind == some k) = true := by
      rw [Bool.and_eq_true, k.mirror_isSome_iff, s.otherWindow_iff_another i fun w => WindowKind.map_code_beq w.kind k, DefineStateBad]
      simp only [k.ofCrane_iff.symm.trans (iff_false_intro hcrane), false_and, false_or]
    rw [if_neg hcrane, hstate]
    exact ⟨fun h => if_pos h, fun h => if_neg h⟩

theorem lockBad_iff (s : State) (i : Fin 32) : (∃ j : Fin 32, j.val = i.val ∧ (s.window j).inUse = true ∧ (s.window j).lock ≠ .openLevel) ↔
    (s.window i).inUse = true ∧ (s.window i).lock ≠ .openLevel :=
  ⟨fun ⟨j, hj, h⟩ => (Fin.ext hj : j = i) ▸ h, fun h => ⟨i, rfl, h⟩⟩

/-- The result of the first check of R27 that fails. -/
theorem State.defineWindowAt_refused {r : ResultCode} (hrange : ¬(31 < i.val ∨ k.code < 1 ∨ 10 < k.code))
    (h : DefineRefusal s i.val k.code (some r)) : s.defineWindowAt i k = (s, r) := by
  have hlock := lockBad_iff s i
  have hargs := s.defineArgsBad_iff k
  rw [State.defineWindowAt]
  cases r with
  | badArgument =>
    obtain hbad | ⟨h2, h3⟩ := h
    · exact absurd hbad hrange
    · rw [if_neg (mt hlock.2 h2), if_pos (hargs.2 h3)]
  | locked =>
    obtain ⟨-, h2⟩ := h
    rw [if_pos (hlock.1 h2)]
  | overlap =>
    obtain ⟨-, h2, h3, h4⟩ := h
    rw [if_neg (mt hlock.2 h2), if_neg (mt hargs.1 h3), (State.defineConflict_eq h3).1 h4]
  | state =>
    obtain ⟨-, h2, h3, h4, h5⟩ := h
    rw [if_neg (mt hlock.2 h2), if_neg (mt hargs.1 h3), ((State.defineConflict_eq h3).2 h4).1 h5]
  | none | running | done | unknownCommand | notFound | full | busy | aborted => exact h.elim

theorem State.doDefineWindow_index (hi : i.val = s.arg 1) (hk : k.code = s.arg 2) : s.doDefineWindow = s.defineWindowAt i k := by
  simp only [State.doDefineWindow, ← hi, ← hk, asIndex_val, WindowKind.ofCode_code]

/-- DEFINE WINDOW is refused with the result of the first check that fails, and changes nothing. -/
theorem State.doDefineWindow_refused {r : ResultCode} (h : DefineRefusal s (s.arg 1) (s.arg 2) (some r)) :
    s.doDefineWindow = (s, r) := by
  by_cases hrange : 31 < s.arg 1 ∨ s.arg 2 < 1 ∨ 10 < s.arg 2
  · have hr : r = .badArgument := by
      cases r with
      | badArgument => rfl
      | locked | overlap | state => exact absurd hrange h.1
      | none | running | done | unknownCommand | notFound | full | busy | aborted => exact h.elim
    rw [hr, State.doDefineWindow]
    obtain hindex | hcode := hrange
    · rw [asIndex_eq_none (show 32 ≤ s.arg 1 from hindex)]
    · rw [WindowKind.ofCode_eq_none hcode]
      cases asIndex 32 (s.arg 1) <;> rfl
  · obtain ⟨k, hk⟩ := WindowKind.exists_code fun hcode => hrange (.inr hcode)
    have hi : (⟨s.arg 1, by omega⟩ : Fin 32).val = s.arg 1 := rfl
    rw [State.doDefineWindow_index hi hk]
    rw [← hk] at h hrange
    exact State.defineWindowAt_refused hrange h

theorem DefineRefusal.ne_running {r : ResultCode} {a b : Nat} (h : DefineRefusal s a b (some r)) : r ≠ .running := by
  rintro rfl
  exact h

/-- The definition that passes every check, with the effects of R29. -/
theorem State.doDefineWindow_passes (h : DefineRefusal s (s.arg 1) (s.arg 2) none) (hi : i.val = s.arg 1) (hk : k.code = s.arg 2) :
    s.doDefineWindow = (((s.vacated i).setWindow i (s.definedWindow k)).windowEffects (s.definedWindow k),
      if k.mirror.isSome then .running else .done) ∧ ¬DefineArgsBad s k.code := by
  rw [State.doDefineWindow_index hi hk]
  rw [← hi, ← hk] at h
  obtain ⟨-, h2, h3, h4, h5, h6⟩ := h
  refine ⟨?_, h3⟩
  rw [State.defineWindowAt, if_neg (mt (lockBad_iff s i).2 h2), if_neg (mt (s.defineArgsBad_iff k).1 h3),
    ((State.defineConflict_eq h3).2 h4).2 (not_or.2 ⟨h5, h6⟩)]
  rfl

end

/-! ## The effects of R29 -/

section
variable (s : State) (i : Fin 32)

theorem State.vacated_notice : (s.vacated i).notice = if (s.window i).inUse = true ∧ (s.window i).kind = some .noticeRing then
    RingJudgedOn (fun j => if j = i then Window.cleared else s.window j) s.notice else s.notice := by
  rw [State.vacated]
  split
  · next huse => rw [State.removeWindow_notice, huse]; simp
  · next huse => rw [if_neg fun h => huse h.1]

theorem State.vacated_dueByRing : DueByRing s (s.vacated i) := by
  rw [State.vacated]
  split
  · exact s.removeWindow_dueByRing i
  · exact DueByRing.refl s

theorem State.vacated_intake : (s.vacated i).intake = if (s.window i).inUse = true then s.intake.uncountFrom i else s.intake := by
  rw [State.vacated]
  split
  · exact s.removeWindow_intake i
  · rfl

theorem State.vacated_craneTable (c : Fin 16) : (s.vacated i).crane c =
    if (s.window i).inUse = true ∧ (s.window i).kind = some .craneDown ∧ (s.window i).crane = some c then (s.crane c).withTable none
    else s.crane c := by
  rw [State.vacated]
  split
  · next huse => rw [State.removeWindow_craneTable, huse]; simp
  · next huse => rw [if_neg fun h => huse h.1]

theorem State.windowEffects_dueByRing (w : Window) : DueByRing s (s.windowEffects w) := by
  unfold State.windowEffects
  split
  · exact DueByRing.refl s
  · exact s.rejudgeRing_dueByRing
  · split <;> exact DueByRing.refl s
  · exact DueByRing.refl s

end

section
variable {s : State} {i : Fin 32} {k : WindowKind}

/-- The state that the effect of DEFINE WINDOW leaves when it passes every check. -/
def State.redefined (s : State) (i : Fin 32) (k : WindowKind) : State :=
  ((s.vacated i).setWindow i (s.definedWindow k)).windowEffects (s.definedWindow k)

theorem State.redefined_window (s : State) (i : Fin 32) (k : WindowKind) (j : Fin 32) :
    (s.redefined i k).window j = if j = i then s.definedWindow k else s.window j := s.defined_window i _ j

theorem State.redefined_notice (s : State) (i : Fin 32) (k : WindowKind) : (s.redefined i k).notice =
    if k = .noticeRing then RingJudgedOn (s.redefined i k).window (s.vacated i).notice else (s.vacated i).notice := by
  have hwindow : (s.redefined i k).window = ((s.vacated i).setWindow i (s.definedWindow k)).window := by
    funext j
    simp [State.redefined, State.window]
  rw [hwindow, State.redefined, State.windowEffects_notice, State.rejudgeRing_judgedOn]
  exact if_congr Option.some_inj rfl rfl

theorem State.redefined_due (s : State) (i : Fin 32) (k : WindowKind) : (s.redefined i k).scratch.work = s.scratch.work ∧
    ((s.redefined i k).scratch.statusDue = true ↔ s.scratch.statusDue = true ∨ RingDiffers (s.vacated i).notice s.notice ∨
      RingDiffers (s.redefined i k).notice (s.vacated i).notice) := by
  obtain ⟨hwork, hdue⟩ := ((s.vacated i).setWindow i (s.definedWindow k)).windowEffects_dueByRing (s.definedWindow k)
  obtain ⟨hwork', hdue'⟩ := s.vacated_dueByRing i
  refine ⟨hwork.trans hwork', hdue.trans ?_⟩
  rw [← or_assoc, ← hdue']
  rfl

/-- The slot table of the crane that a new CRANE_DOWN window names is set up (R29, R44). -/
theorem State.redefined_crane (hargs : ¬DefineArgsBad s k.code) (i : Fin 32) (c : Fin 16) : (s.redefined i k).crane c =
    if k = .craneDown ∧ c.val = s.arg 7 then (s.crane c).withTable (some (List.replicate (4096 * s.arg 5 / s.arg 6) Slot.setup))
    else if (s.window i).inUse = true ∧ (s.window i).kind = some .craneDown ∧ (s.window i).crane = some c then (s.crane c).withTable none
    else s.crane c := by
  rw [← State.vacated_craneTable]
  have hset : ((s.vacated i).setWindow i (s.definedWindow k)).crane c = (s.vacated i).crane c := rfl
  have hnamed : (s.definedWindow k).kind = some .craneDown ∧ (s.definedWindow k).crane = some c ↔ k = .craneDown ∧ c.val = s.arg 7 := by
    rw [State.definedWindow_crane hargs]
    constructor
    · rintro ⟨hkind, hcrane⟩
      obtain rfl : k = .craneDown := Option.some.inj hkind
      rw [if_pos (by decide)] at hcrane
      exact ⟨rfl, by rw [← Option.some.inj hcrane, craneArg_val hargs rfl]⟩
    · rintro ⟨rfl, hc⟩
      rw [if_pos (by decide)]
      exact ⟨rfl, congrArg some (Fin.ext ((craneArg_val hargs rfl).trans hc.symm))⟩
  obtain ⟨size, hkind, hcrane, hsize, heffect⟩ | ⟨hnot, heffect⟩ :=
    ((s.vacated i).setWindow i (s.definedWindow k)).windowEffects_crane (s.definedWindow k) c
  · have hk := hnamed.1 ⟨hkind, hcrane⟩
    have hsize : size = s.arg 6 := by
      rw [State.definedWindow, if_pos hk.1] at hsize
      exact (Option.some.inj hsize).symm
    rw [if_pos hk, State.redefined, heffect, hset, hsize]
    obtain h | h := s.vacated_crane i c <;> rw [h] <;> rfl
  · rw [if_neg, State.redefined, heffect, hset]
    intro hk
    refine hnot ⟨congrArg some hk.1, (hnamed.2 hk).2, ?_⟩
    rw [State.definedWindow, if_pos hk.1]
    rfl

/-- The end of a command that starts a long operation, whose effect has handed no own write (R163, R164). -/
theorem complete_running {v : State} (hcmd : v.cmd = s.taking.cmd) (harb : v.arb = s.arb) (hcpb : v.cpb = s.cpb)
    (hwork : v.scratch.work = .command) :
    let t := (v.complete .running).finish
    t.cmd = s.cmd.started ∧ t.arb = (s.arb.hand .command ⟨s.pageAddr 0x200, t.statusBlock⟩).hand .command
      ⟨s.pageAddr 0x80, t.cmd.resultRecord⟩ := by
  intro t
  have hcomplete : v.complete .running = (((v.setCmd { v.cmd with state := .long, busy := true }).callStatus.flushStatus).setCmd
      { v.cmd with
        state := .long
        busy := true
        commandReport := ⟨v.cmd.lastTaken, .running⟩
        longReport := ⟨v.cmd.lastTaken, .running⟩ }).writeResult := rfl
  refine ⟨?_, ?_⟩
  · simp [t, hcomplete, hcmd, CommandUnit.started, CommandUnit.reported]
  · have hstatus : t.statusBlock = ((v.setCmd { v.cmd with state := .long, busy := true }).callStatus).statusBlock := by
      rw [State.finish_statusBlock, hcomplete]
      rfl
    rw [hstatus]
    simp [t, hcomplete, State.flushStatus_arb, State.writeResult, State.hand, harb, hwork, State.pageAddr, hcpb]

/-- What a new definition does not touch. -/
theorem State.redefined_frame (s : State) (i : Fin 32) (k : WindowKind) :
    (s.redefined i k).cmd = s.cmd ∧ (s.redefined i k).arb = s.arb ∧ (s.redefined i k).cpb = s.cpb := by
  unfold State.redefined State.vacated
  split <;> simp

theorem State.redefined_mirror (s : State) (i : Fin 32) (k : WindowKind) : (s.redefined i k).mirror = match k with
    | .reeferMirror => { target := some .reefer, position := 0 }
    | .gridMirror => { target := some .grid, position := 0 }
    | .craneMirror => { target := some .crane, position := 0 }
    | _ => s.mirror := by
  have hvacated : (s.vacated i).mirror = s.mirror := by
    unfold State.vacated
    split <;> simp
  rw [State.redefined, State.windowEffects_mirror _ (k := k) rfl, State.setWindow_mirror, hvacated]
  cases k <;> rfl

theorem State.redefined_intake (s : State) (i : Fin 32) (k : WindowKind) : (s.redefined i k).intake = (s.vacated i).intake := by
  simp [State.redefined]

/-- The entry after a definition that passes its checks (R28). -/
theorem State.definedWindow_eq (hargs : ¬DefineArgsBad s k.code) : s.definedWindow k =
    { inUse := true, kind := some k, base := s.arg 3 + 4294967296 * s.arg 4, size := 4096 * s.arg 5,
      slotSize := if k = .craneDown then some (s.arg 6) else none,
      crane := if k = .craneDown ∨ k = .craneUp then some (Fin.ofNat 16 (s.arg 7)) else none,
      writers := BitVec.ofNat 64 (s.arg 8 + 4294967296 * s.arg 9), lock := .openLevel, taken := 0, missed := 0,
      torn := 0, blocked := 0 } := by
  have hkind : k.ofCrane = true ↔ k = .craneDown ∨ k = .craneUp := by cases k <;> decide
  have hcrane := State.definedWindow_crane hargs
  rw [if_congr hkind rfl rfl] at hcrane
  rw [← hcrane]
  rfl

/-- What DEFINE WINDOW leaves beside the Command Unit and the own writes, with any result. -/
theorem redefined_complete (ho : Offered .defineWindow s) (hargs : ¬DefineArgsBad s k.code) (i : Fin 32) (r : ResultCode) :
    let old := s.window i
    let u1 := if old.inUse = true ∧ old.kind = some .noticeRing then
        RingJudgedOn (fun j => if j = i then Window.cleared else s.window j) s.notice else s.notice
    let t := ((s.taking.redefined i k).complete r).finish
    OnlyTouches [.windows, .intake, .cranes, .notice, .mirror, .cmd, .arb] s t ∧
      (∀ j, t.window j = if j = i then s.definedWindow k else s.window j) ∧
      t.intake = (if old.inUse = true then s.intake.uncountFrom i else s.intake) ∧
      (∀ c, t.crane c = if k = .craneDown ∧ c.val = s.arg 7 then
          (s.crane c).withTable (some (List.replicate (4096 * s.arg 5 / s.arg 6) Slot.setup))
        else if old.inUse = true ∧ old.kind = some .craneDown ∧ old.crane = some c then (s.crane c).withTable none else s.crane c) ∧
      t.notice = (if k = .noticeRing then RingJudgedOn t.window u1 else u1).followed ∧
      t.mirror = (s.taking.redefined i k).mirror ∧ ((s.taking.redefined i k).scratch.statusDue = true ↔
        RingDiffers u1 s.notice ∨ RingDiffers t.notice u1) := by
  intro old u1 t
  have hwindow (j : Fin 32) : t.window j = (s.taking.redefined i k).window j := State.complete_finish_window ..
  have hu1 : (s.taking.vacated i).notice = u1 := s.taking.vacated_notice i
  have hnotice : t.notice = (if k = .noticeRing then RingJudgedOn t.window u1 else u1).followed := by
    rw [State.complete_finish_notice, State.redefined_notice, hu1, ← funext hwindow]
  obtain ⟨hfree, -⟩ := ho
  refine ⟨OnlyTouches.complete r hfree ?_ (by simp) (by simp), fun j => (hwindow j).trans (s.taking.redefined_window i k j), ?_, fun c => ?_,
    hnotice, by simp [t], ?_⟩
  · unfold State.redefined State.vacated
    split <;> simp [OnlyTouches, State.taking]
  · rw [State.complete_finish_intake, State.redefined_intake]
    exact s.taking.vacated_intake i
  · rw [State.complete_finish_crane]
    exact State.redefined_crane (s := s.taking) hargs i c
  · obtain ⟨-, hdue⟩ := s.taking.redefined_due i k
    rw [hu1] at hdue
    rw [State.complete_finish_notice]
    simpa [EventScratch.idle, RingDiffers, NoticeUnit.followed] using hdue

/-- Settles O15: the checks of R27 in order, and then the window's new definition with its effects. -/
theorem defineWindowResult : Obligations.DefineWindowResult := by
  refine ⟨fun s r ho hrefuse => ⟨_, command_next ho State.doDefineWindow, Refuses.of_effect ho hrefuse.ne_running
    (State.doDefineWindow_refused (s := s.taking) hrefuse)⟩, fun s i k ho hpass hi hk => ?_⟩
  intro old u1
  obtain ⟨heffect, hbad⟩ := State.doDefineWindow_passes (s := s.taking) hpass hi hk
  have hargs : ¬DefineArgsBad s k.code := hbad
  have hnext := command_next ho State.doDefineWindow
  rw [heffect] at hnext
  obtain ⟨htouches, hwindow, hintake, hcrane, hnotice, hmirror, hdue⟩ :=
    redefined_complete ho hargs i (if k.mirror.isSome then .running else .done)
  obtain ⟨hcmd, harb, hcpb⟩ := s.taking.redefined_frame i k
  obtain ⟨hwork, -⟩ := s.taking.redefined_due i k
  have hkinds : (k = .reeferMirror ∨ k = .gridMirror ∨ k = .craneMirror) ↔ k.mirror.isSome = true := by cases k <;> decide
  have hidle : s.cmd.state = .idle := by
    obtain ⟨-, -, -, -, h | h⟩ := ho
    · exact h
    · exact absurd h (by decide)
  rw [← State.definedWindow_eq hargs]
  refine ⟨_, hnext, htouches, hwindow, hintake, hcrane, hnotice, hmirror.trans (s.taking.redefined_mirror i k), ?_⟩
  by_cases hlong : k.mirror.isSome = true
  · simp only [if_pos hlong] at hdue ⊢
    obtain ⟨hcmd', harb'⟩ := complete_running hcmd harb hcpb hwork
    have hdiffers : ((s.taking.redefined i k).complete .running).finish.cmd.state ≠ s.cmd.state := by
      rw [hcmd', hidle]
      exact (by decide : CommandState.long ≠ CommandState.idle)
    exact ⟨by rw [if_pos (hkinds.2 hlong)]; exact hcmd', fun _ => harb', fun h => absurd (.inr (.inr hdiffers)) h⟩
  · simp only [if_neg hlong] at hdue ⊢
    obtain ⟨hwith, hwithout⟩ := reports_of_due (r := .done) (by decide) hcmd harb hcpb hwork hdue
    have hsame : ((s.taking.redefined i k).complete .done).finish.cmd = s.cmd.reported .done := State.complete_cmd_reported (by decide) hcmd
    have hstate : ¬((s.taking.redefined i k).complete .done).finish.cmd.state ≠ s.cmd.state := by
      rw [hsame]
      exact fun h => h rfl
    refine ⟨by rw [if_neg (mt hkinds.1 hlong)]; exact hsame, fun h => ?_, fun h => ?_⟩
    · exact (hwith (by tauto)).2
    · exact (hwithout (by tauto)).2

end

end Sys2Proof.Machine
end

section
/-! SUPPORT. The commands on crane contexts (R64, R65, R72 to R74). -/

namespace Sys2Proof.Machine

/-! ## The crane mirror record (R89) -/

/-- What the mirror record of crane i adds to the own writes, where no uplink record of the crane is being handled. -/
theorem State.writeCraneMirror_arb {s : State} {i : Fin 16} (h : s.scratch.deferred ≠ some i) :
    (s.writeCraneMirror i).arb = WithCraneMirror s.scratch.work s.arb s i := by
  rw [State.writeCraneMirror, if_neg h, State.handMirror, WithCraneMirror]
  rfl

theorem WithCraneMirror.congr {k : Work} {arb : Arbiter} {t u : State} {i : Fin 16}
    (hbase : t.mirrorBase .craneMirror = u.mirrorBase .craneMirror) (hcrane : t.crane i = u.crane i) :
    WithCraneMirror k arb t i = WithCraneMirror k arb u i := by
  rw [WithCraneMirror, WithCraneMirror, hbase, hcrane]

section
variable {k : Command} {s : State} {f : State → State × ResultCode} {i : Fin 16} {c : Crane}

/-- A command that gives crane i a context and writes its mirror record. -/
theorem setCraneMirror_done (ho : Offered k s) (hf : f s.taking = ((s.taking.setCrane i c).writeCraneMirror i, .done)) :
    let t := ((f s.taking).1.complete (f s.taking).2).finish
    OnlyTouches [.cranes, .cmd, .arb] s t ∧ ReportsWithCraneMirror s t i .done ∧ t.cranes = upd s.cranes i c := by
  rw [hf]
  obtain ⟨hfree, -⟩ := ho
  have hscratch : (s.taking.setCrane i c).scratch.deferred ≠ some i := by simp [EventScratch.idle]
  have hmirror := State.writeCraneMirror_arb hscratch
  have hquiet : ((s.taking.setCrane i c).writeCraneMirror i).scratch = s.taking.scratch := by
    rw [State.writeCraneMirror, if_neg hscratch]
    rfl
  refine ⟨OnlyTouches.complete .done hfree ?_ (by simp) (by simp), ⟨State.complete_cmd_reported (r := .done) (by decide) (by simp), ?_⟩, ?_⟩
  · simp [OnlyTouches, State.taking]
  · rw [State.complete_arb_of_quiet (s := s) (r := .done) (by decide) (by rw [hquiet]; rfl) (by rw [hquiet]; rfl) (by simp [State.taking]),
      hmirror, State.complete_finish_crane, WithCraneMirror, State.mirrorBase_congr (s := s) (by simp [State.taking])]
    have hcrane : ((s.taking.setCrane i c).writeCraneMirror i).crane i = (s.taking.setCrane i c).crane i := by simp [State.crane]
    rw [hcrane]
    cases s.mirrorBase .craneMirror <;> rfl
  · simp [State.taking]

/-- A command that gives crane i a context alone. -/
theorem setCrane_complete_done (ho : Offered k s) (hf : f s.taking = (s.taking.setCrane i c, .done)) :
    let t := ((f s.taking).1.complete (f s.taking).2).finish
    OnlyTouches [.cranes, .cmd, .arb] s t ∧ Reports s t .done ∧ t.cranes = upd s.cranes i c := by
  rw [hf]
  obtain ⟨hfree, -⟩ := ho
  refine ⟨OnlyTouches.complete .done hfree ?_ (by simp) (by simp), Reports.of_complete (r := .done) (by decide) rfl rfl rfl rfl, ?_⟩
  · simp [OnlyTouches, State.taking]
  · simp [State.taking]

end

/-! ## The checks -/

section
variable (s : State) (i : Fin 16)

theorem State.craneArgs_inRange_iff : s.craneArgs.inRange = true ↔ CraneArgsGood s := by
  simp only [CraneParams.inRange, Bool.and_eq_true, decide_eq_true_eq]
  simp only [State.craneArgs, CraneArgsGood]
  split_ifs <;> omega

theorem State.craneIdTaken_iff : s.craneIdTaken i (s.arg 2) = true ↔ CraneIdTaken s i := by
  simp [State.craneIdTaken, CraneIdTaken, and_assoc]

theorem State.craneHasWindow_iff : s.craneHasWindow i = true ↔ CraneNamed s i := by
  simp [State.craneHasWindow, CraneNamed, toList_eq_map_get, State.window, and_assoc]

end

section
variable {s : State} {i : Fin 16}

theorem State.craneArg_val (hi : i.val = s.arg 1) : s.craneArg = some i := by
  rw [State.craneArg, ← hi, asIndex_val]

theorem State.craneArg_none (h : 15 < s.arg 1) : s.craneArg = none := asIndex_eq_none (n := 16) h

/-- ATTACH CRANE by its checks in order (R72). -/
theorem State.doAttachCrane_eq (hi : i.val = s.arg 1) : s.doAttachCrane =
    if (s.crane i).link ≠ .dormant then (s, .state)
    else if !s.craneArgs.inRange then (s, .badArgument)
    else if s.craneIdTaken i (s.arg 2) then (s, .overlap)
    else ((s.setCrane i { Crane.cleared with link := .lost, params := CraneParamsOf s }).writeCraneMirror i, .done) := by
  simp only [State.doAttachCrane, State.craneArg_val hi]
  rfl

/-- SET CRANE PARAMETERS by its checks in order (R73). -/
theorem State.doSetCraneParameters_eq (hi : i.val = s.arg 1) : s.doSetCraneParameters =
    if (s.crane i).link = .dormant then (s, .state)
    else if !s.craneArgs.inRange then (s, .badArgument)
    else if s.craneIdTaken i (s.arg 2) then (s, .overlap)
    else (s.setCrane i { s.crane i with params := CraneParamsOf s }, .done) := by
  simp only [State.doSetCraneParameters, State.craneArg_val hi]
  rfl

end

/-! ## The five commands -/

/-- Settles O27, command by command: each check by its rule. -/
theorem craneParameterCommands : Obligations.CraneParameterCommands := by
  refine ⟨fun s ho => ⟨fun hbad => ⟨_, command_next ho State.doAttachCrane, ?_⟩, fun i hi => ⟨_, command_next ho State.doAttachCrane, ?_⟩⟩,
    fun s ho => ⟨fun hbad => ⟨_, command_next ho State.doSetCraneParameters, ?_⟩,
      fun i hi => ⟨_, command_next ho State.doSetCraneParameters, ?_⟩⟩⟩
  · exact Refuses.of_effect ho (by decide) (by simp only [State.doAttachCrane, State.craneArg_none (s := s.taking) hbad])
  · have heffect : s.taking.doAttachCrane = if (s.crane i).link ≠ .dormant then (s.taking, .state)
        else if !s.taking.craneArgs.inRange then (s.taking, .badArgument)
        else if s.taking.craneIdTaken i (s.taking.arg 2) then (s.taking, .overlap)
        else ((s.taking.setCrane i { Crane.cleared with link := .lost, params := CraneParamsOf s }).writeCraneMirror i, .done) :=
      State.doAttachCrane_eq hi
    have hrange : (!s.taking.craneArgs.inRange) = true ↔ ¬CraneArgsGood s := by
      rw [← s.craneArgs_inRange_iff, Bool.not_eq_true', Bool.not_eq_true]
      rfl
    have htaken : s.taking.craneIdTaken i (s.taking.arg 2) = true ↔ CraneIdTaken s i := s.craneIdTaken_iff i
    refine ⟨fun hlink => ?_, fun hlink hargs => ?_, fun hlink hargs hid => ?_, fun hlink hargs hid => ?_⟩
    · exact Refuses.of_effect ho (by decide) (heffect.trans (if_pos hlink))
    · rw [if_neg (not_not.2 hlink), if_pos (hrange.2 hargs)] at heffect
      exact Refuses.of_effect ho (by decide) heffect
    · rw [if_neg (not_not.2 hlink), if_neg (mt hrange.1 (not_not.2 hargs)), if_pos (htaken.2 hid)] at heffect
      exact Refuses.of_effect ho (by decide) heffect
    · rw [if_neg (not_not.2 hlink), if_neg (mt hrange.1 (not_not.2 hargs)), if_neg (mt htaken.1 hid)] at heffect
      exact setCraneMirror_done ho heffect
  · exact Refuses.of_effect ho (by decide) (by simp only [State.doSetCraneParameters, State.craneArg_none (s := s.taking) hbad])
  · have heffect : s.taking.doSetCraneParameters = if (s.crane i).link = .dormant then (s.taking, .state)
        else if !s.taking.craneArgs.inRange then (s.taking, .badArgument)
        else if s.taking.craneIdTaken i (s.taking.arg 2) then (s.taking, .overlap)
        else (s.taking.setCrane i { s.crane i with params := CraneParamsOf s }, .done) := State.doSetCraneParameters_eq hi
    have hrange : (!s.taking.craneArgs.inRange) = true ↔ ¬CraneArgsGood s := by
      rw [← s.craneArgs_inRange_iff, Bool.not_eq_true', Bool.not_eq_true]
      rfl
    have htaken : s.taking.craneIdTaken i (s.taking.arg 2) = true ↔ CraneIdTaken s i := s.craneIdTaken_iff i
    refine ⟨fun hlink => ?_, fun hlink hargs => ?_, fun hlink hargs hid => ?_, fun hlink hargs hid => ?_⟩
    · exact Refuses.of_effect ho (by decide) (heffect.trans (if_pos hlink))
    · rw [if_neg hlink, if_pos (hrange.2 hargs)] at heffect
      exact Refuses.of_effect ho (by decide) heffect
    · rw [if_neg hlink, if_neg (mt hrange.1 (not_not.2 hargs)), if_pos (htaken.2 hid)] at heffect
      exact Refuses.of_effect ho (by decide) heffect
    · rw [if_neg hlink, if_neg (mt hrange.1 (not_not.2 hargs)), if_neg (mt htaken.1 hid)] at heffect
      exact setCrane_complete_done ho heffect

/-- HOLD CRANE and RELEASE CRANE, by what becomes of the flag. -/
theorem holdCommand_next {s : State} {flag : Bool} (ho : Offered (if flag then .holdCrane else .releaseCrane) s) :
    exec (if flag then .holdCrane else .releaseCrane) s =
      .next (((s.taking.setHold flag).1.complete (s.taking.setHold flag).2).finish) := by
  cases flag with
  | true => exact command_next ho (State.setHold · true)
  | false => exact command_next ho (State.setHold · false)

/-- Settles O28, command by command: each check by its rule. -/
theorem detachHoldRelease : Obligations.DetachHoldRelease := by
  refine ⟨fun s ho => ⟨fun hbad => ⟨_, command_next ho State.doDetachCrane, ?_⟩, fun i hi => ⟨_, command_next ho State.doDetachCrane, ?_⟩⟩,
    fun s flag ho => ⟨fun hbad => ⟨_, holdCommand_next ho, ?_⟩, fun i hi => ⟨_, holdCommand_next ho, ?_⟩⟩⟩
  · exact Refuses.of_effect ho (by decide) (by simp only [State.doDetachCrane, State.craneArg_none (s := s.taking) hbad])
  · have heffect : s.taking.doDetachCrane = if (s.crane i).link = .dormant then (s.taking, .state)
        else if s.taking.craneHasWindow i then (s.taking, .state) else ((s.taking.setCrane i .cleared).writeCraneMirror i, .done) := by
      simp only [State.doDetachCrane, State.craneArg_val (s := s.taking) hi]
      rfl
    have hnamed : s.taking.craneHasWindow i = true ↔ CraneNamed s i := s.craneHasWindow_iff i
    refine ⟨fun hbad => Refuses.of_effect ho (by decide) ?_, fun hlink hname => setCraneMirror_done ho ?_⟩
    · by_cases hlink : (s.crane i).link = .dormant
      · rw [heffect, if_pos hlink]
      · rw [heffect, if_neg hlink, if_pos (hnamed.2 (hbad.resolve_left hlink))]
    · rw [heffect, if_neg hlink, if_neg (mt hnamed.1 hname)]
  · exact Refuses.of_effect (f := (State.setHold · flag)) ho (by decide)
      (by simp only [State.setHold, State.craneArg_none (s := s.taking) hbad])
  · have heffect : s.taking.setHold flag = if (s.crane i).link = .dormant then (s.taking, .state)
        else if (s.crane i).holdFlag = flag then (s.taking, .done)
        else ((s.taking.setCrane i { s.crane i with holdFlag := flag }).writeCraneMirror i, .done) := by
      simp only [State.setHold, State.craneArg_val (s := s.taking) hi]
      rfl
    refine ⟨fun hlink => ?_, fun hlink hflag => ?_, fun hlink hflag => ?_⟩
    · exact Refuses.of_effect (f := (State.setHold · flag)) ho (by decide) (heffect.trans (if_pos hlink))
    · rw [if_neg hlink, if_pos hflag] at heffect
      exact Refuses.of_effect (f := (State.setHold · flag)) ho (by decide) heffect
    · rw [if_neg hlink, if_neg hflag] at heffect
      exact setCraneMirror_done (f := (State.setHold · flag)) ho heffect

end Sys2Proof.Machine
end

section
/-! SUPPORT. The expiries (R13, R56, R83). -/

namespace Sys2Proof.Machine

theorem State.finish_arb_of_due {v : State} (h : v.scratch.statusDue = true) :
    v.finish.arb = v.arb.hand v.scratch.work ⟨v.pageAddr 0x200, v.finish.statusBlock⟩ := by
  simp [State.flushStatus_arb, h]

/-- An event of no work that comes about. -/
theorem Free.event_other {s : State} {enabled : Bool} {f : State → State} (hs : Free .other s) (he : enabled = true) :
    event .other s enabled f = .next (f s).finish := by
  have hidle : s.beginEvent .other = s := hs.setScratch_idle
  obtain ⟨hreset, -, hheld⟩ := hs
  rw [event_next hreset he hheld, hidle]

section
variable {s : State} {i : Fin 16}

theorem holdoverExpiry_next {a : Nat} (hs : Free .other s) (hrun : s.time.run = .running) (hsync : s.time.sync = .synced)
    (hlast : s.time.lastSuccess = some a) (hpassed : a + 8 * (1000 * s.time.interval) < s.time.lt) :
    exec .holdoverExpiry s = .next ((((s.setTime { s.time with sync := .holdover }).callStatus).setFlag .timeLost).raise .timeLost 0
      (word s.time.interval) (word a) (word 0)).finish := by
  simp only [exec, execHoldoverExpiry]
  rw [hs.event_other (by simp [TimeBase.holdoverPassed, hrun, hsync, hlast]; omega)]
  simp [hlast]

theorem heartbeatExpiry_next {x : Nat} (hs : Free .other s) (hlink : (s.crane i).link ≠ .dormant) (hbeat : (s.crane i).heartbeat = some x)
    (hpassed : x < s.time.lt) : exec (.heartbeatExpiry i) s = .next (s.expireHeartbeat i).finish := by
  simp only [exec, execHeartbeatExpiry]
  exact hs.event_other (by simp [State.heartbeatPassed, hlink, hbeat, hpassed])

theorem slotExpiry_next {n : Nat} {rest : List Nat} (hs : Free .other s) (hlist : (s.crane i).pendingSlots = n :: rest)
    (hstate : ((s.crane i).slot n).state = .pending) (hpassed : ((s.crane i).slot n).deadline < s.time.lt) :
    exec (.slotExpiry i) s = .next (s.expireSlot i n).finish := by
  have hhead : s.passedHead i = some n := by simp [State.passedHead, hlist, hstate, hpassed]
  simp only [exec, execSlotExpiry]
  rw [hs.event_other (by simp [hhead]), hhead]

/-- The expiry of a LOST crane's timer. -/
theorem State.expireHeartbeat_of_lost (h : (s.crane i).link = .lost) : s.expireHeartbeat i =
    s.setCrane i { s.crane i with link := .lost, heartbeat := none, expected := none, goodCount := 0 } := by
  rw [State.expireHeartbeat, if_neg (by rw [h]; decide), ← h]

/-- The expiry of the timer of a LINKED or DEGRADED crane (R83, R84). -/
theorem State.expireHeartbeat_of_heard (h : (s.crane i).link = .linked ∨ (s.crane i).link = .degraded) :
    ∃ w, (∀ a, (s.crane i).prevArrival = some a → w = word a) ∧ s.expireHeartbeat i =
      ((s.setCrane i { s.crane i with link := .lost, heartbeat := none, expected := none, goodCount := 0 }).raise .linkLost i.val
        (word (s.crane i).link.code) w (word (s.crane i).params.heartbeat)).writeCraneMirror i := by
  refine ⟨_, fun a ha => ?_, if_pos h⟩
  rw [ha]

end

theorem heard_or_lost {c : Crane} (h : c.link ≠ .dormant) : c.link = .lost ∨ c.link = .linked ∨ c.link = .degraded := by
  cases hlink : c.link with
  | dormant => exact absurd hlink h
  | lost => exact .inl rfl
  | linked => exact .inr (.inl rfl)
  | degraded => exact .inr (.inr rfl)

/-- Settles O34, expiry by expiry. -/
theorem expiries : Obligations.Expiries := by
  refine ⟨fun s a hreset hset hrun hsync hlast hpassed => ?holdover, fun s i x hreset hset hlink hbeat hpassed => ?heartbeat,
    fun s i n rest hreset hset hlist hstate hpassed => ?slot⟩
  case holdover =>
    have hs := Free.of_settled hreset hset
    refine ⟨_, holdoverExpiry_next hs hrun hsync hlast hpassed, OnlyTouches.finish hs ?_ (.inl (by simp)), by simp, ?_, ?_⟩
    · simp [OnlyTouches]
    · rw [State.finish_notice_followed]
      rfl
    · obtain ⟨hwork, hdue⟩ := State.raise_keeps_due (s := ((s.setTime { s.time with sync := .holdover }).callStatus).setFlag .timeLost)
        (k := .timeLost) (n := 0) (v1 := word s.time.interval) (v2 := word a) (v3 := word 0) rfl
      rw [State.finish_arb_of_due hdue, hwork]
      simp [State.setFlag_scratch, hs.scratch_idle, EventScratch.idle, State.pageAddr]
  case heartbeat =>
    have hs := Free.of_settled hreset hset
    refine ⟨_, heartbeatExpiry_next hs hlink hbeat hpassed, OnlyTouches.finish hs ?_ (.inl (by simp)), ?_, fun hlost => ?_, fun hheard => ?_⟩
    · simp [OnlyTouches]
    · obtain hlost | hheard := heard_or_lost hlink
      · rw [State.expireHeartbeat_of_lost hlost]
        simp
      · obtain ⟨w, -, heffect⟩ := State.expireHeartbeat_of_heard hheard
        rw [heffect]
        simp
    · rw [State.expireHeartbeat_of_lost hlost]
      exact ⟨hs.finish_notice rfl, State.finish_arb_of_quiet (by simp [hs.scratch_idle, EventScratch.idle])⟩
    · have hheard := (heard_or_lost hlink).resolve_left hheard
      obtain ⟨w, hw, heffect⟩ := State.expireHeartbeat_of_heard hheard
      have hstatus := ThenStatusIfFlagged.of_emits (k := .other) (s := s) (s.expireHeartbeat_emits i) (by rw [hs.scratch_idle]; rfl)
        (by rw [hs.scratch_idle]; rfl) rfl (by simp)
      have harb : (s.expireHeartbeat i).arb = WithCraneMirror .other s.arb (s.expireHeartbeat i).finish i := by
        rw [heffect, State.writeCraneMirror_arb (by simp [State.raise_scratch, hs.scratch_idle, EventScratch.idle]),
          (State.raise_emits ..).work]
        have hwork : (s.setCrane i { s.crane i with link := .lost, heartbeat := none, expected := none, goodCount := 0 }).scratch.work =
            .other := by simp [hs.scratch_idle, EventScratch.idle]
        rw [hwork]
        exact WithCraneMirror.congr (State.mirrorBase_congr (by simp) _) (by simp [State.crane])
      rw [harb] at hstatus
      refine ⟨hstatus, w, hw, ?_⟩
      rw [State.finish_notice_followed, heffect, State.writeCraneMirror_notice, State.raise_notice]
      obtain hlinked | hdegraded := hheard
      · rw [hlinked]
        rfl
      · rw [hdegraded]
        rfl
  case slot =>
    have hs := Free.of_settled hreset hset
    refine ⟨_, slotExpiry_next hs hlist hstate hpassed, OnlyTouches.finish hs ?_ (.inl (by simp)), ?_, ?_, ?_⟩
    · simp [OnlyTouches]
    · simp [State.expireSlot, Crane.dropPending, Crane.setSlot, hlist, satAdd, counterMax]
    · rw [State.finish_notice_followed]
      rfl
    · exact StatusIfFlagged.of_emits (State.expireSlot_emits ..) (by rw [hs.scratch_idle]; rfl) (by rw [hs.scratch_idle]; rfl) rfl
        (by simp) (by simp)

end Sys2Proof.Machine
end

section
/-! SUPPORT. The posting of notices (R152) and the long operations (R107, R164, R166). -/

namespace Sys2Proof.Machine

/-! ## NOTICE_POST -/

theorem noticePost_next {s : State} {n : Notice} {rest : List Notice} (hs : Free .noticePost s) (hready : s.notice.ring = .ready)
    (hqueue : s.notice.queue = n :: rest) (hroom : (s.notice.producer - s.notice.consumer).toNat < s.notice.defLength) :
    exec .noticePost s = .next (((((s.beginEvent .noticePost).setNotice { s.notice with queue := rest }).hand s.notice.slotAddr
      (n.record s.notice.producer.toNat)).setNotice { s.notice with queue := rest, producer := s.notice.producer + 1 }).callStatus).finish := by
  obtain ⟨hreset, -, hheld⟩ := hs
  simp only [exec, execNoticePost]
  have hpost : s.notice.canPost = true := by
    rw [NoticeUnit.canPost, hready, hqueue, decide_eq_true hroom]
    rfl
  rw [event_next hreset hpost hheld]
  simp only [State.beginEvent_notice, hqueue]
  rfl

/-- Settles O49: the record and then the status block are handed. -/
theorem noticePosted : Obligations.NoticePosted := by
  intro s n rest hs hready hqueue hroom
  refine ⟨_, noticePost_next hs hready hqueue hroom, OnlyTouches.finish hs ?_ (.inl (by simp)), ?_, ?_⟩
  · simp [OnlyTouches]
  · rw [State.finish_notice_followed]
    rfl
  · rw [State.finish_arb_of_due rfl]
    rfl

/-! ## The taking of a long operation -/

section
variable {s v : State} {f : State → State × ResultCode}

/-- A command whose effect starts a long operation and hands no own write (R163, R164). -/
theorem running_next (hf : f s.taking = (v, .running)) (hcmd : v.cmd = s.taking.cmd) (harb : v.arb = s.arb)
    (hcpb : v.cpb = s.cpb) (hwork : v.scratch.work = .command) :
    let t := ((f s.taking).1.complete (f s.taking).2).finish
    t = (v.complete .running).finish ∧ t.cmd = s.cmd.started ∧
      t.arb = (s.arb.hand .command ⟨s.pageAddr 0x200, t.statusBlock⟩).hand .command ⟨s.pageAddr 0x80, t.cmd.resultRecord⟩ := by
  rw [hf]
  exact ⟨rfl, complete_running hcmd harb hcpb hwork⟩

end

section
variable {s : State}

/-- A mirror is written while a window of its kind is in use (R29). -/
theorem State.mirrorBase_isSome_iff (s : State) (k : WindowKind) :
    (s.mirrorBase k).isSome = true ↔ ∃ w, (s.window w).inUse = true ∧ (s.window w).kind = some k := by
  rw [State.mirrorBase, Option.isSome_map, List.find?_isSome]
  simp [toList_eq_map_get, State.window]

/-- The mirror and window kinds that go together (R29). -/
def MirrorsBy (m : MirrorKind) (k : WindowKind) : Prop :=
  (m = .reefer ∧ k = .reeferMirror) ∨ (m = .grid ∧ k = .gridMirror) ∨ (m = .crane ∧ k = .craneMirror)

theorem mirrorArg_of_code {m : MirrorKind} {k : WindowKind} (h : MirrorsBy m k) : mirrorArg k.code = some (m, k) := by
  obtain ⟨rfl, rfl⟩ | ⟨rfl, rfl⟩ | ⟨rfl, rfl⟩ := h <;> rfl

theorem mirrorArg_eq_none {n : Nat} (h7 : n ≠ 7) (h8 : n ≠ 8) (h9 : n ≠ 9) : mirrorArg n = none := by
  unfold mirrorArg
  split <;> simp_all

theorem refreshMirror_taken (ho : Offered .refreshMirror s) {m : MirrorKind} {k : WindowKind} (hm : MirrorsBy m k) (hk : k.code = s.arg 1) :
    let t := ((s.taking.doRefreshMirror).1.complete (s.taking.doRefreshMirror).2).finish
    ((s.mirrorBase k).isSome = false → Refuses s t .notFound) ∧
      ((s.mirrorBase k).isSome = true → OnlyTouches [.mirror, .cmd, .arb] s t ∧ t.mirror = { target := some m, position := 0 } ∧
        t.cmd = s.cmd.started ∧ t.arb = (s.arb.hand .command ⟨s.pageAddr 0x200, t.statusBlock⟩).hand .command
          ⟨s.pageAddr 0x80, t.cmd.resultRecord⟩) := by
  have heffect : s.taking.doRefreshMirror = if (s.mirrorBase k).isSome = true then
      (s.taking.setMirror { target := some m, position := 0 }, .running) else (s.taking, .notFound) := by
    simp only [State.doRefreshMirror, State.taking_arg, ← hk, mirrorArg_of_code hm]
    rfl
  refine ⟨fun h => Refuses.of_effect ho (by decide) (heffect.trans (if_neg (by simp [h]))), fun h => ?_⟩
  rw [if_pos h] at heffect
  obtain ⟨heq, hcmd, harb⟩ := running_next (f := State.doRefreshMirror) heffect rfl rfl rfl rfl
  obtain ⟨hfree, -⟩ := ho
  refine ⟨?_, by rw [heq]; simp, hcmd, harb⟩
  rw [heq]
  refine OnlyTouches.complete .running hfree ?_ (by simp) (by simp)
  simp [OnlyTouches, State.taking]

theorem clearGrid_taken (ho : Offered .clearGrid s) :
    let t := ((s.taking.doClearGrid).1.complete (s.taking.doClearGrid).2).finish
    OnlyTouches [.grid, .cmd, .arb] s t ∧ t.grid = { s.grid with clearing := true, clearPosition := 0 } ∧ t.cmd = s.cmd.started ∧
      t.arb = (s.arb.hand .command ⟨s.pageAddr 0x200, t.statusBlock⟩).hand .command ⟨s.pageAddr 0x80, t.cmd.resultRecord⟩ := by
  obtain ⟨heq, hcmd, harb⟩ := running_next (f := State.doClearGrid) (s := s) rfl rfl rfl rfl rfl
  obtain ⟨hfree, -⟩ := ho
  refine ⟨?_, by rw [heq]; simp, hcmd, harb⟩
  rw [heq]
  refine OnlyTouches.complete .running hfree ?_ (by simp) (by simp)
  simp [OnlyTouches, State.taking]

/-! ## A visit of a refresh -/

theorem refreshVisit_next {k : MirrorKind} (hs : Free .longOperation s) (htarget : s.mirror.target = some k)
    (hleft : s.mirror.position < k.records) : exec .refreshVisit s = .next
      (((s.beginEvent .longOperation).refreshRecord k s.mirror.position).setMirror { s.mirror with position := s.mirror.position + 1 }).finish := by
  obtain ⟨hreset, -, hheld⟩ := hs
  simp only [exec, execRefreshVisit]
  rw [event_next hreset (by simp [State.refreshLeft, htarget, hleft]) hheld]
  simp only [State.beginEvent_mirror, htarget]

/-- The record that a visit writes, from the table as it stands (R166). -/
theorem refreshRecord_arb (s : State) (k : MirrorKind) (n : Nat) :
    RefreshWrite s k n ((s.beginEvent .longOperation).refreshRecord k n).arb := by
  cases k with
  | reefer =>
    rintro i rfl
    simp only [State.refreshRecord, asIndex_val]
    rw [State.writeReeferMirror_arb]
    rfl
  | grid =>
    rintro q rfl
    simp only [State.refreshRecord, asIndex_val]
    rw [State.writeGridMirror_arb]
    rfl
  | crane =>
    rintro i rfl
    simp only [State.refreshRecord, asIndex_val]
    rw [State.writeCraneMirror_arb (by simp [EventScratch.idle])]
    rfl

theorem refreshRecord_quiet (s : State) (k : MirrorKind) (n : Nat) :
    ((s.beginEvent .longOperation).refreshRecord k n).scratch.statusDue = false := by
  cases k with
  | reefer | grid =>
    simp only [State.refreshRecord]
    split <;> simp [EventScratch.idle]
  | crane =>
    simp only [State.refreshRecord]
    split
    · simp [EventScratch.idle, State.writeCraneMirror]
    · simp [EventScratch.idle]

/-! ## The end of a long operation -/

theorem State.longFinished_of (h : (s.grid.clearing = true ∧ s.grid.clearPosition = 512) ∨
    (s.mirror.target = some .reefer ∧ s.mirror.position = 4096) ∨ (s.mirror.target = some .grid ∧ s.mirror.position = 512) ∨
      (s.mirror.target = some .crane ∧ s.mirror.position = 16)) : s.longFinished = true := by
  obtain ⟨h1, h2⟩ | ⟨h1, h2⟩ | ⟨h1, h2⟩ | ⟨h1, h2⟩ := h <;> simp [State.longFinished, h1, h2, MirrorKind.records]

theorem longOperationEnd_next (hs : Free .longOperation s) (hlong : s.cmd.state = .long) (hdone : s.longFinished = true) :
    exec .longOperationEnd s = .next (((((s.beginEvent .command).stopOperation.closeLong .done).flushStatus).writeResult).finish) := by
  obtain ⟨hreset, -, hheld⟩ := hs
  simp only [exec, execLongOperationEnd]
  rw [event_next hreset (by simp [hlong, hdone]) hheld]
  rfl

end

/-- Settles O54: the takings, a visit and the end. -/
theorem longOperations : Obligations.LongOperations := by
  refine ⟨fun s ho => ⟨_, command_next ho State.doRefreshMirror, fun h7 h8 h9 => ?_, fun m k hm hk => ?_⟩,
    fun s ho => ⟨_, command_next ho State.doClearGrid, clearGrid_taken ho⟩,
    fun s k hs htarget hleft => ⟨_, refreshVisit_next hs htarget (by cases k <;> exact hleft), ?_, ?_, ?_⟩,
    fun s hs hlong hdone => ⟨_, longOperationEnd_next hs hlong (State.longFinished_of hdone), ?_, ?_, ?_, ?_, ?_⟩⟩
  · refine Refuses.of_effect ho (by decide) ?_
    simp only [State.doRefreshMirror, State.taking_arg, mirrorArg_eq_none h7 h8 h9]
  · obtain ⟨hmissing, hthere⟩ := refreshMirror_taken ho hm hk
    have hsome := s.mirrorBase_isSome_iff k
    refine ⟨fun hnone => hmissing ?_, fun w huse hkind => hthere (hsome.2 ⟨w, huse, hkind⟩)⟩
    rw [← Bool.not_eq_true, hsome]
    rintro ⟨w, huse, hkind⟩
    exact hnone w huse hkind
  · refine OnlyTouches.finish hs ?_ (.inl (by simp))
    simp [OnlyTouches]
  · simp [htarget]
  · rw [State.finish_arb_of_quiet (by simpa using refreshRecord_quiet s k s.mirror.position)]
    exact refreshRecord_arb s k _
  · refine OnlyTouches.finish hs ?_ (.inl (by simp))
    simp [OnlyTouches, State.stopOperation, State.closeLong]
  · simp [State.stopOperation, State.closeLong]
  · simp [State.stopOperation, State.closeLong]
  · simp [State.stopOperation, State.closeLong, CommandUnit.closed]
  · have hstatus : ((((s.beginEvent .command).stopOperation.closeLong .done).flushStatus).writeResult).statusBlock =
        ((s.beginEvent .command).stopOperation.closeLong .done).statusBlock := rfl
    rw [State.finish_arb_of_quiet rfl, State.finish_statusBlock, hstatus]
    simp [State.stopOperation, State.closeLong, State.writeResult, State.hand, State.flushStatus_arb, State.pageAddr]

end Sys2Proof.Machine
end

section
/-! SUPPORT. Reset (R42, R173). -/

namespace Sys2Proof.Machine

/-! ## While RST_N is asserted -/

section
variable {s : State}

theorem present_inReset {x : Transfer} (hwf : x.wf = true) (hr : s.inReset = true) :
    present x s = .next { s with port := { s.port with waiting := s.port.waiting ++ [x] } } := by
  simp [present, hwf, hr, State.setPort]

theorem event_inReset (k : Work) (enabled : Bool) (f : State → State) (hr : s.inReset = true) : event k s enabled f = .next s := by
  simp [event, hr]

theorem quietEvent_inReset (enabled : Bool) (f : State → State) (hr : s.inReset = true) : quietEvent s enabled f = .next s := by
  simp [quietEvent, hr]

theorem command_inReset (k : Command) (f : State → State × ResultCode) (hr : s.inReset = true) : command k s f = .next s :=
  event_inReset _ _ _ hr

theorem restart_inReset (hr : s.inReset = true) : execRestart s = .next s := by
  simp [execRestart, State.restartTaken, hr]

theorem resetAssertion_inReset (hr : s.inReset = true) : execResetAssertion s = .next s := by
  simp [execResetAssertion, hr]

/-- Every event of the part does nothing while RST_N is asserted (log entry 23). -/
theorem exec_inReset {c : Instr} (hr : s.inReset = true) (hpower : ∀ b m, c ≠ .powerOnReset b m) (hread : ∀ m a n, c ≠ .readTransfer m a n)
    (hwrite : ∀ m a l, c ≠ .writeTransfer m a l) (hbase : ∀ m l, c ≠ .ringBaseWrite m l) (hlength : ∀ m l, c ≠ .ringLengthWrite m l)
    (hconsumer : ∀ m l, c ≠ .consumerIndexWrite m l) (hpage : ∀ m b l, c ≠ .controlPageWrite m b l) : exec c s = .next s := by
  cases c
  case powerOnReset b m => exact absurd rfl (hpower b m)
  case readTransfer m a n => exact absurd rfl (hread m a n)
  case writeTransfer m a l => exact absurd rfl (hwrite m a l)
  case ringBaseWrite m l => exact absurd rfl (hbase m l)
  case ringLengthWrite m l => exact absurd rfl (hlength m l)
  case consumerIndexWrite m l => exact absurd rfl (hconsumer m l)
  case controlPageWrite m b l => exact absurd rfl (hpage m b l)
  case restart => exact restart_inReset hr
  case resetAssertion => exact resetAssertion_inReset hr
  case localTimeAdvance | slewStep | forwardDownstream | ownWriteIssue | heldWriteJoin | ownWriteResponse | writeResponse | readDataReturn |
      agingPassStart | silenceSweepStart =>
    simp only [exec]
    exact quietEvent_inReset _ _ hr
  case timeRecordDequeue | holdoverExpiry | uplinkRecordDequeue | heartbeatExpiry | slotExpiry | measurementRecordDequeue | agingVisit |
      clearGridVisit | reeferReportDequeue | sweepVisit | noticePost | refreshVisit | longOperationEnd | busyRefusal | unknownCommand |
      offerJudgement =>
    simp only [exec]
    exact event_inReset _ _ _ hr
  all_goals
    simp only [exec]
    exact command_inReset _ _ hr

end

/-! ## POWER_ON_RESET -/

/-- POWER_ON_RESET handles the transfers that waited in the order of their presentation (log entry 7). -/
theorem powerOnReset_next (b : BitVec 16) (m : BitVec 6) (s : State) :
    exec (.powerOnReset b m) s = .next (s.port.waiting.foldl State.takeTransfer (s.powerOn b m)) := rfl

theorem foldl_takeTransfer_inReset (l : List Transfer) (s : State) : (l.foldl State.takeTransfer s).inReset = s.inReset := by
  induction l generalizing s with
  | nil => rfl
  | cons x l ih => rw [List.foldl_cons, ih, State.takeTransfer_inReset]

theorem present_takeTransfer {x : Transfer} {s : State} (hwf : x.wf = true) (hr : s.inReset = false) :
    present x s = .next (s.takeTransfer x) := by
  simp [present, hwf, hr]

/-- Settles O57: the assertion, the time while RST_N is asserted, and the pulse. -/
theorem resetBehaviour : Obligations.ResetBehaviour := by
  refine ⟨fun s hr => ?_, ⟨fun x s hwf hr => ?_, fun c m a l s hc hwf hr => ?_⟩,
    fun c s hr hpower hread hwrite hbase hlength hconsumer hpage => exec_inReset hr hpower hread hwrite hbase hlength hconsumer hpage,
    fun b m s hwaiting => ⟨_, powerOnReset_next b m s, ?_⟩, fun b m s t l x hwf ht => ?_⟩
  · simp [exec, execResetAssertion, hr]
  · cases x <;> exact present_inReset hwf hr
  · rw [presentsWrite_exec hc]
    exact present_inReset hwf hr
  · rw [hwaiting]
    refine ⟨rfl, rfl, rfl, rfl, rfl, rfl, rfl, rfl, rfl, rfl, rfl, rfl, rfl, rfl, fun i => reset_window i, rfl, rfl, rfl,
      fun i => reset_crane i, fun c => replicate_get _ c, fun q => replicate_get _ q, rfl, rfl, rfl, rfl, rfl, rfl, fun p => replicate_get _ p,
      rfl, rfl, rfl, rfl, fun n => replicate_get _ n, fun i => replicate_get _ i, rfl, rfl, rfl, rfl, rfl, rfl, rfl, rfl, rfl, rfl, rfl, rfl,
      rfl, rfl, rfl, rfl, rfl, rfl, rfl, rfl, rfl, rfl, rfl, rfl, rfl, rfl, rfl, rfl, rfl, rfl, rfl, rfl, rfl, rfl, rfl, rfl⟩
  · rw [powerOnReset_next] at ht ⊢
    have ht := Host.Outcome.next.inj ht
    have hr : t.inReset = false := by
      rw [← ht]
      exact foldl_takeTransfer_inReset l _
    have hstep : State.powerOn { s with port := { s.port with waiting := l ++ [x] } } b m =
        State.powerOn { s with port := { s.port with waiting := l } } b m := rfl
    rw [hstep, List.foldl_append, List.foldl_cons, List.foldl_nil]
    dsimp only at ht ⊢
    rw [ht]
    cases x <;> exact (present_takeTransfer hwf hr).symm

end Sys2Proof.Machine
end

section
/-! SUPPORT. A permitted write of the control page (R150 to R153, R160, R161). -/

namespace Sys2Proof.Machine

/-! ## Addresses and offsets of the page (R23) -/

section
variable {s : State} {a off : Nat}

theorem State.pageOffset_eq_some (h : s.pageOffset a = some off) : a = s.pageAddr off := by
  unfold State.pageOffset at h
  split at h
  · have heq := Option.some.inj h
    unfold State.pageAddr at *
    omega
  · exact absurd h (by simp)

theorem writtenByte_page (h : s.pageOffset a = some off) (l : List Lane) (o i : Nat) :
    writtenByte a l (s.pageAddr o + i) = PageByte off l (o + i) := by
  obtain rfl := State.pageOffset_eq_some h
  by_cases hle : off ≤ o + i
  · have hge : ¬s.pageAddr o + i < s.pageAddr off := by unfold State.pageAddr; omega
    have hsub : s.pageAddr o + i - s.pageAddr off = o + i - off := by unfold State.pageAddr; omega
    unfold writtenByte PageByte
    rw [if_neg hge, if_pos hle]
    exact hsub ▸ rfl
  · have hlt : s.pageAddr o + i < s.pageAddr off := by unfold State.pageAddr; omega
    unfold writtenByte PageByte
    rw [if_pos hlt, if_neg hle]

theorem overlay_page (h : s.pageOffset a = some off) {n : Nat} (copy : Vector Byte n) (l : List Lane) (o : Nat) :
    overlay copy (s.pageAddr o) a l = CopiedFrom copy off l o := by
  unfold overlay CopiedFrom
  simp only [writtenByte_page h]
  rfl

theorem writesAny_page (h : s.pageOffset a = some off) (l : List Lane) (o n : Nat) :
    writesAny a l (s.pageAddr o) n = PageTouches off l o n := by
  unfold writesAny PageTouches
  simp only [writtenByte_page h]

/-- The Command Unit's copies and its offer mark (R160, R161). -/
theorem State.commandWrite_page (h : s.pageOffset a = some off) (l : List Lane) : s.commandWrite a l = s.setCmd { s.cmd with
    recordCopy := CopiedFrom s.cmd.recordCopy off l 0
    tagCopy := CopiedFrom s.cmd.tagCopy off l 0x40
    offerMark := s.cmd.offerMark || PageTouches off l 0x40 4 } := by
  unfold State.commandWrite
  rw [overlay_page h, overlay_page h, writesAny_page h]

end

/-! ## The pair rule (R150) -/

section
variable {u : NoticeUnit} {base length : Bool}

theorem pairRule_of_completes (h : PairCompletes u base length) : pairRule u.baseMark u.lengthMark base length = (true, true, true) := by
  obtain ⟨rfl, rfl⟩ | ⟨rfl, rfl, hb, hl⟩ | ⟨rfl, rfl, hb, hl⟩ := h
  · rfl
  · simp [pairRule, hb, hl]
  · simp [pairRule, hb, hl]

theorem pairRule_of_breaks (h : PairBreaks u base length) : pairRule u.baseMark u.lengthMark base length = (base, length, false) := by
  obtain ⟨hne, hb, hl⟩ := h
  rw [hb, hl]
  cases base <;> cases length <;> simp [pairRule] at hne ⊢

theorem pairRule_of_neither (hc : ¬PairCompletes u base length) (hb : ¬PairBreaks u base length) :
    pairRule u.baseMark u.lengthMark base length = (u.baseMark || base, u.lengthMark || length, false) := by
  revert hc hb
  unfold PairCompletes PairBreaks
  cases u.baseMark <;> cases u.lengthMark <;> cases base <;> cases length <;> simp [pairRule]

end

/-! ## The ring words (R151, R153) -/

section
variable (s : State)

/-- A judgement, as R151 states it on the table. -/
theorem State.judgeRing_judgedOn : s.judgeRing.notice = RingJudgedOn s.window { s.notice with ring := .invalid } := by
  rw [RingJudgedOn, if_pos (.inr rfl), State.judgeRing_notice]
  refine if_congr ?_ rfl rfl
  rw [State.ringValid_iff]
  simp only [Window.coversRing_iff]

theorem State.judgeRing_keeps_due (h : s.scratch.statusDue = true) : s.judgeRing.scratch.statusDue = true :=
  s.judgeRing_dueByRing.2.2 (.inl h)

/-- The Notice Unit after the consumer index word was, or was not, offered (R153). -/
def NoticeUnit.offered (x : NoticeUnit) (touched : Bool) : NoticeUnit :=
  if touched = false then x
  else if (x.producer - x.consumerWord).toNat ≤ x.lengthInForce then { x with consumer := x.consumerWord }
  else { x with flags := x.flags ||| 0x800#12 }

/-- The state after the consumer index word was, or was not, offered (R153). -/
def State.offerConsumer (touched : Bool) : State := if touched then s.consumerWrite else s

theorem State.offerConsumer_notice (touched : Bool) : (s.offerConsumer touched).notice = s.notice.offered touched := by
  cases touched
  · rfl
  · simp only [State.offerConsumer, NoticeUnit.offered, State.consumerWrite, if_true, Bool.true_eq_false, if_false]
    split <;> rfl

theorem NoticeUnit.offered_ring (x : NoticeUnit) (touched : Bool) : (x.offered touched).ring = x.ring := by
  unfold NoticeUnit.offered
  split
  · rfl
  · split <;> rfl

theorem State.offerConsumer_dueByRing (touched : Bool) : DueByRing s (s.offerConsumer touched) := by
  cases touched
  · exact .refl s
  · simp only [State.offerConsumer, State.consumerWrite, if_true]
    split
    · exact ⟨rfl, by simp [RingDiffers]⟩
    · have hflag := or_flagBit_eq_self_iff s.notice.flags .ringIndex
      refine ⟨rfl, ?_⟩
      rw [State.setFlag_scratch, State.setFlag_notice]
      simp only [RingDiffers, ne_eq, hflag, Bool.or_eq_true, Bool.not_eq_true', Bool.not_eq_true, not_true_eq_false, false_or]

theorem State.ringIncomplete_record : s.ringIncomplete.notice = { s.notice with
    ring := if s.notice.ring = .ready ∨ s.notice.ring = .invalid then .incomplete else s.notice.ring } := by
  rw [State.ringIncomplete_notice]
  split <;> rfl

theorem State.ringIncomplete_dueByRing : DueByRing s s.ringIncomplete := by
  unfold State.ringIncomplete
  split
  · exact s.setRing_dueByRing .incomplete
  · exact .refl s

/-- The status block is due after the offer of a consumer index where it was due before, or where the ring state or a flag differs from
an earlier state that had the flags of the state of the offer (R154). -/
theorem State.offerConsumer_due {s0 : State} (h : DueByRing s0 s) (hflags : s.notice.flags = s0.notice.flags) (touched : Bool) :
    DueByRing s0 (s.offerConsumer touched) := by
  obtain ⟨hwork, hdue⟩ := h
  obtain ⟨hwork', hdue'⟩ := s.offerConsumer_dueByRing touched
  refine ⟨hwork'.trans hwork, ?_⟩
  have hring : (s.offerConsumer touched).notice.ring = s.notice.ring := by rw [State.offerConsumer_notice, NoticeUnit.offered_ring]
  rw [hdue', hdue]
  simp only [RingDiffers, hring, hflags]
  tauto

/-- A completion, the clearing of a mark, and any other write of the page (R150, R153). -/
theorem State.ringWrite_completes {a : Nat} {l : List Lane} (h : s.marksAfter a l = (true, true, true)) :
    s.ringWrite a l = (s.setNotice (s.ringCopied a l)).completeRing := by
  simp [State.ringWrite, h]

theorem State.ringWrite_breaks {a : Nat} {l : List Lane} (hmark : (s.marksAfter a l).2.2 = false) (hdrop : s.dropsMark a l = true) :
    s.ringWrite a l = (s.setNotice (s.ringCopied a l)).ringIncomplete.offerConsumer (s.touchesConsumer a l) := by
  simp [State.ringWrite, hmark, hdrop, State.offerConsumer]

theorem State.ringWrite_marks {a : Nat} {l : List Lane} (hmark : (s.marksAfter a l).2.2 = false) (hdrop : s.dropsMark a l = false) :
    s.ringWrite a l = (s.setNotice (s.ringCopied a l)).offerConsumer (s.touchesConsumer a l) := by
  simp [State.ringWrite, hmark, hdrop, State.offerConsumer]

/-- The Notice Unit with the copies of a write of the page and two marks (R150). -/
def NoticeUnit.copied (u : NoticeUnit) (off : Nat) (l : List Lane) (baseMark lengthMark : Bool) : NoticeUnit :=
  { u with
    baseCopy := CopiedFrom u.baseCopy off l 0x100
    lengthCopy := CopiedFrom u.lengthCopy off l 0x108
    consumerCopy := CopiedFrom u.consumerCopy off l 0x10C
    baseMark
    lengthMark }

variable {s} {a off : Nat}

theorem State.ringCopied_page (h : s.pageOffset a = some off) (l : List Lane) : s.ringCopied a l =
    s.notice.copied off l (s.marksAfter a l).1 (s.marksAfter a l).2.1 := by
  unfold State.ringCopied
  rw [overlay_page h, overlay_page h, overlay_page h]
  rfl

theorem State.marksAfter_page (h : s.pageOffset a = some off) (l : List Lane) : s.marksAfter a l =
    pairRule s.notice.baseMark s.notice.lengthMark (PageTouches off l 0x100 8) (PageTouches off l 0x108 4) := by
  unfold State.marksAfter State.touchesBase State.touchesLength
  rw [writesAny_page h, writesAny_page h]

theorem State.touchesConsumer_page (h : s.pageOffset a = some off) (l : List Lane) :
    s.touchesConsumer a l = PageTouches off l 0x10C 4 := writesAny_page h ..

/-- When a permitted write of the page calls for the status block (R154). -/
def DueByPage (s v : State) (off : Nat) (l : List Lane) : Prop :=
  PairCompletes s.notice (PageTouches off l 0x100 8) (PageTouches off l 0x108 4) ∨ v.notice.ring ≠ s.notice.ring ∨
    v.notice.flags ≠ s.notice.flags

/-- The Notice Unit after a permitted write of the page, and whether the status block is due. -/
theorem State.ringWrite_page (h : s.pageOffset a = some off) (hidle : s.scratch.statusDue = false) (l : List Lane) :
    RingAfterWrite s s.notice (s.ringWrite a l).notice off l ∧ (s.ringWrite a l).scratch.work = s.scratch.work ∧
      ((s.ringWrite a l).scratch.statusDue = true ↔ DueByPage s (s.ringWrite a l) off l) := by
  have hmarks := State.marksAfter_page h l
  have hcopied := State.ringCopied_page h l
  have hexclusive (hc : PairCompletes s.notice (PageTouches off l 0x100 8) (PageTouches off l 0x108 4)) :
      ¬PairBreaks s.notice (PageTouches off l 0x100 8) (PageTouches off l 0x108 4) := fun hb => by
    have := (pairRule_of_completes hc).symm.trans (pairRule_of_breaks hb)
    simp at this
  by_cases hc : PairCompletes s.notice (PageTouches off l 0x100 8) (PageTouches off l 0x108 4)
  · rw [pairRule_of_completes hc] at hmarks
    rw [State.ringWrite_completes s hmarks, hcopied, hmarks]
    refine ⟨⟨fun _ => ?_, fun hb => absurd hb (hexclusive hc), fun hn => absurd hc hn⟩, ?_, ?_⟩
    · unfold State.completeRing
      rw [State.judgeRing_judgedOn]
      have hgood (n x y : Nat) : (if ringLengthGood n then x else y) =
          if n ∈ [16, 32, 64, 128, 256, 512, 1024, 2048, 4096] then x else y := if_congr List.contains_iff_mem rfl rfl
      simp only [hgood]
      rfl
    · unfold State.completeRing
      exact (State.judgeRing_dueByRing _).1
    · unfold State.completeRing
      exact ⟨fun _ => .inl hc, fun _ => State.judgeRing_keeps_due _ rfl⟩
  by_cases hb : PairBreaks s.notice (PageTouches off l 0x100 8) (PageTouches off l 0x108 4)
  · rw [pairRule_of_breaks hb] at hmarks
    have hdrop : s.dropsMark a l = true := by
      obtain ⟨hne, hbase, hlength⟩ := hb
      rw [State.dropsMark, hmarks, hbase, hlength]
      revert hne
      cases PageTouches off l 0x100 8 <;> cases PageTouches off l 0x108 4 <;> decide
    rw [State.ringWrite_breaks s (by rw [hmarks]) hdrop, hcopied, hmarks, State.touchesConsumer_page h]
    have hdue := State.offerConsumer_due _ (State.ringIncomplete_dueByRing
      (s.setNotice (s.notice.copied off l (PageTouches off l 0x100 8) (PageTouches off l 0x108 4))))
      (by rw [State.ringIncomplete_record]) (PageTouches off l 0x10C 4)
    refine ⟨⟨fun hc' => absurd hc' hc, fun _ => ?_, fun _ hn => absurd hb hn⟩, hdue.1, ?_⟩
    · rw [State.offerConsumer_notice, State.ringIncomplete_record]
      rfl
    · rw [hdue.2]
      simp [RingDiffers, DueByPage, hc, hidle, NoticeUnit.copied]
  · rw [pairRule_of_neither hc hb] at hmarks
    have hdrop : s.dropsMark a l = false := by
      rw [State.dropsMark, hmarks]
      cases s.notice.baseMark <;> cases s.notice.lengthMark <;> rfl
    rw [State.ringWrite_marks s (by rw [hmarks]) hdrop, hcopied, hmarks, State.touchesConsumer_page h]
    have hdue := State.offerConsumer_dueByRing (s.setNotice
      (s.notice.copied off l (s.notice.baseMark || PageTouches off l 0x100 8) (s.notice.lengthMark || PageTouches off l 0x108 4)))
      (PageTouches off l 0x10C 4)
    refine ⟨⟨fun hc' => absurd hc' hc, fun hb' => absurd hb' hb, fun _ _ => ?_⟩, hdue.1, ?_⟩
    · rw [State.offerConsumer_notice]
      rfl
    · rw [hdue.2]
      simp [RingDiffers, DueByPage, hc, hidle, NoticeUnit.copied]

end

theorem RingAfterWrite.congr {s s' : State} {u v : NoticeUnit} {off : Nat} {l : List Lane} (h : RingAfterWrite s u v off l)
    (hwindow : s.window = s'.window) : RingAfterWrite s' u v off l := by
  unfold RingAfterWrite at h ⊢
  rwa [hwindow] at h

/-- The Notice Unit sees the page's write after the Command Unit. -/
theorem State.commandWrite_ringWrite {s : State} {a off : Nat} (h : s.pageOffset a = some off) (hs : Free .other s) (l : List Lane) :
    RingAfterWrite s s.notice ((s.commandWrite a l).ringWrite a l).notice off l ∧
      ((s.commandWrite a l).ringWrite a l).scratch.work = .other ∧
      (((s.commandWrite a l).ringWrite a l).scratch.statusDue = true ↔ DueByPage s ((s.commandWrite a l).ringWrite a l) off l) := by
  have hnotice : (s.commandWrite a l).notice = s.notice := by simp
  have hscratch : (s.commandWrite a l).scratch = .idle := by rw [State.commandWrite, State.setCmd_scratch, hs.scratch_idle]
  have hwindow : (s.commandWrite a l).window = s.window := by funext i; simp [State.window]
  have hpage : (s.commandWrite a l).pageOffset a = some off := by simpa [State.pageOffset, State.pageAddr] using h
  generalize s.commandWrite a l = u at *
  obtain ⟨hring, hwork, hdue⟩ := State.ringWrite_page hpage (by rw [hscratch]; rfl) l
  rw [hnotice] at hring
  exact ⟨hring.congr hwindow, hwork.trans (by rw [hscratch]; rfl), hdue.trans (by unfold DueByPage; rw [hnotice])⟩

/-- Settles O51: the copies and the offer mark, the ring by the pair rule, and the transfer with a status block where one is due. -/
theorem pageWritePermitted : Obligations.PageWritePermitted := by
  intro c m a l s off hc hwf hreset hset hpage hallowed
  have hs := Free.of_settled hreset hset
  have hpermitted : s.pageBlocks m off l = false := by
    rw [← Bool.not_eq_true, State.pageBlocks_iff]
    rintro ⟨j, x, hx, hstrobe, hforbidden⟩
    exact hallowed j x hx hstrobe hforbidden
  obtain ⟨hring, hwork, hdue⟩ := State.commandWrite_ringWrite hpage hs l
  have hcmd := State.commandWrite_page hpage l
  refine ⟨_, ((s.commandWrite a.toNat l).ringWrite a.toNat l).notice, presentsWrite_next hc hwf hs, ?_⟩
  rw [State.passWrite_page hpage, State.pageWrite, hpermitted, if_neg Bool.false_ne_true]
  refine ⟨OnlyTouches.finish hs ?_ (.inl (by simp)), ?_, hring, ?_, fun hnot => ?_, fun hdue' => ?_⟩
  · simp [OnlyTouches]
  · rw [State.finish_cmd, State.forward_cmd, State.ringWrite_cmd, hcmd]
    rfl
  · rw [State.finish_notice_followed, State.forward_notice]
  · have hquiet : ((s.commandWrite a.toNat l).ringWrite a.toNat l).scratch.statusDue = false := by simpa using fun hd => hnot (hdue.1 hd)
    rw [State.finish_arb_of_quiet (by rwa [State.forward_scratch])]
    simp [ForwardsWrite, State.forward]
  · rw [State.finish_arb_of_due (by rw [State.forward_scratch]; exact hdue.2 hdue'), State.forward_scratch, hwork]
    simp [State.pageAddr, State.forward]

end Sys2Proof.Machine
end

section
/-! SUPPORT. Writes into a CRANE_DOWN window beat by beat (R48 to R55). -/

namespace Sys2Proof.Machine

/-! ## The beats of a write (R23) -/

section
variable (s : State) (w : Fin 32) (i : Fin 16) (m : MasterId)

theorem State.headerWrite_clear {beat : List Lane} (h : ∀ x ∈ beat, x.strobe = false) (size n : Nat) :
    s.headerWrite w i size n m beat = (s, beat) := by
  rw [State.headerWrite, if_pos (by simpa using h)]

/-- A write none of whose header beats has a strobe set changes nothing. -/
theorem State.writeBeats_passing {size off k : Nat} {l : List Lane}
    (h : ∀ b < k, (off + 16 * b) % size = 0 → ∀ x ∈ (l.drop (16 * b)).take 16, x.strobe = false) :
    s.writeBeats w i size m off (beatsOf k l) = (s, l.take (16 * k)) := by
  induction k generalizing off l with
  | zero => simp [beatsOf, State.writeBeats]
  | succ k ih =>
    have hrest : ∀ b < k, (off + 16 + 16 * b) % size = 0 → ∀ x ∈ ((l.drop 16).drop (16 * b)).take 16, x.strobe = false := by
      intro b hb hz
      rw [List.drop_drop]
      have hmove : 16 + 16 * b = 16 * (b + 1) := by ring
      exact hmove ▸ h (b + 1) (by omega) (by rw [← hmove, ← Nat.add_assoc]; exact hz)
    have hfirst : (if off % size = 0 then s.headerWrite w i size (off / size) m (l.take 16) else (s, l.take 16)) = (s, l.take 16) := by
      split
      · next hz => exact s.headerWrite_clear w i m (h 0 (by omega) hz) ..
      · rfl
    rw [beatsOf, State.writeBeats_cons, hfirst]
    dsimp only
    rw [ih hrest, Nat.mul_succ, Nat.add_comm, List.take_add]

/-- A write of no more than one slot's bytes whose beat j is a header beat: that beat alone is shown to the supervisor. -/
theorem State.writeBeats_header {size off k j : Nat} {l : List Lane} (hj : j < k) (hk : 16 * k ≤ size) (hl : l.length = 16 * k)
    (hz : (off + 16 * j) % size = 0) :
    s.writeBeats w i size m off (beatsOf k l) =
      ((s.headerWrite w i size ((off + 16 * j) / size) m ((l.drop (16 * j)).take 16)).1,
        l.take (16 * j) ++ (s.headerWrite w i size ((off + 16 * j) / size) m ((l.drop (16 * j)).take 16)).2 ++ l.drop (16 * j + 16)) := by
  induction k generalizing off l j with
  | zero => omega
  | succ k ih =>
    rw [beatsOf, State.writeBeats_cons]
    cases j with
    | zero =>
      have hrest : ∀ b < k, (off + 16 + 16 * b) % size = 0 → ∀ x ∈ ((l.drop 16).drop (16 * b)).take 16, x.strobe = false :=
        fun b hb h => absurd h (by rw [Nat.add_assoc]; exact add_mod_ne_zero hz (by omega) (by omega))
      have hfirst : off % size = 0 := hz
      rw [if_pos hfirst]
      dsimp only
      rw [State.writeBeats_passing _ w i m hrest, List.take_of_length_le (l := l.drop 16) (by rw [List.length_drop]; omega)]
      rfl
    | succ j =>
      have hmove : 16 * (j + 1) = 16 + 16 * j := by ring
      rw [hmove, ← Nat.add_assoc] at hz ⊢
      rw [if_neg fun h => add_mod_ne_zero (d := 16 + 16 * j) h (by omega) (by omega) (by rw [← Nat.add_assoc]; exact hz)]
      dsimp only
      rw [ih (by omega) (by omega) (by rw [List.length_drop]; omega) hz, List.drop_drop, List.drop_drop, List.take_add]
      simp only [List.append_assoc, Nat.add_assoc]

end

/-! ## The transfer (R23) -/

section
variable {m : MasterId} {a : Address} {l : List Lane} {s : State} {w : Fin 32} {i : Fin 16} {size : Nat}

theorem State.windowWrite_down (hfall : FallsInSlots s a.toNat w i size) (hm : (s.window w).permits m = true) (l : List Lane) :
    s.windowWrite w m a l = (s.writeBeats w i size m (a.toNat - (s.window w).base) (beatsOf (l.length / 16) l)).1.forward
      (.write m a (s.writeBeats w i size m (a.toNat - (s.window w).base) (beatsOf (l.length / 16) l)).2) := by
  obtain ⟨-, hkind, hcrane, hsize, -, htable⟩ := hfall
  have hdown : s.downWindow (s.window w) = some (i, size) := by
    simp [State.downWindow, hkind, hcrane, hsize, Option.isSome_iff_ne_none, htable]
  have hblocks : (s.window w).blocks m = false := by simp [Window.blocks, hkind, WindowKind.partOnly, hm]
  simp [State.windowWrite, hblocks, hdown]

theorem Transfer.write_length (hwf : (Transfer.write m a l).wf = true) : l.length = 16 * (l.length / 16) ∧ l.length ≤ 256 := by
  obtain ⟨-, hmod, -, hle, -⟩ := (spanWf_iff _ _).1 hwf
  omega

theorem FallsInSlots.size_ge (hfall : FallsInSlots s a.toNat w i size) : 256 ≤ size := by
  obtain ⟨-, -, -, -, hmem, -⟩ := hfall
  fin_cases hmem <;> omega

/-- A write transfer with a header beat in a slot table's window comes to what that beat does. -/
theorem writeTransfer_header_next {j : Nat} (hwf : (Transfer.write m a l).wf = true) (hs : Free .other s) (hpage : s.pageOffset a.toNat = none)
    (hfall : FallsInSlots s a.toNat w i size) (hm : (s.window w).permits m = true) (hj : 16 * j < l.length)
    (hz : (a.toNat - (s.window w).base + 16 * j) % size = 0) {u : State} {out : List Lane}
    (hbeat : s.headerWrite w i size ((a.toNat - (s.window w).base + 16 * j) / size) m ((l.drop (16 * j)).take 16) = (u, out)) :
    exec (.writeTransfer m a l) s =
      .next (u.forward (.write m a (l.take (16 * j) ++ out ++ l.drop (16 * j + 16)))).finish := by
  obtain ⟨hlength, hle⟩ := Transfer.write_length hwf
  have hsize := hfall.size_ge
  rw [writeTransfer_next hwf hs, State.passWrite_window hpage hfall.1, State.windowWrite_down hfall hm,
    State.writeBeats_header s w i m (by omega) (by omega) hlength hz, hbeat]

/-- The lanes of a transfer around one of its beats. -/
theorem lanes_around (l : List Lane) (j : Nat) : l.take (16 * j) ++ (l.drop (16 * j)).take 16 ++ l.drop (16 * j + 16) = l := by
  rw [← List.take_add, List.take_append_drop]

end

/-- Settles O21: no header beat with a strobe is shown to the supervisor, and a read of payload beats goes by the slots' records. -/
theorem payloadBeats : Obligations.PayloadBeats := by
  refine ⟨fun m a l s w i size hwf hreset hset hpage hfall hm hclear => ?_, fun m a beats s w i size hwf hreset hset hfall hpayload => ?_⟩
  · have hs := Free.of_settled hreset hset
    obtain ⟨hlength, -⟩ := Transfer.write_length hwf
    refine ⟨_, writeTransfer_next hwf hs, ?_⟩
    rw [State.passWrite_window hpage hfall.1, State.windowWrite_down hfall hm,
      State.writeBeats_passing s w i m fun b hb hz => hclear b (by omega) hz, ← hlength, List.take_length]
    exact hs.forward_finish _
  · have hs := Free.of_settled hreset hset
    let plan := (List.range beats).map fun b => (s.crane i).payloadPlan ((a.toNat - (s.window w).base + 16 * b) / size)
    have hplan : ∀ b < beats, plan[b]? = some ((s.crane i).payloadPlan ((a.toNat - (s.window w).base + 16 * b) / size)) :=
      fun b hb => by simp [plan, hb]
    obtain ⟨hframe, harb⟩ := hs.forward_finish (.read m a plan)
    refine ⟨_, plan, ?_, hframe, by simp [plan], harb, fun b hb => ?_⟩
    · rw [readTransfer_next hwf hs, State.passRead_fallsInSlots hfall, State.readBeats_payload s i hpayload]
    · rw [hplan b hb, Option.some_inj, Option.some_inj]
      exact ⟨Crane.payloadPlan_pass_or_zero _ _, Crane.payloadPlan_eq_pass_iff _ _⟩

/-! ## Torn and full header beats (R48 to R55) -/

section
variable (c : Crane) (n : Nat)

/-- A write touches a slot's record in the pending list and the overwrite count alone (R54). -/
theorem Crane.touchSlot_eq : c.touchSlot n = { c with
    pendingSlots := (c.touchSlot n).pendingSlots
    overwrites := if (c.slot n).state = .pending then min (c.overwrites + 1) 4294967295 else c.overwrites } := by
  unfold Crane.touchSlot
  split <;> rfl

theorem Crane.tornWrite_eq (t : Nat) : c.tornWrite n t = c.afterWrite (c.tornWrite n t) n { c.slot n with
    state := .faulted .torn, writeTime := t, lastVerdict := .hold } ∧
    (c.tornWrite n t).downExpected = c.downExpected ∧ (c.tornWrite n t).madeCount = c.madeCount := by
  unfold Crane.tornWrite
  rw [c.touchSlot_eq n]
  exact ⟨rfl, rfl, rfl⟩

/-- The code tries the conditions of 3.3 in the order of the table. -/
theorem Crane.judgeFrame_slotState (size : Nat) (beat : List Byte) : (c.judgeFrame size beat).slotState = FrameOutcome c size beat := by
  unfold Crane.judgeFrame FrameOutcome checkWordGood
  simp only [Bool.not_eq_true', beq_eq_false_iff_ne, HeaderOutcome.slotState]
  split_ifs <;> rfl

theorem HeaderOutcome.slotState_eq_pending_iff (o : HeaderOutcome) : o.slotState = .pending ↔ o = .pending := by
  cases o <;> decide

theorem HeaderOutcome.wellFormed_iff (o : HeaderOutcome) : o.wellFormed = true ↔ WellFormedFrame o.slotState := by
  cases o <;> simp [HeaderOutcome.wellFormed, WellFormedFrame, HeaderOutcome.slotState]

theorem Crane.deadlineAt_eq (t v : Nat) : c.deadlineAt t v = DeadlineOf c t v := rfl

end

section
variable (c : Crane) (n : Nat)

theorem Crane.fullWrite_eq (size t : Nat) (beat : List Byte) :
    c.fullWrite size n t beat = c.afterWrite (c.fullWrite size n t beat) n (c.frameSlot size n t beat) := by
  unfold Crane.fullWrite Crane.afterWrite Crane.frameSlot
  rw [c.touchSlot_eq n]
  rfl

theorem Crane.frameSlot_eq (size t : Nat) (beat : List Byte) : c.frameSlot size n t beat =
    { state := FrameOutcome c size beat
      sequence := (FrameHeader.read beat).sequence
      writeTime := t
      deadline := if FrameOutcome c size beat = .pending then DeadlineOf c t (FrameHeader.read beat).validity else (c.slot n).deadline
      lastVerdict := .hold
      madeNo := if FrameOutcome c size beat = .pending then c.madeCount + 1 else (c.slot n).madeNo } := by
  rw [← c.judgeFrame_slotState]
  simp only [HeaderOutcome.slotState_eq_pending_iff]
  rfl

theorem Crane.fullWrite_madeCount (size t : Nat) (beat : List Byte) : (c.fullWrite size n t beat).madeCount =
    if FrameOutcome c size beat = .pending then c.madeCount + 1 else c.madeCount := by
  rw [← c.judgeFrame_slotState]
  simp only [HeaderOutcome.slotState_eq_pending_iff]
  rfl

theorem Crane.fullWrite_downExpected (size t : Nat) (beat : List Byte) : (c.fullWrite size n t beat).downExpected =
    if (c.judgeFrame size beat).wellFormed then some (((FrameHeader.read beat).sequence + 1) % 65536) else c.downExpected := rfl

end

section
variable (s : State) (w : Fin 32) (i : Fin 16) (m : MasterId)

theorem State.headerWrite_torn {beat : List Lane} (hset : ∃ x ∈ beat, x.strobe = true) (hclear : ∃ x ∈ beat, x.strobe = false) (size n : Nat) :
    s.headerWrite w i size n m beat = (((s.setCrane i ((s.crane i).tornWrite n s.time.lt)).setWindow w
      { s.window w with torn := min ((s.window w).torn + 1) 4294967295 } |>.setFlag .tornRecord).raise .tornRecord w.val (word m.toNat)
        (word n) (word 1), beat) := by
  rw [State.headerWrite, if_neg (by simpa using hset), if_neg (by simpa using hclear)]
  rfl

theorem State.headerWrite_full {beat : List Lane} (hset : ∀ x ∈ beat, x.strobe = true) (hne : beat ≠ []) (size n : Nat) :
    s.headerWrite w i size n m beat =
      ((s.setCrane i ((s.crane i).fullWrite size n s.time.lt (beat.map (·.byte)))).setWindow w
        { s.window w with taken := min ((s.window w).taken + 1) 4294967295 },
      if ((s.crane i).judgeFrame size (beat.map (·.byte))).wellFormed then relane (stampedHeader (beat.map (·.byte)) s.stamp32)
      else beat) := by
  obtain ⟨x, hx⟩ := List.exists_mem_of_ne_nil _ hne
  rw [State.headerWrite, if_neg (by simpa using ⟨x, hx, hset x hx⟩), if_pos (by simpa using hset)]
  rfl

end

/-- Settles O22: the slot, the window's count and the notice of a torn beat, which goes downstream with the others as received. -/
theorem tornHeaderBeat : Obligations.TornHeaderBeat := by
  intro m a l s w i size j hwf hreset hset hpage hfall hm hj hz hsome hclear n
  have hs := Free.of_settled hreset hset
  have hbeat := s.headerWrite_torn w i m hsome hclear size n
  have hemits := s.headerWrite_emits w i size n m ((l.drop (16 * j)).take 16)
  have hnext := writeTransfer_header_next hwf hs hpage hfall hm hj hz hbeat
  rw [hbeat] at hemits
  rw [lanes_around] at hnext
  obtain ⟨hcrane, hexpected, hmade⟩ := (s.crane i).tornWrite_eq n s.time.lt
  generalize hp : Passing.write m a l = p at hnext ⊢
  generalize hu : (State.raise ..) = u at hemits hnext
  have hself : (u.forward p).finish.crane i = (s.crane i).tornWrite n s.time.lt := by
    rw [State.forward_finish_crane, ← hu]
    exact upd_get_self ..
  refine ⟨_, hnext, OnlyTouches.finish hs ?_ (.inl (by simp)), ?_, fun c hc => ?_, ?_, ?_, ?_, ?_, ForwardsWithStatus.of_emits hs hemits ?_ ?_⟩
  · simp [OnlyTouches, ← hu]
  · simp [← hu]
  · rw [State.forward_finish_crane, ← hu]
    exact upd_get_other _ _ _ _ hc
  · rw [hself]
    exact hcrane
  · rw [hself, hexpected]
  · rw [hself, hmade]
  · rw [State.finish_notice_followed, State.forward_notice, ← hu]
    rfl
  · simp [← hu]
  · simp [← hu]

/-- Settles O23: a full beat's slot, window and counts, and the beat that goes downstream. -/
theorem fullHeaderBeat : Obligations.FullHeaderBeat := by
  intro m a l s w i size j hwf hreset hset hpage hfall hm hj hz hfull n beat h o stamp out
  have hs := Free.of_settled hreset hset
  have hne : (l.drop (16 * j)).take 16 ≠ [] := by
    rw [← List.length_pos_iff, List.length_take, List.length_drop]
    omega
  have hbeat := s.headerWrite_full w i m hfull hne size n
  have hnext := writeTransfer_header_next hwf hs hpage hfall hm hj hz hbeat
  have hcrane := (s.crane i).fullWrite_eq n size s.time.lt beat
  have hformed : ((s.crane i).judgeFrame size beat).wellFormed = true ↔ WellFormedFrame o := by
    rw [HeaderOutcome.wellFormed_iff, Crane.judgeFrame_slotState]
  have hself (p : Passing) : ((((s.setCrane i ((s.crane i).fullWrite size n s.time.lt beat)).setWindow w
      { s.window w with taken := min ((s.window w).taken + 1) 4294967295 }).forward p).finish.crane i) =
      (s.crane i).fullWrite size n s.time.lt beat := by
    rw [State.forward_finish_crane]
    exact upd_get_self ..
  have harb (p : Passing) : ((((s.setCrane i ((s.crane i).fullWrite size n s.time.lt beat)).setWindow w
      { s.window w with taken := min ((s.window w).taken + 1) 4294967295 }).forward p).finish.arb) =
      { s.arb with passing := s.arb.passing ++ [p] } := by
    rw [State.finish_arb_of_quiet (by simp [hs.scratch_idle, EventScratch.idle])]
    rfl
  refine ⟨_, hnext, OnlyTouches.finish hs ?_ (.inl (by simp)), ?_, fun c hc => ?_, ?_, ?_, fun hw => ⟨?_, ?_⟩, fun hw => ⟨?_, ?_⟩⟩
  · simp [OnlyTouches]
  · simp
  · rw [State.forward_finish_crane]
    exact upd_get_other _ _ _ _ hc
  · rw [hself, ← Crane.frameSlot_eq]
    exact hcrane
  · rw [hself, Crane.fullWrite_madeCount]
  · rw [hself, Crane.fullWrite_downExpected, if_pos (hformed.2 hw)]
  · rw [harb, if_pos (hformed.2 hw)]
    rfl
  · rw [hself, Crane.fullWrite_downExpected, if_neg (hformed.not.2 hw)]
  · rw [harb, if_neg (hformed.not.2 hw), lanes_around]
    rfl

end Sys2Proof.Machine
end

section
/-! SUPPORT. The steer check, and the link transitions with their notices and records (R57, R86 to R89). -/

namespace Sys2Proof.Machine

/-! ## The steer check (R88) -/

theorem CellEntry.freshEstimate_eq_some_iff (x : CellEntry) (e : Int) : x.freshEstimate = some e ↔ ∃ u, x = .fresh e u := by
  cases x <;> simp [CellEntry.freshEstimate]

theorem Crane.steerFree_iff (c : Crane) (arrival : Nat) : c.steerFree arrival = true ↔ ∀ e, c.steerHoldoff = some e → e ≤ arrival := by
  unfold Crane.steerFree
  cases c.steerHoldoff <;> simp

section
variable (s : State) (i : Fin 16)

/-- The first three conditions of R88, for the best cell and the margin of the notice. -/
def State.Steers (q : Fin 512) (serving best : Fin 24) (es eb : Int) (u : Nat) : Prop :=
  (s.crane i).square = some q ∧ s.grid.cellIndex (s.crane i).serving = some serving ∧
    (s.square q).entries.get serving = .fresh es u ∧ (s.square q).best = some best ∧ (s.square q).bestEstimate = some eb ∧
    best ≠ serving ∧ (s.grid.params.steerMargin : Int) * 8 ≤ eb - es

theorem State.steerCase_of_steers {s : State} {i : Fin 16} {q : Fin 512} {serving best : Fin 24} {es eb : Int} {u : Nat}
    (h : s.Steers i q serving best es eb u) : s.steerCase i = some (best, eb - es) := by
  obtain ⟨hsquare, hserving, hfresh, hbest, hestimate, hne, hmargin⟩ := h
  simp [State.steerCase, hsquare, hserving, hbest, hestimate, hfresh, CellEntry.freshEstimate, hne, hmargin]

theorem State.steers_of_steerCase {s : State} {i : Fin 16} {best : Fin 24} {margin : Int} (h : s.steerCase i = some (best, margin)) :
    ∃ q serving es eb u, s.Steers i q serving best es eb u := by
  unfold State.steerCase at h
  split at h
  · cases h
  · next q hsquare =>
    split at h
    · next serving b eb hserving hbest hestimate =>
      split at h
      · next es hfresh =>
        obtain ⟨u, hu⟩ := (CellEntry.freshEstimate_eq_some_iff _ _).1 hfresh
        split at h
        · next hcond =>
          obtain rfl : b = best := by simpa using congrArg (Option.map Prod.fst) h
          exact ⟨q, serving, es, eb, u, hsquare, hserving, hu, hbest, hestimate, hcond.1, hcond.2⟩
        · cases h
      · cases h
    · cases h

end

/-- Settles O31: the code's case is the conditions of R88, in both directions. -/
theorem steerPostedWhenDue : Obligations.SteerPostedWhenDue := by
  refine fun s i arrival => ⟨fun q serving best es eb u hdue => ?_, fun hnone => ?_⟩
  · obtain ⟨hlink, hsquare, hserving, hfresh, hbest, hestimate, hne, hmargin, hfree⟩ := hdue
    have hcase := State.steerCase_of_steers ⟨hsquare, hserving, hfresh, hbest, hestimate, hne, hmargin⟩
    simp only [State.steerCheck, if_pos hlink, hcase, if_pos ((Crane.steerFree_iff _ _).2 hfree)]
    rfl
  · unfold State.steerCheck
    by_cases hlink : (s.crane i).link = .linked ∨ (s.crane i).link = .degraded
    · simp only [if_pos hlink]
      cases hcase : s.steerCase i with
      | none => rfl
      | some x =>
        obtain ⟨best, margin⟩ := x
        obtain ⟨q, serving, es, eb, u, hsquare, hserving, hfresh, hbest, hestimate, hne, hmargin⟩ := State.steers_of_steerCase hcase
        refine if_neg fun hfree => hnone ⟨q, serving, best, es, eb, u, hlink, hsquare, hserving, hfresh, hbest, hestimate, hne, hmargin, ?_⟩
        exact (Crane.steerFree_iff _ _).1 hfree
    · simp only [if_neg hlink]

/-! ## Slots that expire with an entry into DEGRADED (R56, R57) -/

section
variable {s : State} {i : Fin 16}

/-- The notice of a slot that expires (R56). -/
def UnsentNotice (i : Fin 16) (stamp : Stamp) (c : Crane) (n : Nat) : Notice :=
  noticeOf .unsent i.val stamp n (c.slot n).sequence (c.slot n).deadline

theorem State.expireSlot_notice (s : State) (i : Fin 16) (n : Nat) :
    (s.expireSlot i n).notice = s.notice.take (UnsentNotice i s.stamp (s.crane i) n) := rfl

theorem State.expireSlot_crane_self (s : State) (i : Fin 16) (n : Nat) : (s.expireSlot i n).crane i = (s.crane i).afterExpiry n := by
  rw [State.expireSlot_crane, if_pos rfl]

/-- The slots passed at the head of the list expire one after the other. -/
theorem State.expirePassed_eq (h : PendingWf (s.crane i)) {k : Nat} (hk : (s.crane i).pendingSlots.length ≤ k) :
    s.expirePassed i k = ((s.crane i).passedSlots s.time.lt).foldl (fun t n => t.expireSlot i n) s := by
  induction k generalizing s with
  | zero =>
    have hnil : (s.crane i).pendingSlots = [] := List.length_eq_zero_iff.1 (by omega)
    simp [State.expirePassed, Crane.passedSlots, hnil]
  | succ k ih =>
    rw [State.expirePassed, State.passedHead_eq]
    obtain ⟨hhead, hslots⟩ | ⟨n, hhead, hslots, hlength⟩ := h.passedSlots_cases s.time.lt
    · rw [hhead, hslots]
      rfl
    · have hcrane := s.expireSlot_crane_self i n
      rw [hhead, hslots, List.foldl_cons, ← hcrane]
      exact ih (by rw [hcrane]; exact h.afterExpiry n) (by rw [hcrane]; omega)

/-- Expiries of different slots, one after the other, give each its own notice. -/
theorem State.expireSlots_notice {l : List Nat} (hl : l.Nodup) :
    (l.foldl (fun t n => t.expireSlot i n) s).notice = (l.map (UnsentNotice i s.stamp (s.crane i))).foldl NoticeUnit.take s.notice := by
  induction l generalizing s with
  | nil => rfl
  | cons n l ih =>
    obtain ⟨hn, hl⟩ := List.nodup_cons.1 hl
    rw [List.foldl_cons, ih hl, List.map_cons, List.foldl_cons, State.expireSlot_notice, State.expireSlot_crane_self]
    congr 1
    refine List.map_congr_left fun m hm => ?_
    have hmn : m ≠ n := by rintro rfl; exact hn hm
    rw [UnsentNotice, UnsentNotice, (s.crane i).afterExpiry_slot_other hmn]
    rfl

theorem State.expirePassed_marks (s : State) (i : Fin 16) (k : Nat) : (s.expirePassed i k).scratch.deferred = s.scratch.deferred ∧
    (s.expirePassed i k).scratch.craneDue = s.scratch.craneDue := by
  induction k generalizing s with
  | zero => exact ⟨rfl, rfl⟩
  | succ k ih =>
    rw [State.expirePassed]
    split
    · exact ih _
    · exact ⟨rfl, rfl⟩

/-- The slots that pass at an entry into DEGRADED are those at the head whose deadlines have passed (R57). -/
theorem Crane.passedSlots_expireAtEntry (c : Crane) (lt : Nat) : ExpireAtEntry c lt (c.passedSlots lt) := by
  refine ⟨List.takeWhile_prefix _, fun n hn => by simpa using List.mem_takeWhile_imp hn, fun n hn => ?_⟩
  rw [← List.takeWhile_append_dropWhile (p := fun n => decide ((c.slot n).deadline < lt)) (l := c.pendingSlots)] at hn
  rw [Crane.passedSlots, List.getElem?_append_right (Nat.le_refl _), Nat.sub_self, ← List.head?_eq_getElem?] at hn
  have hnot := List.head?_dropWhile_not (fun n => decide ((c.slot n).deadline < lt)) c.pendingSlots
  rw [hn] at hnot
  simpa using hnot

theorem State.weakSquare_iff (s : State) (i : Fin 16) : s.weakSquare i = true ↔
    ∃ q, (s.crane i).square = some q ∧ ((s.square q).state = .hole ∨ (s.square q).state = .marginal) := by
  unfold State.weakSquare
  cases (s.crane i).square with
  | none => simp
  | some q => cases hstate : (s.square q).state <;> simp [SquareState.weak, hstate]

theorem Crane.tooManyErrors_iff (c : Crane) : c.tooManyErrors = true ↔ c.params.degrade ≤ c.errors.countP (· != .good) := by
  unfold Crane.tooManyErrors Crane.errorCount
  exact decide_eq_true_iff

/-- The record of a crane is written by the judging work, or called for where its uplink record is being handled (R79, R89). -/
theorem State.writeCraneMirror_arb_eq (u : State) (i : Fin 16) : (u.writeCraneMirror i).arb =
    if u.scratch.deferred = some i then u.arb else WithCraneMirror u.scratch.work u.arb (u.writeCraneMirror i) i := by
  split
  · next h => simp [State.writeCraneMirror, h]
  · next h =>
    rw [State.writeCraneMirror_arb h]
    exact WithCraneMirror.congr (State.mirrorBase_congr (by simp) _).symm (State.crane_of_cranes (by simp) i).symm

theorem State.cranes_eq_upd {t : State} {c : Crane} (h : ∀ j, t.crane j = if j = i then c else s.crane j) : t.cranes = upd s.cranes i c :=
  vector_ext_get fun j => (h j).trans (upd_get ..).symm

/-- An entry into DEGRADED up to its notice, and then step by step (R57, R87). -/
def State.degrading (s : State) (i : Fin 16) : State :=
  (s.setCrane i ({ s.crane i with link := .degraded } : Crane).capDeadlines).raise .degraded i.val (word (s.crane i).link.code)
    (word (s.crane i).errorCount) (word (degradedCause (s.crane i).tooManyErrors (s.weakSquare i)))

theorem State.enterDegraded_eq (s : State) (i : Fin 16) :
    s.enterDegraded i = ((s.degrading i).expirePassed i (s.crane i).pendingSlots.length).writeCraneMirror i := rfl

theorem State.degrading_crane (s : State) (i : Fin 16) : (s.degrading i).crane i = ({ s.crane i with link := .degraded } : Crane).capDeadlines := by
  rw [State.degrading, State.crane_of_cranes (State.raise_cranes ..), State.setCrane_crane_self]

/-- An entry into LINKED up to its notice (R87). -/
def State.linking (s : State) (i : Fin 16) (k : NoticeKind) : State :=
  (s.setCrane i { s.crane i with link := .linked }).raise k i.val (word (s.crane i).link.code) (word (s.crane i).errorCount)
    (squareWord i.val s.time.lt (s.crane i).square)

theorem State.enterLinked_eq (s : State) (i : Fin 16) (k : NoticeKind) : s.enterLinked i k = (s.linking i k).writeCraneMirror i := rfl

theorem State.entersDegraded (h : PendingWf (s.crane i)) : EntersDegraded s (s.enterDegraded i) i := by
  have hlink : PendingWf ({ s.crane i with link := .degraded } : Crane) := h.of_fields rfl rfl rfl
  obtain ⟨hcapped, hlength⟩ := hlink.capDeadlines
  have hcause : degradedCause (s.crane i).tooManyErrors (s.weakSquare i) =
      (if (s.crane i).params.degrade ≤ (s.crane i).errors.countP (· != .good) then 1 else 0) +
      (if ∃ q, (s.crane i).square = some q ∧ ((s.square q).state = .hole ∨ (s.square q).state = .marginal) then 2 else 0) := by
    rw [← if_congr (Crane.tooManyErrors_iff _) rfl rfl, ← if_congr (s.weakSquare_iff i) rfl rfl, degradedCause]
    cases (s.crane i).tooManyErrors <;> cases s.weakSquare i <;> rfl
  refine ⟨_, Crane.passedSlots_expireAtEntry _ s.time.lt, State.cranes_eq_upd fun j => ?_, ?_, ?_⟩
  · rw [s.enterDegraded_crane, Crane.degradedAt, hcapped.expirePassed _ hlength.le]
  · rw [s.enterDegraded_eq, State.writeCraneMirror_notice, State.expirePassed_eq (by rw [State.degrading_crane]; exact hcapped) (by rw [State.degrading_crane]; exact hlength.le),
      State.expireSlots_notice (by rw [State.degrading_crane]; exact (List.takeWhile_sublist _).nodup hcapped.2.1), State.degrading_crane, State.degrading, State.raise_notice, hcause]
    rfl
  · rw [s.enterDegraded_eq, State.writeCraneMirror_arb_eq, (State.expirePassed_marks ..).1, (State.expirePassed_emits ..).work,
      State.expirePassed_arb]
    rfl

theorem State.entersLinked (k : NoticeKind) {p : Fin 512} (h : (s.crane i).square = some p) : EntersLinked s (s.enterLinked i k) i k p := by
  refine ⟨State.cranes_eq_upd fun j => s.enterLinked_crane i j k, ?_, State.writeCraneMirror_arb_eq ..⟩
  rw [State.enterLinked_eq, State.writeCraneMirror_notice, State.linking, State.raise_notice, h]
  rfl

end

/-! ## A change of a square's state (R86) -/

section
variable {s : State} {i : Fin 16} {q : Fin 512} {before after : SquareState}

theorem SquareState.weak_iff (x : SquareState) : x.weak = true ↔ x = .hole ∨ x = .marginal := by
  cases x <;> simp [SquareState.weak]

/-- No crane of the list stands in the square: none is judged. -/
theorem State.judge_unoccupied {l : List (Fin 16)} (h : ∀ j ∈ l, (s.crane j).square ≠ some q) :
    l.foldl (fun t j => if (t.crane j).square = some q then t.judgeOnSquare j before after else t) s = s := by
  induction l with
  | nil => rfl
  | cons j l ih =>
    rw [List.foldl_cons, if_neg (h j (by simp))]
    exact ih fun m hm => h m (by simp [hm])

/-- Where one crane stands in the square, it alone is judged. -/
theorem State.reportSquare_alone (hq : (s.crane i).square = some q) (hother : ∀ j, j ≠ i → (s.crane j).square ≠ some q) :
    s.reportSquare q before after = s.judgeOnSquare i before after := by
  obtain ⟨l, l', hsplit⟩ := List.append_of_mem (List.mem_finRange i)
  have hnodup : (l ++ i :: l').Nodup := hsplit ▸ List.nodup_finRange 16
  have hl : ∀ j ∈ l ++ l', j ≠ i := fun j hj hji => (List.nodup_middle.1 hnodup |> List.nodup_cons.1).1 (hji ▸ hj)
  rw [State.reportSquare, hsplit, List.foldl_append, List.foldl_cons,
    State.judge_unoccupied fun j hj => hother j (hl j (by simp [hj])), if_pos hq]
  refine State.judge_unoccupied fun j hj => ?_
  have hji := hl j (by simp [hj])
  rw [State.judgeOnSquare_crane, if_neg hji]
  exact hother j hji

end

/-- Settles O32: each crane is judged by itself, and the transitions' effects are those of R57 and R87. -/
theorem squareChangeJudgesCranes : Obligations.SquareChangeJudgesCranes := by
  intro s q before after _ _ weak i
  have hweak (x : SquareState) : x.weak = true ↔ weak x := x.weak_iff
  have herrors := Crane.tooManyErrors_iff (s.crane i)
  have hcrane := s.reportSquare_crane i q before after
  refine ⟨fun hq => ?_, fun hq => ?_, State.entersDegraded, fun k p hp => State.entersLinked k hp⟩
  · rw [hcrane, if_neg hq]
  · rw [if_pos hq, Crane.judgedOnSquare] at hcrane
    rw [hcrane]
    refine ⟨fun hlink hw => ?_, fun hlink hw => ?_, fun hlink hw hb he => ?_, fun hlink hw => ?_, fun hlink => ?_, fun hother => ⟨?_, ?_⟩⟩
    · simp only [hlink, (hweak _).2 hw, if_true, (Crane.degradedAt_fields _ _).1]
    · simp [hlink, (hweak after).not.2 hw]
    · simp [hlink, (hweak after).not.2 hw, (hweak _).2 hb, herrors.not.2 (Nat.not_le.2 he)]
    · obtain hw | hw | hw := hw
      · simp [hlink, (hweak after).2 hw]
      · simp [hlink, (hweak before).not.2 hw]
      · simp [hlink, herrors.2 hw]
    · obtain hlink | hlink := hlink <;> simp [hlink]
    · intro hlink hw
      rw [State.reportSquare_alone hq hother]
      simp [State.judgeOnSquare, hlink, (hweak after).2 hw]
    · intro hlink hw hb he
      rw [State.reportSquare_alone hq hother]
      simp [State.judgeOnSquare, hlink, (hweak after).not.2 hw, (hweak _).2 hb, herrors.not.2 (Nat.not_le.2 he)]

end Sys2Proof.Machine
end

section
/-! SUPPORT. Uplink records: outcomes, and when the crane's mirror record is called for (R76 to R80, R89). -/

namespace Sys2Proof.Machine

/-! ## The judgement of the header (R76, R77) -/

section
variable {c : Crane} {r : List Byte}

theorem Crane.judgeHeader_of_unused {o : UplinkOutcome} (h : UnusedOutcome c r o) : c.judgeHeader r = .unused o := by
  cases o with
  | check =>
    have hword : checkWord (r.take 14) ≠ field r 14 2 := h
    simp [Crane.judgeHeader, checkWordGood, hword]
  | framing =>
    obtain ⟨hword, hframing⟩ := h
    simp [Crane.judgeHeader, checkWordGood, hword, hframing]
  | sequence =>
    obtain ⟨hword, hkind, hid, hband, e, he, hdiff⟩ := h
    simp [Crane.judgeHeader, checkWordGood, hword, hkind, hid, Nat.not_lt.2 hband, he, hdiff]
  | good => exact absurd h id
  | missing => exact absurd h id
  | cadence => exact absurd h id

theorem Crane.judgeHeader_of_inSequence {missing : Nat} (h : InSequence c r missing) : c.judgeHeader r = .inSequence missing := by
  obtain ⟨hword, hkind, hid, hband, hexpected⟩ := h
  cases he : c.expected with
  | none =>
    rw [he] at hexpected
    obtain rfl : missing = 0 := hexpected
    simp [Crane.judgeHeader, checkWordGood, hword, hkind, hid, Nat.not_lt.2 hband, he]
  | some e =>
    rw [he] at hexpected
    obtain ⟨hdiff, rfl⟩ := hexpected
    have hnot : ¬32768 ≤ seqDiff (UplinkHeader.read r).sequence e := by omega
    simp [Crane.judgeHeader, checkWordGood, hword, hkind, hid, Nat.not_lt.2 hband, he, hnot]

theorem Crane.early_iff (arrival : Nat) : c.early arrival = true ↔ Early c arrival := by
  unfold Crane.early Early
  cases c.prevArrival <;> simp

end

/-! ## Outcomes (R80, R81) -/

theorem ErrorsAfter_append (l a b : List UplinkOutcome) : ErrorsAfter (ErrorsAfter l a) b = ErrorsAfter l (a ++ b) := by
  unfold ErrorsAfter
  rw [← List.append_assoc]
  generalize l ++ a = x
  rw [← List.drop_append_of_le_length (Nat.sub_le _ _), List.drop_drop]
  congr 1
  simp only [List.length_drop, List.length_append]
  omega

section
variable (s : State) (i : Fin 16)

/-- The crane after one outcome (R80). -/
theorem Crane.giveOutcome_eq (c : Crane) (o : UplinkOutcome) : c.giveOutcome o = { c with
    errors := ErrorsAfter c.errors [o], goodCount := if o = .good then min (c.goodCount + 1) 15 else 0 } := rfl

/-- The crane after a number of MISSING outcomes and the record's own (R77 to R80). -/
def Crane.outcomes (c : Crane) (missing : Nat) (own : UplinkOutcome) : Crane :=
  { c with
    errors := ErrorsAfter c.errors (List.replicate missing .missing ++ [own])
    goodCount := if own = .good then (if missing = 0 then min (c.goodCount + 1) 15 else 1) else 0 }

/-- The notices after an outcome has set its flag (R81). -/
theorem State.giveOutcome_notice (o : UplinkOutcome) :
    (s.giveOutcome i o).notice = { s.notice with flags := s.notice.flags ||| OutcomeFlag o } := by
  cases o
  case good => simp [State.giveOutcome, UplinkOutcome.flag, OutcomeFlag]
  all_goals rfl

theorem State.giveOutcome_cranes (o : UplinkOutcome) :
    (s.giveOutcome i o).cranes = upd s.cranes i ((s.crane i).giveOutcome o) := by
  cases o <;> rfl

/-- An outcome leaves the event's marks alone but for a call for the status block. -/
theorem State.giveOutcome_scratch (o : UplinkOutcome) : (s.giveOutcome i o).scratch.work = s.scratch.work ∧
    (s.giveOutcome i o).scratch.deferred = s.scratch.deferred ∧ (s.giveOutcome i o).scratch.craneDue = s.scratch.craneDue := by
  cases o <;> exact ⟨rfl, rfl, rfl⟩

/-- The outcomes of a record in sequence, one by one (R77). -/
def State.giveOutcomes (missing : Nat) (own : UplinkOutcome) : State := (s.giveMissing i missing).giveOutcome i own

theorem State.giveOutcomes_cranes (missing : Nat) (own : UplinkOutcome) :
    (s.giveOutcomes i missing own).cranes = upd s.cranes i ((s.crane i).outcomes missing own) := by
  induction missing generalizing s with
  | zero => exact s.giveOutcome_cranes i own
  | succ k ih =>
    have hcrane : (s.giveOutcome i .missing).crane i = (s.crane i).giveOutcome .missing := by
      rw [State.crane, State.giveOutcome_cranes, upd_get_self]
    refine (ih (s.giveOutcome i .missing)).trans ?_
    rw [hcrane, State.giveOutcome_cranes, upd_upd, Crane.giveOutcome_eq, Crane.outcomes, Crane.outcomes, ErrorsAfter_append, List.replicate_succ]
    simp

theorem State.giveOutcomes_notice (missing : Nat) (own : UplinkOutcome) : (s.giveOutcomes i missing own).notice =
    { s.notice with flags := s.notice.flags ||| (if missing = 0 then 0 else OutcomeFlag .missing) ||| OutcomeFlag own } := by
  induction missing generalizing s with
  | zero =>
    refine (s.giveOutcome_notice i own).trans ?_
    simp
  | succ k ih =>
    refine (ih (s.giveOutcome i .missing)).trans ?_
    rw [State.giveOutcome_notice]
    cases k <;> simp [BitVec.or_assoc]

theorem State.giveOutcomes_scratch (missing : Nat) (own : UplinkOutcome) :
    (s.giveOutcomes i missing own).scratch.work = s.scratch.work ∧ (s.giveOutcomes i missing own).scratch.deferred = s.scratch.deferred ∧
      (s.giveOutcomes i missing own).scratch.craneDue = s.scratch.craneDue := by
  induction missing generalizing s with
  | zero => exact s.giveOutcome_scratch i own
  | succ k ih =>
    obtain ⟨hwork, hdeferred, hdue⟩ := s.giveOutcome_scratch i .missing
    obtain ⟨hwork', hdeferred', hdue'⟩ := ih (s.giveOutcome i .missing)
    exact ⟨hwork'.trans hwork, hdeferred'.trans hdeferred, hdue'.trans hdue⟩

end

/-! ## When the crane's mirror record is called for (R79, R89) -/

/-- t comes from s while the uplink record of crane i is handled, and calls for the crane's mirror record exactly if its link state
differs. -/
structure CallsForRecord (i : Fin 16) (s t : State) : Prop where
  deferred : t.scratch.deferred = s.scratch.deferred
  due : s.scratch.deferred = some i →
    (t.scratch.craneDue = true ↔ s.scratch.craneDue = true ∨ (t.crane i).link ≠ (s.crane i).link)

namespace CallsForRecord
variable {i : Fin 16} {s t u : State}

theorem of_same (hdeferred : t.scratch.deferred = s.scratch.deferred) (hdue : t.scratch.craneDue = s.scratch.craneDue)
    (hlink : (t.crane i).link = (s.crane i).link) : CallsForRecord i s t :=
  ⟨hdeferred, fun _ => by simp [hdue, hlink]⟩

theorem refl (s : State) : CallsForRecord i s s := .of_same rfl rfl rfl

/-- Two parts, where a link state that the first changes is left by the second. -/
theorem trans (h : CallsForRecord i s t) (h' : CallsForRecord i t u)
    (hlink : (t.crane i).link ≠ (s.crane i).link → (u.crane i).link = (t.crane i).link) : CallsForRecord i s u := by
  refine ⟨h'.deferred.trans h.deferred, fun hs => ?_⟩
  rw [h'.due (h.deferred.trans hs), h.due hs]
  by_cases heq : (t.crane i).link = (s.crane i).link
  · simp [heq]
  · simp [hlink heq, heq]

end CallsForRecord

section
variable (s : State) (i j : Fin 16)

theorem State.writeCraneMirror_marks : (s.writeCraneMirror j).scratch.deferred = s.scratch.deferred ∧
    ((s.writeCraneMirror j).scratch.craneDue = true ↔ s.scratch.craneDue = true ∨ s.scratch.deferred = some j) := by
  unfold State.writeCraneMirror
  split
  · next h => simp [h]
  · next h => simp [h]

theorem State.enterDegraded_calls (h : j = i → (s.crane i).link ≠ .degraded) : CallsForRecord i s (s.enterDegraded j) := by
  obtain ⟨hdeferred, hdue⟩ := State.writeCraneMirror_marks ((s.degrading j).expirePassed j (s.crane j).pendingSlots.length) j
  rw [← s.enterDegraded_eq, (State.expirePassed_marks ..).1] at hdeferred hdue
  rw [(State.expirePassed_marks ..).2] at hdue
  refine ⟨hdeferred, fun hs => hdue.trans (or_congr Iff.rfl ?_)⟩
  have hs : (s.degrading j).scratch.deferred = some i := hs
  rw [hs, Option.some_inj, State.enterDegraded_crane]
  by_cases hij : i = j
  · subst hij
    rw [if_pos rfl, (Crane.degradedAt_fields ..).1]
    simpa using (h rfl).symm
  · simp [hij]

theorem State.enterLinked_calls (k : NoticeKind) (h : j = i → (s.crane i).link ≠ .linked) : CallsForRecord i s (s.enterLinked j k) := by
  obtain ⟨hdeferred, hdue⟩ := State.writeCraneMirror_marks (s.linking j k) j
  rw [← s.enterLinked_eq] at hdeferred hdue
  refine ⟨hdeferred, fun hs => hdue.trans (or_congr Iff.rfl ?_)⟩
  have hs : (s.linking j k).scratch.deferred = some i := hs
  rw [hs, Option.some_inj, State.enterLinked_crane]
  by_cases hij : i = j
  · subst hij
    simpa using (h rfl).symm
  · simp [hij]

theorem State.judgeOnSquare_calls (before after : SquareState) : CallsForRecord i s (s.judgeOnSquare j before after) := by
  unfold State.judgeOnSquare
  dsimp only
  split
  · next hlink =>
    split
    · exact s.enterDegraded_calls i j fun hj => by simp [← hj, hlink]
    · exact .refl s
  · next hlink =>
    split
    · exact s.enterLinked_calls i j _ fun hj => by simp [← hj, hlink]
    · exact .refl s
  · exact .refl s
  · exact .refl s

theorem State.judgeOnRecord_calls (own : UplinkOutcome) : CallsForRecord i s (s.judgeOnRecord i own) := by
  unfold State.judgeOnRecord
  dsimp only
  split
  · next hlink =>
    split
    · split
      · exact s.enterDegraded_calls i i fun _ => by simp [hlink]
      · exact s.enterLinked_calls i i _ fun _ => by simp [hlink]
    · exact .refl s
  · next hlink =>
    split
    · exact s.enterDegraded_calls i i fun _ => by simp [hlink]
    · exact .refl s
  · next hlink =>
    split
    · exact .refl s
    · exact s.enterLinked_calls i i _ fun _ => by simp [hlink]
  · exact .refl s

/-- The cranes of a list, judged one by one, call for the record of crane i where they change its link state. -/
theorem State.judgeList_calls (q : Fin 512) (before after : SquareState) {l : List (Fin 16)} (hl : l.Nodup) :
    let t := l.foldl (fun t j => if (t.crane j).square = some q then t.judgeOnSquare j before after else t) s
    CallsForRecord i s t ∧ (i ∉ l → t.crane i = s.crane i) := by
  induction l generalizing s with
  | nil => exact ⟨.refl s, fun _ => rfl⟩
  | cons j l ih =>
    obtain ⟨hj, hl⟩ := List.nodup_cons.1 hl
    have hstep : ∃ u, u = (if (s.crane j).square = some q then s.judgeOnSquare j before after else s) ∧ CallsForRecord i s u ∧
        (i ≠ j → u.crane i = s.crane i) := by
      refine ⟨_, rfl, ?_⟩
      split
      · exact ⟨s.judgeOnSquare_calls i j .., fun hij => by rw [State.judgeOnSquare_crane, if_neg hij]⟩
      · exact ⟨.refl s, fun _ => rfl⟩
    obtain ⟨u, hu, hcalls, hsame⟩ := hstep
    obtain ⟨hrest, hkeep⟩ := ih u hl
    rw [List.foldl_cons, ← hu]
    refine ⟨hcalls.trans hrest fun hlink => ?_, fun hi => ?_⟩
    · have hij : i = j := by
        by_contra hij
        exact hlink (by rw [hsame hij])
      rw [hkeep (hij ▸ hj)]
    · rw [hkeep (by simp_all), hsame (by simp_all)]

theorem State.reportSquare_calls (q : Fin 512) (before after : SquareState) : CallsForRecord i s (s.reportSquare q before after) :=
  (s.judgeList_calls i q before after (List.nodup_finRange 16)).1

theorem State.changeSquare_calls (q : Fin 512) (entries : Vector CellEntry 24) : CallsForRecord i s (s.changeSquare q entries) := by
  have hsame (x : Square) : CallsForRecord i s (s.setSquare q x) := .of_same rfl rfl rfl
  have hmirror (u : State) : CallsForRecord i u (u.writeGridMirror q) :=
    .of_same rfl rfl (congrArg Crane.link (State.crane_of_cranes (by simp) i))
  unfold State.changeSquare
  dsimp only
  generalize ({ s.square q with entries := entries } : Square).summarised s.grid.params s.stamp = x
  refine (hsame x).trans ?_ fun hlink => absurd rfl hlink
  by_cases hstate : ((s.setSquare q x).square q).state = (s.square q).state
  · rw [State.afterRecompute_of_kept hstate]
    split
    · exact .refl _
    · exact hmirror _
  · rw [State.afterRecompute_of_changed hstate]
    generalize (s.setSquare q x) = u
    have hraise (k : NoticeKind) (v1 v2 v3 : Word) : CallsForRecord i u (u.raise k q.val v1 v2 v3) := .of_same rfl rfl rfl
    refine ((hraise ..).trans (hmirror _) fun hlink => absurd rfl hlink).trans (State.reportSquare_calls ..) fun hlink => absurd ?_ hlink
    exact congrArg Crane.link (State.crane_of_cranes (by simp) i)

theorem State.sample_calls (segment band identity : Nat) (level : Int) (arrival : Nat) (src : SampleSource) :
    CallsForRecord i s (s.sample segment band identity level arrival src) := by
  unfold State.sample
  dsimp only
  split
  · exact s.changeSquare_calls ..
  · unfold State.unknownSample
    dsimp only
    split <;> exact .of_same rfl rfl rfl

theorem State.steerCheck_calls (arrival : Nat) : CallsForRecord i s (s.steerCheck i arrival) := by
  unfold State.steerCheck
  dsimp only
  have hraise (hold : Option Nat) (v1 v2 v3 : Word) :
      CallsForRecord i s ((s.setCrane i { s.crane i with steerHoldoff := hold }).raise .steer i.val v1 v2 v3) := by
    refine .of_same rfl rfl ?_
    rw [State.crane_of_cranes (State.raise_cranes ..), State.setCrane_crane_self]
  split
  · split
    · split
      · exact hraise ..
      · exact .refl s
    · exact .refl s
  · exact .refl s

end

/-! ## What a crane keeps when its link state is judged (R57, R84 to R86) -/

section
variable {c d e : Crane}

/-- d is c but for its link state and what expiries of slots change. -/
def Crane.Relinked (c d : Crane) : Prop :=
  ∃ link slots pending unsent, d = { c with link := link, slots := slots, pendingSlots := pending, unsent := unsent }

theorem Crane.Relinked.refl (c : Crane) : c.Relinked c := ⟨_, _, _, _, rfl⟩

theorem Crane.Relinked.trans (h : c.Relinked d) (h' : d.Relinked e) : c.Relinked e := by
  obtain ⟨_, _, _, _, rfl⟩ := h
  obtain ⟨_, _, _, _, rfl⟩ := h'
  exact ⟨_, _, _, _, rfl⟩

theorem Crane.Relinked.eq (h : c.Relinked d) :
    d = { c with link := d.link, slots := d.slots, pendingSlots := d.pendingSlots, unsent := d.unsent } := by
  obtain ⟨_, _, _, _, rfl⟩ := h
  rfl

theorem Crane.expirePassed_relinked (c : Crane) (lt k : Nat) : c.Relinked (c.expirePassed lt k) := by
  induction k generalizing c with
  | zero => exact .refl c
  | succ k ih =>
    rw [Crane.expirePassed]
    split
    · next n _ =>
      have hexpiry : c.Relinked (c.afterExpiry n) := ⟨_, _, _, _, rfl⟩
      exact hexpiry.trans (ih _)
    · exact .refl c

theorem Crane.degradedAt_relinked (c : Crane) (lt : Nat) : c.Relinked (c.degradedAt lt) := by
  have hcapped : c.Relinked ({ c with link := .degraded } : Crane).capDeadlines := ⟨_, _, _, _, rfl⟩
  exact hcapped.trans (Crane.expirePassed_relinked ..)

theorem Crane.judgedOnSquare_relinked (c : Crane) (lt : Nat) (before after : SquareState) :
    c.Relinked (c.judgedOnSquare lt before after) := by
  unfold Crane.judgedOnSquare
  split
  · split
    exacts [c.degradedAt_relinked lt, .refl c]
  · split
    exacts [⟨_, _, _, _, rfl⟩, .refl c]
  · exact .refl c
  · exact .refl c

theorem Crane.judgedOnRecord_relinked (c : Crane) (lt : Nat) (own : UplinkOutcome) (weak : Bool) :
    c.Relinked (c.judgedOnRecord lt own weak) := by
  have hlinked : c.Relinked { c with link := .linked } := ⟨_, _, _, _, rfl⟩
  unfold Crane.judgedOnRecord
  split
  · split
    · split
      exacts [c.degradedAt_relinked lt, hlinked]
    · exact .refl c
  · split
    exacts [c.degradedAt_relinked lt, .refl c]
  · split
    exacts [.refl c, hlinked]
  · exact .refl c

/-- A judgement that leaves the link state leaves the crane. -/
theorem Crane.judgedOnRecord_of_link {lt : Nat} {own : UplinkOutcome} {weak : Bool} (h : (c.judgedOnRecord lt own weak).link = c.link) :
    c.judgedOnRecord lt own weak = c := by
  have hdegraded := (c.degradedAt_fields lt).1
  unfold Crane.judgedOnRecord at h ⊢
  cases hlink : c.link with
  | lost =>
    simp only [hlink] at h ⊢
    split at h
    · split at h
      · rw [hdegraded] at h; cases h
      · cases h
    · next hg => rw [if_neg hg]
  | linked =>
    simp only [hlink] at h ⊢
    split at h
    · rw [hdegraded] at h; cases h
    · next hb => rw [if_neg hb]
  | degraded =>
    simp only [hlink] at h ⊢
    split at h
    · next hb => rw [if_pos hb]
    · cases h
  | dormant => rfl

/-- A crane that its square's change has brought to another link state keeps it at the end of the record (R85, R86). -/
theorem Crane.judgedOnRecord_judgedOnSquare {lt lt' : Nat} {before after : SquareState} {own : UplinkOutcome}
    (h : (c.judgedOnSquare lt before after).link ≠ c.link) :
    (c.judgedOnSquare lt before after).judgedOnRecord lt' own after.weak = c.judgedOnSquare lt before after := by
  have hdegraded := (c.degradedAt_fields lt).1
  unfold Crane.judgedOnSquare at h ⊢
  cases hlink : c.link with
  | linked =>
    simp only [hlink] at h ⊢
    split at h
    · next hw => simp [hw, Crane.judgedOnRecord, hdegraded]
    · exact absurd hlink h
  | degraded =>
    simp only [hlink] at h ⊢
    split at h
    · next hr =>
      rw [if_pos hr]
      simp only [Bool.and_eq_true, Bool.not_eq_true'] at hr
      have herrors : ({ c with link := .linked } : Crane).tooManyErrors = c.tooManyErrors := rfl
      simp [Crane.judgedOnRecord, herrors, hr]
    · exact absurd hlink h
  | lost => simp [hlink] at h
  | dormant => simp [hlink] at h

end

/-- A crane whose link state a sample has changed is left as it is by the judgement at the end of the record. -/
theorem State.judgeOnRecord_sample_link {s : State} {segment band identity arrival : Nat} {level : Int} {src : SampleSource} {i : Fin 16}
    (own : UplinkOutcome) (h : ((s.sample segment band identity level arrival src).crane i).link ≠ (s.crane i).link) :
    (((s.sample segment band identity level arrival src).judgeOnRecord i own).crane i).link =
      ((s.sample segment band identity level arrival src).crane i).link := by
  rw [State.judgeOnRecord_crane, if_pos rfl]
  revert h
  unfold State.sample
  dsimp only
  split
  · next c _ =>
    generalize squareIndex (s.grid.params.clampSegment segment) band = q
    generalize hv : s.changeSquare q _ = v
    have hcrane := s.changeSquare_crane q (upd (s.square q).entries c (((s.square q).entries.get c).sampled level src.weight arrival)) i
    rw [hv] at hcrane
    intro h
    split at hcrane
    · next hcond =>
      have hsquare : (v.crane i).square = some q := by
        obtain ⟨_, _, _, _, heq⟩ := (s.crane i).judgedOnSquare_relinked s.time.lt (s.square q).state (v.square q).state
        rw [hcrane, heq]
        exact hcond.2
      have hweak : v.weakSquare i = (v.square q).state.weak := by
        rw [State.weakSquare_eq, hsquare]
        rfl
      rw [hcrane] at h
      rw [hweak, hcrane, Crane.judgedOnRecord_judgedOnSquare h]
    · rw [hcrane] at h
      exact absurd rfl h
  · intro h
    exact absurd (congrArg Crane.link (State.crane_of_cranes (by simp) i)) h

end Sys2Proof.Machine
end

section
/-! SUPPORT. Uplink records that are not used (R75 to R77, R80, R84, R85). -/

namespace Sys2Proof.Machine

/-! ## The judgement at the end of a record (R84, R85) -/

section
variable (s : State) (i : Fin 16) (own : UplinkOutcome)

theorem judgedBad_iff : JudgedBad s i ↔ ((s.crane i).tooManyErrors || s.weakSquare i) = true := by
  rw [Bool.or_eq_true, Crane.tooManyErrors_iff, State.weakSquare_iff]
  rfl

theorem State.judgedOnRecord : JudgedOnRecord s (s.judgeOnRecord i own) i own := by
  have hbad := judgedBad_iff s i
  unfold JudgedOnRecord State.judgeOnRecord
  dsimp only
  cases (s.crane i).link with
  | dormant => rfl
  | lost =>
    dsimp only
    split
    · exact ⟨fun h => if_pos (hbad.1 h), fun h => if_neg (hbad.not.1 h)⟩
    · rfl
  | linked | degraded => exact ⟨fun h => if_pos (hbad.1 h), fun h => if_neg (hbad.not.1 h)⟩

/-- While the crane's uplink record is being handled, its judgement hands no own write (R79). -/
theorem State.judgeOnRecord_arb_of_deferred (h : s.scratch.deferred = some i) : (s.judgeOnRecord i own).arb = s.arb := by
  have hdegraded : (s.enterDegraded i).arb = s.arb := by
    have h : (s.degrading i).scratch.deferred = some i := h
    rw [s.enterDegraded_eq, State.writeCraneMirror_arb_eq, (State.expirePassed_marks ..).1, if_pos h, State.expirePassed_arb]
    rfl
  have hlinked (k : NoticeKind) : (s.enterLinked i k).arb = s.arb := by
    have h : (s.linking i k).scratch.deferred = some i := h
    rw [s.enterLinked_eq, State.writeCraneMirror_arb_eq, if_pos h]
    rfl
  unfold State.judgeOnRecord
  dsimp only
  split
  · split
    · split
      exacts [hdegraded, hlinked _]
    · rfl
  · split
    exacts [hdegraded, rfl]
  · split
    exacts [rfl, hlinked _]
  · rfl

end

/-- The link state after a judgement, judged on a state in which the crane's errors, counts and square are as they were. -/
theorem linkAfterRecord_of {c : Crane} {lt : Nat} {own : UplinkOutcome} {t : State} {i : Fin 16} {weak : Bool}
    (hparams : (t.crane i).params = c.params) (herrors : (t.crane i).errors = c.errors) (hgood : (t.crane i).goodCount = c.goodCount)
    (hweak : t.weakSquare i = weak) : LinkAfterRecord c.link own t i (c.judgedOnRecord lt own weak).link := by
  have hbad : JudgedBad t i ↔ (c.tooManyErrors || weak) = true := by
    rw [judgedBad_iff, hweak]
    unfold Crane.tooManyErrors Crane.errorCount
    rw [hparams, herrors]
  have hdegraded := (c.degradedAt_fields lt).1
  have hjudged {x y : Crane} : (JudgedBad t i → (if (c.tooManyErrors || weak) = true then x else y).link = x.link) ∧
      (¬JudgedBad t i → (if (c.tooManyErrors || weak) = true then x else y).link = y.link) :=
    ⟨fun h => by rw [if_pos (hbad.1 h)], fun h => by rw [if_neg (hbad.not.1 h)]⟩
  unfold LinkAfterRecord Crane.judgedOnRecord
  rw [hparams, hgood]
  cases hlink : c.link with
  | dormant => exact hlink
  | lost =>
    dsimp only
    split
    · exact ⟨fun h => (hjudged.1 h).trans hdegraded, fun h => hjudged.2 h⟩
    · exact hlink
  | linked => exact ⟨fun h => (hjudged.1 h).trans hdegraded, fun h => (hjudged.2 h).trans hlink⟩
  | degraded => exact ⟨fun h => (hjudged.1 h).trans hlink, fun h => hjudged.2 h⟩

/-! ## What the judgement reads (R84 to R87) -/

/-- The two states agree in what a judgement reads, and in the notices. -/
structure SameLinks (s t : State) : Prop where
  time : t.time = s.time
  cranes : t.cranes = s.cranes
  notice : t.notice = s.notice
  square : ∀ q, t.square q = s.square q

namespace SameLinks
variable {s t : State} (h : SameLinks s t)
include h

theorem crane (i : Fin 16) : t.crane i = s.crane i := State.crane_of_cranes h.cranes i

theorem setCrane (i : Fin 16) (c : Crane) : SameLinks (s.setCrane i c) (t.setCrane i c) :=
  { h with cranes := by rw [State.setCrane_cranes, State.setCrane_cranes, h.cranes] }

theorem raise (k : NoticeKind) (n : Nat) (a b c : Word) : SameLinks (s.raise k n a b c) (t.raise k n a b c) :=
  { h with
    notice := by
      have hnotice : ∀ u : State, (u.raise k n a b c).notice = u.notice.take ⟨k, n, u.stamp, a, b, c⟩ := fun _ => rfl
      have hstamp : t.stamp = s.stamp := by rw [State.stamp, State.stamp, h.time]
      rw [hnotice, hnotice, hstamp, h.notice] }

theorem writeCraneMirror (i : Fin 16) : SameLinks (s.writeCraneMirror i) (t.writeCraneMirror i) where
  time := by simp [h.time]
  cranes := by simp [h.cranes]
  notice := by simp [h.notice]
  square q := by
    have hsame (u : State) : (u.writeCraneMirror i).square q = u.square q := by simp [State.square]
    rw [hsame, hsame, h.square]

theorem expirePassed (i : Fin 16) (k : Nat) : SameLinks (s.expirePassed i k) (t.expirePassed i k) := by
  induction k generalizing s t with
  | zero => exact h
  | succ k ih =>
    unfold State.expirePassed
    rw [State.passedHead_eq, State.passedHead_eq, h.crane, h.time]
    split
    · refine ih ?_
      unfold State.expireSlot
      rw [h.crane]
      exact (h.setCrane i _).raise ..
    · exact h

theorem enterDegraded (i : Fin 16) : SameLinks (s.enterDegraded i) (t.enterDegraded i) := by
  have hweak : t.weakSquare i = s.weakSquare i := by simp only [State.weakSquare, h.crane, h.square]
  unfold State.enterDegraded
  rw [h.crane, hweak]
  exact (((h.setCrane i _).raise _ _ _ _ _).expirePassed i _).writeCraneMirror i

theorem enterLinked (i : Fin 16) (k : NoticeKind) : SameLinks (s.enterLinked i k) (t.enterLinked i k) := by
  unfold State.enterLinked
  rw [h.crane, h.time]
  exact ((h.setCrane i _).raise _ _ _ _ _).writeCraneMirror i

theorem judgeOnRecord (i : Fin 16) (own : UplinkOutcome) : SameLinks (s.judgeOnRecord i own) (t.judgeOnRecord i own) := by
  have hweak : t.weakSquare i = s.weakSquare i := by simp only [State.weakSquare, h.crane, h.square]
  simp only [State.judgeOnRecord, h.crane, hweak]
  cases (s.crane i).link with
  | linked => dsimp only; split; exacts [h.enterDegraded i, h]
  | degraded => dsimp only; split; exacts [h, h.enterLinked i _]
  | lost =>
    dsimp only
    split
    · split
      exacts [h.enterDegraded i, h.enterLinked i _]
    · exact h
  | dormant => exact h

end SameLinks

/-! ## The event of a record (R37, R75, R79) -/

/-- The uplink record of crane i begins to be handled: its mirror record is held back (R79). -/
def State.recording (s : State) (i : Fin 16) : State := s.setScratch { s.scratch with deferred := some i, craneDue := false }

section
variable {s : State} {e : QueueEntry} {rest : List QueueEntry} {i : Fin 16}

theorem uplinkRecordDequeue_next (hs : Free .uplinkJob s) (hq : s.intake.uplink = e :: rest) (hcrane : e.crane = some i) :
    exec .uplinkRecordDequeue s =
      .next ((s.dequeued .uplinkJob { s.intake with uplink := rest } e).uplinkRecord i e.bytes e.arrival).finish := by
  obtain ⟨hreset, -, hheld⟩ := hs
  simp only [exec, execUplinkRecordDequeue]
  rw [event_next hreset (by simp [hq]) hheld]
  simp [hq, hcrane, State.dequeued]

/-- The record of an attached crane is judged, and then the mirror record written where it was called for. -/
theorem State.uplinkRecord_of_attached {p v : State} (hlink : (p.crane i).link ≠ .dormant) {bytes : List Byte} {arrival : Nat}
    (hv : (p.recording i).judgeUplink i bytes arrival = v) :
    let t := p.uplinkRecord i bytes arrival
    t.cranes = v.cranes ∧ t.grid = v.grid ∧ t.notice = v.notice ∧
      t.arb = if v.scratch.craneDue = true then WithCraneMirror v.scratch.work v.arb t i else v.arb := by
  rw [State.recording] at hv
  simp only [State.uplinkRecord, if_neg hlink, hv]
  split
  · next hdue =>
    refine ⟨by simp, by simp, by simp, ?_⟩
    rw [State.writeCraneMirror_arb_eq, if_neg (by simp)]
    rfl
  · exact ⟨rfl, rfl, rfl, rfl⟩

/-- The event of a record of crane i, whatever the record comes to: the cranes, grid and notices are those of its judgement, and its
mirror record comes after the judgement's own writes, if it was called for, and before a status block. -/
theorem uplinkRecord_finish (hs : Free .uplinkJob s) (hq : s.intake.uplink = e :: rest) (hcrane : e.crane = some i)
    (hlink : (s.crane i).link ≠ .dormant) {p v : State} (hp : s.dequeued .uplinkJob { s.intake with uplink := rest } e = p)
    (hv : (p.recording i).judgeUplink i e.bytes e.arrival = v) (hwork : v.scratch.work = .uplinkJob) :
    ∃ t, exec .uplinkRecordDequeue s = .next t ∧ OnlyTouches [.intake, .windows, .cranes, .grid, .notice, .arb] s t ∧
      t.intake = { s.intake with uplink := rest } ∧ CountsTaken s t e ∧ t.cranes = v.cranes ∧ t.grid = v.grid ∧
      t.notice = v.notice.followed ∧
      ThenStatusIfFlagged .uplinkJob s t (if v.scratch.craneDue = true then WithCraneMirror .uplinkJob v.arb t i else v.arb) := by
  obtain ⟨hcranes, hgrid, hnotice, harb⟩ := State.uplinkRecord_of_attached (p := p) (by rw [← hp]; simpa using hlink) hv
  have hcounts := State.dequeued_finish (s := s) (k := .uplinkJob) (q := { s.intake with uplink := rest }) (e := e)
    (v := p.uplinkRecord i e.bytes e.arrival) (by simp [hp]) (by simp [hp])
  obtain ⟨hintake, htaken⟩ := hcounts
  refine ⟨_, hp ▸ uplinkRecordDequeue_next hs hq hcrane, OnlyTouches.finish hs ?_ (.inl (by simp)), hintake, htaken, ?_, ?_, ?_, ?_⟩
  · simp [OnlyTouches, ← hp, State.dequeued]
  · rw [State.finish_cranes, hcranes]
  · rw [State.finish_grid, hgrid]
  · rw [State.finish_notice_followed, hnotice]
  · have hstatus := ThenStatusIfFlagged.of_emits (k := .uplinkJob) (s := s) (p.uplinkRecord_emits i e.bytes e.arrival)
      (by rw [← hp]; simp [EventScratch.idle]) (by rw [← hp]; simp) (by rw [← hp]; simp) (by simp [← hp])
    have hmirror : WithCraneMirror .uplinkJob v.arb (p.uplinkRecord i e.bytes e.arrival) i =
        WithCraneMirror .uplinkJob v.arb (p.uplinkRecord i e.bytes e.arrival).finish i :=
      WithCraneMirror.congr (State.mirrorBase_congr (by simp) _).symm (State.crane_of_cranes (by simp) i).symm
    rwa [harb, hwork, hmirror] at hstatus

end

/-- A step that leaves the grid as it was. -/
theorem OnlyTouches.of_grid {l l' : List Block} {s t : State} (h : OnlyTouches l s t) (hl : ∀ b ∈ l, b ≠ .grid → b ∈ l')
    (hg : t.grid = s.grid) : OnlyTouches l' s t := by
  obtain ⟨h1, h2, h3, h4, h5, h6, htime, hwindows, hintake, harb, hport, hcranes, -, hreefer, hnotice, hcmd, hmirror⟩ := h
  have hmem {b : Block} (hb : b ≠ .grid) (h : b ∈ l) : b ∈ l' := hl b h hb
  exact ⟨h1, h2, h3, h4, h5, h6, htime.imp_left (hmem (by decide)), hwindows.imp_left (hmem (by decide)),
    hintake.imp_left (hmem (by decide)), harb.imp_left (hmem (by decide)), hport.imp_left (hmem (by decide)),
    hcranes.imp_left (hmem (by decide)), .inr hg, hreefer.imp_left (hmem (by decide)), hnotice.imp_left (hmem (by decide)),
    hcmd.imp_left (hmem (by decide)), hmirror.imp_left (hmem (by decide))⟩

/-- Settles O29: the outcome, and the judgement of the link with the mirror record that its transition calls for. -/
theorem unusedUplinkRecord : Obligations.UnusedUplinkRecord := by
  intro s e rest i hs hq hcrane
  refine ⟨fun hdormant => ?_, fun o hlink ho => ?_⟩
  · have hp : (s.dequeued .uplinkJob { s.intake with uplink := rest } e).uplinkRecord i e.bytes e.arrival =
        s.dequeued .uplinkJob { s.intake with uplink := rest } e := by
      rw [State.uplinkRecord, if_pos (by simpa using hdormant)]
    obtain ⟨hintake, hcounts⟩ := State.dequeued_finish (s := s) (k := .uplinkJob) (q := { s.intake with uplink := rest }) (e := e) rfl rfl
    refine ⟨_, uplinkRecordDequeue_next hs hq hcrane, ?_, ?_, ?_⟩
    · rw [hp]
      exact OnlyTouches.finish hs (State.dequeued_onlyTouches ..) (.inr (by simp [EventScratch.idle]))
    · rw [hp]
      exact hintake
    · rw [hp]
      exact hcounts
  · intro u
    -- The crane after its outcome, and the state in which its link is judged.
    obtain ⟨c, hc⟩ : ∃ c : Crane, c = { s.crane i with errors := ErrorsAfter (s.crane i).errors [o], goodCount := 0 } := ⟨_, rfl⟩
    have hheader := Crane.judgeHeader_of_unused ho
    have hgiven : (s.crane i).giveOutcome o = c := by rw [hc, Crane.giveOutcome_eq, if_neg (Crane.judgeHeader_unused hheader)]
    generalize hp : s.dequeued .uplinkJob { s.intake with uplink := rest } e = p
    have hpcrane : (p.recording i).crane i = s.crane i := by rw [← hp]; simp [State.recording, State.crane]
    generalize ha : (p.recording i).giveOutcome i o = a
    have hacranes : a.cranes = upd s.cranes i c := by
      rw [← ha, State.giveOutcome_cranes, hpcrane, hgiven, ← hp]
      simp [State.recording]
    have hagrid : a.grid = s.grid := by rw [← ha, ← hp]; simp [State.recording]
    have hatime : a.time = s.time := by rw [← ha, ← hp]; simp [State.recording]
    have haarb : a.arb = s.arb := by rw [← ha, ← hp]; simp [State.recording]
    have hacrane : a.crane i = c := by rw [State.crane, hacranes, upd_get_self]
    obtain ⟨hawork, hadeferred, hadue⟩ := (p.recording i).giveOutcome_scratch i o
    rw [ha] at hawork hadeferred hadue
    have halike : SameLinks u a := by
      refine ⟨hatime, hacranes.trans (by rw [hc]), ?_, fun q => by rw [State.square, hagrid]; rfl⟩
      rw [← ha, State.giveOutcome_notice, ← hp]
      simp [State.recording, u]
    have hv : (p.recording i).judgeUplink i e.bytes e.arrival = a.judgeOnRecord i o := by
      simp only [State.judgeUplink, hpcrane, hheader, ha]
    obtain ⟨t, hnext, htouches, hintake, hcounts, hcranes, hgrid, hnotice, harb⟩ := uplinkRecord_finish hs hq hcrane hlink hp hv
      (by rw [(State.judgeOnRecord_emits ..).work, hawork, ← hp]; simp [State.recording])
    have hsame := halike.judgeOnRecord i o
    have hgrid : t.grid = s.grid := by rw [hgrid, State.judgeOnRecord_grid, hagrid]
    have hjudged : t.crane i = c.judgedOnRecord s.time.lt o (a.weakSquare i) := by
      rw [State.crane_of_cranes hcranes, State.judgeOnRecord_crane, if_pos rfl, hacrane, hatime]
    have hrelinked := hjudged ▸ c.judgedOnRecord_relinked s.time.lt o (a.weakSquare i)
    have hfields := hrelinked.eq
    have hlinkc : (s.crane i).link = c.link := by rw [hc]
    have hsquare : (t.crane i).square = c.square := by rw [hfields]
    have hdue : (a.judgeOnRecord i o).scratch.craneDue = true ↔ (t.crane i).link ≠ (s.crane i).link := by
      rw [(a.judgeOnRecord_calls i o).due (by rw [hadeferred]; rfl), hadue, State.crane_of_cranes hcranes, hacrane, hlinkc]
      simp [State.recording]
    refine ⟨t, u.judgeOnRecord i o, hnext, htouches.of_grid (by decide) hgrid, hintake, hcounts, fun d hd => ?_, ?_, ?_, fun hkept => ?_,
      u.judgedOnRecord i o, hcranes.trans hsame.cranes, by rw [hnotice, hsame.notice], ?_⟩
    · rw [State.crane_of_cranes hcranes, State.judgeOnRecord_crane, if_neg hd, State.crane, hacranes, upd_get_other _ _ _ _ hd]
      rfl
    · rw [hc] at hfields
      exact hfields
    · rw [hlinkc, hjudged]
      refine linkAfterRecord_of (by rw [hfields]) (by rw [hfields]) (by rw [hfields]) ?_
      rw [State.weakSquare_eq, State.weakSquare_eq, hsquare, hacrane, State.weakAt_of_grid (hgrid.trans hagrid.symm)]
    · rw [hjudged, hlinkc] at hkept
      rw [hjudged, Crane.judgedOnRecord_of_link hkept, hc]
      exact ⟨rfl, rfl, rfl⟩
    · rw [State.judgeOnRecord_arb_of_deferred a i o (by rw [hadeferred]; rfl), haarb] at harb
      simpa only [hdue, ne_eq, ite_not] using harb

end Sys2Proof.Machine
end

section
/-! SUPPORT. Used uplink records (R78, R79, R82, R84, R85). -/

namespace Sys2Proof.Machine

/-! ## The values of a used record (R79, R82) -/

/-- A position at or beyond the last segment is in the last segment (R82). -/
theorem Crane.segmentOf_eq (c : Crane) (segmentCount position : Nat) : c.segmentOf segmentCount position =
    (min (position / c.params.segmentLength) (segmentCount - 1), decide (segmentCount ≤ position / c.params.segmentLength)) := by
  unfold Crane.segmentOf
  dsimp only
  split
  · next h => simp [h]; omega
  · next h => simp [h]; omega

/-- The sample of a used record, if it names a serving cell (R79). -/
def State.servingSample (s : State) (i : Fin 16) (segment : Nat) (h : UplinkHeader) (arrival : Nat) : State :=
  if h.serving = 0 then s else s.sample segment h.band h.serving h.level arrival (.uplink i.val)

/-- The crane's context takes the record's values, which call for its mirror record where its square or serving cell changes (R79). -/
def State.heardRecord (s : State) (i : Fin 16) (h : UplinkHeader) (arrival : Nat) : State :=
  let c := (s.crane i).used h arrival s.grid.params.segmentCount s.stamp
  (s.setCrane i c).setScratch
    { s.scratch with craneDue := s.scratch.craneDue || c.square != (s.crane i).square || c.serving != (s.crane i).serving }

theorem State.useRecord_eq (s : State) (i : Fin 16) (h : UplinkHeader) (arrival : Nat) (own : UplinkOutcome) :
    s.useRecord i h arrival own = (((s.heardRecord i h arrival).servingSample i
      (min (h.position / (s.crane i).params.segmentLength) (s.grid.params.segmentCount - 1)) h arrival).judgeOnRecord i own).steerCheck
        i arrival := by
  unfold State.useRecord
  dsimp only
  rw [Crane.segmentOf_eq]
  rfl

section
variable (s : State) (i : Fin 16) (segment : Nat) (h : UplinkHeader) (arrival : Nat)

theorem State.servingSample_calls : CallsForRecord i s (s.servingSample i segment h arrival) := by
  unfold State.servingSample
  split
  · exact .refl s
  · exact s.sample_calls ..

theorem State.servingSample_judged : CranesJudged s (s.servingSample i segment h arrival) := by
  unfold State.servingSample
  split
  · exact .refl s
  · exact s.sample_judged ..

theorem State.servingSample_emits : Emits s (s.servingSample i segment h arrival) := by
  unfold State.servingSample
  split
  · exact .refl s
  · exact s.sample_emits ..

theorem Alike.servingSample {g0 : Grid} {s t : State} (h : Alike g0 s t) (i : Fin 16) (segment : Nat) (x : UplinkHeader) (arrival : Nat) :
    Alike g0 (s.servingSample i segment x arrival) (t.servingSample i segment x arrival) := by
  unfold State.servingSample
  split
  exacts [h, h.sample ..]

theorem State.judgeOnRecord_servingSample_link {own : UplinkOutcome} (hlink : ((s.servingSample i segment h arrival).crane i).link ≠ (s.crane i).link) :
    (((s.servingSample i segment h arrival).judgeOnRecord i own).crane i).link = ((s.servingSample i segment h arrival).crane i).link := by
  unfold State.servingSample at hlink ⊢
  split at hlink
  · exact absurd rfl hlink
  · next hserving =>
    rw [if_neg hserving]
    exact State.judgeOnRecord_sample_link own hlink

end

/-! ## A crane judged on the changes of its square (R86) -/

section
variable {lt : Nat} {c d : Crane}

theorem Crane.Judged.relinked (h : c.Judged lt d) : c.Relinked d :=
  h.induction (.refl c) fun e before after he => he.trans (e.judgedOnSquare_relinked lt before after)

/-- The crane is LINKED or DEGRADED. -/
def LinkState.Up (l : LinkState) : Prop := l = .linked ∨ l = .degraded

theorem Crane.judgedOnSquare_link (c : Crane) (lt : Nat) (before after : SquareState) :
    (c.judgedOnSquare lt before after).link = c.link ∨ (c.link.Up ∧ (c.judgedOnSquare lt before after).link.Up) := by
  have hdegraded := (c.degradedAt_fields lt).1
  unfold Crane.judgedOnSquare
  split
  · next hlink =>
    split
    · exact .inr ⟨.inl hlink, .inr hdegraded⟩
    · exact .inl rfl
  · next hlink =>
    split
    · exact .inr ⟨.inr hlink, .inl rfl⟩
    · exact .inl rfl
  · exact .inl rfl
  · exact .inl rfl

theorem Crane.Judged.link (h : c.Judged lt d) : d.link = c.link ∨ (c.link.Up ∧ d.link.Up) := by
  refine h.induction (P := fun d => d.link = c.link ∨ (c.link.Up ∧ d.link.Up)) (.inl rfl) fun e before after he => ?_
  obtain hsame | ⟨hup, hup'⟩ := e.judgedOnSquare_link lt before after
  · rwa [hsame]
  · obtain he | ⟨hc, -⟩ := he
    · exact .inr ⟨he ▸ hup, hup'⟩
    · exact .inr ⟨hc, hup'⟩

/-- The judgement at the end of a record makes no difference between LINKED and DEGRADED before it. -/
theorem LinkAfterRecord.of_up {a b l : LinkState} {own : UplinkOutcome} {t : State} {i : Fin 16} (h : LinkAfterRecord a own t i l)
    (hab : a = b ∨ (b.Up ∧ a.Up)) : LinkAfterRecord b own t i l := by
  obtain rfl | ⟨rfl | rfl, rfl | rfl⟩ := hab
  all_goals exact h

end

/-! ## The record (R79) -/

/-- The context of a crane that has heard a used record (R78 to R80, R82). -/
def Crane.heardAs (c : Crane) (missing : Nat) (own : UplinkOutcome) (h : UplinkHeader) (arrival segmentCount : Nat) (now : Stamp) : Crane :=
  { c with
    errors := ErrorsAfter c.errors (List.replicate missing .missing ++ [own])
    goodCount := if own = .good then (if missing = 0 then min (c.goodCount + 1) 15 else 1) else 0
    heartbeat := some (arrival + 1000 * c.params.heartbeat)
    expected := some ((h.sequence + 1) % 65536)
    prevArrival := some arrival
    lastHeard := some now
    level := some h.level
    square := some (squareIndex (min (h.position / c.params.segmentLength) (segmentCount - 1)) h.band)
    positionRange := decide (segmentCount ≤ h.position / c.params.segmentLength)
    serving := h.serving }

theorem Crane.used_outcomes (c : Crane) (missing : Nat) (own : UplinkOutcome) (h : UplinkHeader) (arrival segmentCount : Nat) (now : Stamp) :
    (c.outcomes missing own).used h arrival segmentCount now = c.heardAs missing own h arrival segmentCount now := by
  unfold Crane.used
  rw [Crane.segmentOf_eq]
  rfl

section
variable {s p : State} {e : QueueEntry} {rest : List QueueEntry} {i : Fin 16}

/-- The state in which a used record's sample is handled, as R79 leaves it, without the queue, the window counters and the calls for own
writes. -/
def State.heardBy (s : State) (i : Fin 16) (missing : Nat) (own : UplinkOutcome) (h : UplinkHeader) (arrival : Nat) : State :=
  { s with
    cranes := upd s.cranes i ((s.crane i).heardAs missing own h arrival s.grid.params.segmentCount s.stamp)
    notice := { s.notice with flags := s.notice.flags ||| (if missing = 0 then 0 else OutcomeFlag .missing) ||| OutcomeFlag own }
    scratch := { EventScratch.idle with work := .uplinkJob, deferred := some i } }

/-- The state that the code has there. -/
def State.recorded (p : State) (i : Fin 16) (missing : Nat) (own : UplinkOutcome) (h : UplinkHeader) (arrival : Nat) : State :=
  ((p.recording i).giveOutcomes i missing own).heardRecord i h arrival

theorem State.judgeUplink_used {missing : Nat} {own : UplinkOutcome} {bytes : List Byte} {arrival : Nat}
    (hrecord : InSequence (p.crane i) bytes missing) (hearly : Early (p.crane i) arrival → own = .cadence)
    (hgood : ¬Early (p.crane i) arrival → own = .good) :
    (p.recording i).judgeUplink i bytes arrival =
      (((p.recorded i missing own (UplinkHeader.read bytes) arrival).servingSample i
        (min ((UplinkHeader.read bytes).position / (p.crane i).params.segmentLength) (p.grid.params.segmentCount - 1))
        (UplinkHeader.read bytes) arrival).judgeOnRecord i own).steerCheck i arrival := by
  have hcrane : (p.recording i).crane i = p.crane i := rfl
  have hown : (if (p.crane i).early arrival = true then UplinkOutcome.cadence else UplinkOutcome.good) = own := by
    by_cases h : Early (p.crane i) arrival
    · rw [if_pos ((Crane.early_iff _).2 h), hearly h]
    · rw [if_neg ((Crane.early_iff _).not.2 h), hgood h]
  have hgrid : ((p.recording i).giveOutcomes i missing own).grid = p.grid := by
    rw [State.giveOutcomes, State.giveOutcome_grid, State.giveMissing_grid]
    rfl
  have hparams : (((p.recording i).giveOutcomes i missing own).crane i).params = (p.crane i).params := by
    rw [State.crane, State.giveOutcomes_cranes, upd_get_self]
    rfl
  simp only [State.judgeUplink, hcrane, Crane.judgeHeader_of_inSequence hrecord, hown]
  rw [← State.giveOutcomes, State.useRecord_eq, hgrid, hparams]
  rfl

section
variable (hp : s.dequeued .uplinkJob { s.intake with uplink := rest } e = p) (missing : Nat) (own : UplinkOutcome)
include hp

theorem State.recording_giveOutcomes : ∃ a, (p.recording i).giveOutcomes i missing own = a ∧ a.time = s.time ∧
    a.cranes = upd s.cranes i ((s.crane i).outcomes missing own) ∧ a.arb = s.arb ∧ a.grid = s.grid ∧
    a.notice = { s.notice with flags := s.notice.flags ||| (if missing = 0 then 0 else OutcomeFlag .missing) ||| OutcomeFlag own } ∧
    a.scratch.work = .uplinkJob ∧ a.scratch.deferred = some i ∧ a.scratch.craneDue = false ∧ ∀ k, a.mirrorBase k = s.mirrorBase k := by
  obtain ⟨hwork, hdeferred, hdue⟩ := (p.recording i).giveOutcomes_scratch i missing own
  refine ⟨_, rfl, ?_, ?_, ?_, ?_, ?_, hwork.trans (by rw [← hp]; simp [State.recording]), hdeferred, hdue, fun k => ?_⟩
  · rw [State.giveOutcomes, State.giveOutcome_time, State.giveMissing_time, ← hp]
    simp [State.recording]
  · rw [State.giveOutcomes_cranes, ← hp]
    simp [State.recording, State.crane]
  · rw [State.giveOutcomes, State.giveOutcome_arb, State.giveMissing_arb, ← hp]
    simp [State.recording]
  · rw [State.giveOutcomes, State.giveOutcome_grid, State.giveMissing_grid, ← hp]
    simp [State.recording]
  · rw [State.giveOutcomes_notice, ← hp]
    simp [State.recording]
  · have hwindows : ((p.recording i).giveOutcomes i missing own).windows = p.windows := by
      rw [State.giveOutcomes, State.giveOutcome_windows, State.giveMissing_windows]
      rfl
    rw [State.mirrorBase_congr hwindows, ← hp, State.dequeued_mirrorBase]

theorem State.recorded_alike (h : UplinkHeader) (arrival : Nat) :
    Alike s.grid (s.heardBy i missing own h arrival) (p.recorded i missing own h arrival) := by
  obtain ⟨a, ha, htime, hcranes, harb, hgrid, hnotice, hwork, hdeferred, -, hmirrors⟩ := State.recording_giveOutcomes hp missing own (i := i)
  have hstamp : a.stamp = s.stamp := by rw [State.stamp, State.stamp, htime]
  have hcrane : a.crane i = (s.crane i).outcomes missing own := by rw [State.crane, hcranes, upd_get_self]
  unfold State.recorded State.heardRecord
  rw [ha, hgrid, hstamp, hcrane, Crane.used_outcomes]
  refine ⟨htime, ?_, hnotice, harb, hwork, hdeferred, hgrid, hmirrors⟩
  rw [State.setScratch_cranes, State.setCrane_cranes, hcranes, upd_upd]
  rfl

theorem State.recorded_due (h : UplinkHeader) (arrival : Nat) : (p.recorded i missing own h arrival).scratch.craneDue = true ↔
    ((p.recorded i missing own h arrival).crane i).square ≠ (s.crane i).square ∨
      ((p.recorded i missing own h arrival).crane i).serving ≠ (s.crane i).serving := by
  obtain ⟨a, ha, -, hcranes, -, -, -, -, -, hdue, -⟩ := State.recording_giveOutcomes hp missing own (i := i)
  have hcrane : a.crane i = (s.crane i).outcomes missing own := by rw [State.crane, hcranes, upd_get_self]
  unfold State.recorded State.heardRecord
  rw [ha]
  dsimp only
  generalize hc : (a.crane i).used h arrival a.grid.params.segmentCount a.stamp = c
  have hself (x : EventScratch) : ((a.setCrane i c).setScratch x).crane i = c := upd_get_self ..
  rw [hself, State.setScratch_scratch, hdue, hcrane]
  simp [Crane.outcomes]

end

end

/-- Settles O30: what the record brings about is the code's, on states that agree in everything that R79's steps read. -/
theorem usedUplinkRecord : Obligations.UsedUplinkRecord := by
  intro s e rest i missing own hs hq hcrane hlink hrecord hearly hgood h c segment heard b u
  generalize hp : s.dequeued .uplinkJob { s.intake with uplink := rest } e = p
  have hpcrane : p.crane i = s.crane i := by rw [← hp]; simp
  have hpgrid : p.grid = s.grid := by rw [← hp]; simp
  generalize hw : p.recorded i missing own h e.arrival = w
  have halike : Alike s.grid b w := hw ▸ State.recorded_alike hp missing own h e.arrival
  have hbsame : Alike s.grid b b := .refl b
  obtain ⟨w', hw'⟩ : ∃ w', w' = w.servingSample i (min segment (s.grid.params.segmentCount - 1)) h e.arrival := ⟨_, rfl⟩
  have hu : u = b.servingSample i (min segment (s.grid.params.segmentCount - 1)) h e.arrival := rfl
  have hsampled : Alike s.grid u w' := hu ▸ hw' ▸ halike.servingSample ..
  have hjudged := hsampled.judgeOnRecord i own
  have hsteered := hjudged.steerCheck i e.arrival
  have hv : (p.recording i).judgeUplink i e.bytes e.arrival = (w'.judgeOnRecord i own).steerCheck i e.arrival := by
    rw [State.judgeUplink_used (by rw [hpcrane]; exact hrecord) (by rw [hpcrane]; exact hearly) (by rw [hpcrane]; exact hgood), hpcrane, hpgrid,
      hw, hw']
  have hwork : ((w'.judgeOnRecord i own).steerCheck i e.arrival).scratch.work = .uplinkJob := by
    rw [(State.steerCheck_emits ..).work, (State.judgeOnRecord_emits ..).work, hw', (State.servingSample_emits ..).work, halike.work]
  obtain ⟨t, hnext, htouches, hintake, hcounts, hcranes, hgrid, hnotice, harb⟩ := uplinkRecord_finish hs hq hcrane hlink hp hv hwork
  have hwcrane : w.crane i = heard := by rw [halike.crane, State.crane, upd_get_self]
  have htgrid : t.grid = u.grid := by
    rw [hgrid, State.steerCheck_grid, State.judgeOnRecord_grid, hsampled.grid_eq (hbsame.servingSample ..)]
  obtain ⟨hold, hsteer⟩ := (w'.judgeOnRecord i own).steerCheck_onlyCrane i e.arrival
  have htcrane : t.crane i = { (w'.judgeOnRecord i own).crane i with steerHoldoff := hold } := by
    rw [State.crane_of_cranes hcranes, hsteer.self]
  have hwjudged : heard.Judged w.time.lt (w'.crane i) := by
    have := (w.servingSample_judged i (min segment (s.grid.params.segmentCount - 1)) h e.arrival).crane i
    rwa [hwcrane, ← hw'] at this
  have hjudgedCrane : (w'.judgeOnRecord i own).crane i = (w'.crane i).judgedOnRecord w'.time.lt own (w'.weakSquare i) := by
    rw [State.judgeOnRecord_crane, if_pos rfl]
  have hrelinked : heard.Relinked ((w'.judgeOnRecord i own).crane i) := by
    rw [hjudgedCrane]
    exact hwjudged.relinked.trans (Crane.judgedOnRecord_relinked ..)
  refine ⟨t, u.judgeOnRecord i own, hnext, htouches, hintake, hcounts, ?_, ?_, u.judgedOnRecord i own, hcranes.trans hsteered.cranes, htgrid,
    fun hserving => ?_, by rw [hnotice, hsteered.notice], ?_⟩
  · obtain ⟨_, _, _, _, heq⟩ := hrelinked
    rw [htcrane, heq]
  · obtain ⟨_, _, _, _, heq⟩ := (w'.crane i).judgedOnRecord_relinked w'.time.lt own (w'.weakSquare i)
    have hweak : t.weakSquare i = w'.weakSquare i := by
      rw [State.weakSquare_eq, State.weakSquare_eq, htcrane, hjudgedCrane, heq,
        State.weakAt_of_grid (hgrid.trans ((State.steerCheck_grid ..).trans (State.judgeOnRecord_grid ..)))]
    have hafter : LinkAfterRecord (w'.crane i).link own t i (t.crane i).link := by
      rw [htcrane, hjudgedCrane]
      refine linkAfterRecord_of ?_ ?_ ?_ hweak <;> rw [htcrane, hjudgedCrane, heq]
    exact hafter.of_up hwjudged.link
  · rw [htgrid, hu, State.servingSample, if_pos hserving]
  · have hcalls : CallsForRecord i w ((w'.judgeOnRecord i own).steerCheck i e.arrival) := by
      refine CallsForRecord.trans (CallsForRecord.trans (hw' ▸ w.servingSample_calls ..) (w'.judgeOnRecord_calls i own) fun hlink => ?_)
        (State.steerCheck_calls ..) fun _ => by rw [hsteer.self]
      rw [hw'] at hlink ⊢
      exact State.judgeOnRecord_servingSample_link _ _ _ _ _ hlink
    have hdue : ((w'.judgeOnRecord i own).steerCheck i e.arrival).scratch.craneDue = true ↔
        ¬((t.crane i).square = c.square ∧ (t.crane i).serving = c.serving ∧ (t.crane i).link = c.link) := by
      have hwdue := hw ▸ State.recorded_due (i := i) hp missing own h e.arrival
      obtain ⟨_, _, _, _, heq⟩ := hrelinked
      rw [hcalls.due halike.deferred, hwdue, ← State.crane_of_cranes hcranes, htcrane, heq, hwcrane, not_and_or, not_and_or, or_assoc]
    rw [State.steerCheck_arb, hjudged.arb] at harb
    simpa only [hdue, ite_not] using harb

end Sys2Proof.Machine
end

section
/-! SUPPORT. Records counted one by one, and the records in hand at RESTART (R37, R43; log entry 33). -/

namespace Sys2Proof.Machine

/-! ## Counting entries one by one (R37, R43) -/

/-- The entries of a list that count for window i. -/
def countedFor (i : Fin 32) (l : List QueueEntry) : Nat := l.countP fun e => e.counted && e.window == i

/-- Where each entry counts for its window, if it is marked and the window in use, a list counts for window i as often as it has such
entries. -/
theorem foldl_window {f : Window → Window} {g : State → QueueEntry → State} (hf : ∀ w, (f w).inUse = w.inUse)
    (hg : ∀ s e i, (g s e).window i = if i = e.window ∧ e.counted = true ∧ (s.window i).inUse = true then f (s.window i) else s.window i)
    (l : List QueueEntry) (s : State) (i : Fin 32) :
    (l.foldl g s).window i = if (s.window i).inUse = true then f^[countedFor i l] (s.window i) else s.window i := by
  induction l generalizing s with
  | nil => simp [countedFor]
  | cons e l ih =>
    have hstep := hg s e i
    by_cases hcount : i = e.window ∧ e.counted = true ∧ (s.window i).inUse = true
    · obtain ⟨hi, hmark, huse⟩ := hcount
      rw [if_pos ⟨hi, hmark, huse⟩] at hstep
      have hlength : countedFor i (e :: l) = countedFor i l + 1 := by simp [countedFor, hi, hmark]
      rw [List.foldl_cons, ih, hstep, hf, if_pos huse, if_pos huse, hlength, Function.iterate_succ_apply]
    · rw [if_neg hcount] at hstep
      rw [List.foldl_cons, ih, hstep]
      split
      · next huse =>
        have hnot : (e.counted && e.window == i) = false := by
          rw [Bool.and_eq_false_iff]
          by_contra hcon
          simp only [not_or, Bool.not_eq_false, beq_iff_eq] at hcon
          exact hcount ⟨hcon.2.symm, hcon.1, huse⟩
        simp [countedFor, hnot]
      · rfl

theorem iterate_taken (w : Window) (n : Nat) : (fun w : Window => { w with taken := satAdd w.taken 1 })^[n] w =
    if n = 0 then w else { w with taken := min (w.taken + n) 4294967295 } := by
  induction n with
  | zero => rfl
  | succ n ih =>
    rw [Function.iterate_succ_apply', ih]
    cases n with
    | zero => rfl
    | succ n => simp [satAdd, counterMax]; omega

theorem iterate_missed (w : Window) (n : Nat) : (fun w : Window => { w with missed := satAdd w.missed 1 })^[n] w =
    if n = 0 then w else { w with missed := min (w.missed + n) 4294967295 } := by
  induction n with
  | zero => rfl
  | succ n ih =>
    rw [Function.iterate_succ_apply', ih]
    cases n with
    | zero => rfl
    | succ n => simp [satAdd, counterMax]; omega

theorem State.discardEntry_window (s : State) (e : QueueEntry) (i : Fin 32) : (s.discardEntry e).window i =
    if i = e.window ∧ e.counted = true ∧ (s.window i).inUse = true then { s.window i with missed := satAdd (s.window i).missed 1 }
    else s.window i := by
  unfold State.discardEntry
  by_cases hc : e.counted = true ∧ (s.window e.window).inUse = true
  · by_cases hi : i = e.window <;> simp [hc, hi, State.setWindow_window]
  · have hi : ¬(i = e.window ∧ e.counted = true ∧ (s.window i).inUse = true) := by rintro ⟨rfl, h⟩; exact hc h
    simp [hc, hi]

/-- The entries that RESTART discards count as missed (R43). -/
theorem State.discardIntake_window (s : State) (i : Fin 32) : s.discardIntake.window i =
    if (s.window i).inUse = true ∧ MissedAtRestart s i ≠ 0 then
      { s.window i with missed := min ((s.window i).missed + MissedAtRestart s i) 4294967295 }
    else s.window i := by
  have hfold := foldl_window (f := fun w => { w with missed := satAdd w.missed 1 }) (g := State.discardEntry) (fun _ => rfl)
    State.discardEntry_window (s.intake.uplink ++ s.intake.reefer ++ s.intake.measure ++ s.intake.time) s i
  refine hfold.trans ?_
  rw [iterate_missed]
  have hn : countedFor i (s.intake.uplink ++ s.intake.reefer ++ s.intake.measure ++ s.intake.time) = MissedAtRestart s i := rfl
  rw [hn]
  split_ifs <;> simp_all

/-! ## The records in hand (log entry 33) -/

theorem handOf_leaving (draw unit : Nat) (q : List QueueEntry) :
    (handOf draw unit q).toList ++ leaving (handOf draw unit q) q = q := by
  cases q with
  | nil => rfl
  | cons e q =>
    unfold handOf
    dsimp only
    split <;> rfl

/-- A queue whose oldest entry is in hand, or none is. -/
def InHandOf (h : Option QueueEntry) (q : List QueueEntry) : Prop := h.toList ++ leaving h q = q

theorem InHandOf.filter {h : Option QueueEntry} {q : List QueueEntry} (hq : InHandOf h q) (p : QueueEntry → Bool) :
    InHandOf (h.filter p) q := by
  cases h with
  | none => exact hq
  | some e =>
    rw [Option.filter_some]
    split
    · exact hq
    · rfl

theorem State.inHand_spec (s : State) : InHandOf s.inHand.uplink s.intake.uplink ∧ InHandOf s.inHand.measure s.intake.measure ∧
    InHandOf s.inHand.reefer s.intake.reefer ∧ InHandOf s.inHand.time s.intake.time := by
  have hpick (work : Work) (unit : Nat) (q : List QueueEntry) :
      InHandOf (if s.arb.holds work then none else handOf s.restarts unit q) q := by
    split
    · rfl
    · exact handOf_leaving ..
  exact ⟨hpick .., hpick .., hpick .., (hpick ..).filter _⟩

theorem State.inHand_time {s : State} {e : QueueEntry} (h : s.inHand.time = some e) : (TimeMessage.read e.bytes).kind = 2 := by
  obtain ⟨-, hkind⟩ := Option.filter_eq_some_iff.1 h
  simpa using hkind

theorem countTaken_foldl_intake (l : List QueueEntry) (s : State) : (l.foldl State.countTaken s).intake = s.intake := by
  induction l generalizing s with
  | nil => rfl
  | cons e l ih => rw [List.foldl_cons, ih, State.countTaken_intake]

/-- The records in hand leave their queues and count as taken (R37). -/
theorem State.pickUp_pickedUp (s : State) : PickedUp s (s.pickUp s.inHand) s.inHand := by
  obtain ⟨huplink, hmeasure, hreefer, htime⟩ := s.inHand_spec
  generalize s.inHand = h at huplink hmeasure hreefer htime
  have hintake : (s.pickUp h).intake = {
      uplink := leaving h.uplink s.intake.uplink, reefer := leaving h.reefer s.intake.reefer,
      measure := leaving h.measure s.intake.measure, time := leaving h.time s.intake.time } := countTaken_foldl_intake ..
  refine ⟨by simp [OnlyTouches], ?_, ?_, ?_, ?_, fun i => ?_⟩
  · rw [hintake]
    exact huplink.symm
  · rw [hintake]
    exact hmeasure.symm
  · rw [hintake]
    exact hreefer.symm
  · rw [hintake]
    exact htime.symm
  · intro n
    have hfold := foldl_window (f := fun w => { w with taken := satAdd w.taken 1 }) (g := State.countTaken) (fun _ => rfl)
      State.countTaken_counts (h.uplink.toList ++ h.measure.toList ++ h.reefer.toList ++ h.time.toList)
      (s.setIntake ⟨leaving h.uplink s.intake.uplink, leaving h.reefer s.intake.reefer, leaving h.measure s.intake.measure,
        leaving h.time s.intake.time⟩) i
    refine hfold.trans ?_
    have hn : countedFor i (h.uplink.toList ++ h.measure.toList ++ h.reefer.toList ++ h.time.toList) = n := rfl
    have hw (x : Intake) : (s.setIntake x).window i = s.window i := rfl
    rw [iterate_taken, hn, hw]
    split_ifs <;> simp_all

end Sys2Proof.Machine
end

section
/-! SUPPORT. RESTART block by block, and the records handled after it (R168; log entries 18, 33 and 37). -/

namespace Sys2Proof.Machine

/-! ## The mirror records of the attached cranes (R91, log entry 18) -/

/-- The records of the cranes of a list are handed in its order, as the cranes of b stand. -/
theorem State.writeCraneMirrors_arb {b : State} (l : List (Fin 16)) {t : State} (hcranes : t.cranes = b.cranes)
    (hwindows : t.windows = b.windows) (hdeferred : t.scratch.deferred = none) :
    let v := l.foldl (fun t i => if (t.crane i).link = .dormant then t else t.writeCraneMirror i) t
    v.scratch = t.scratch ∧ v.arb = l.foldl (fun a i => if (b.crane i).link = .dormant then a
      else WithCraneMirror t.scratch.work a b i) t.arb := by
  induction l generalizing t with
  | nil => exact ⟨rfl, rfl⟩
  | cons i l ih =>
    intro v
    have hcrane : t.crane i = b.crane i := State.crane_of_cranes hcranes i
    by_cases hlink : (b.crane i).link = .dormant
    · have hv : v = l.foldl (fun t i => if (t.crane i).link = .dormant then t else t.writeCraneMirror i) t := by
        simp only [v, List.foldl_cons, hcrane, if_pos hlink]
      rw [hv, List.foldl_cons, if_pos hlink]
      exact ih hcranes hwindows hdeferred
    · have hv : v = l.foldl (fun t i => if (t.crane i).link = .dormant then t else t.writeCraneMirror i) (t.writeCraneMirror i) := by
        simp only [v, List.foldl_cons, hcrane, if_neg hlink]
      have hscratch : (t.writeCraneMirror i).scratch = t.scratch := by
        rw [State.writeCraneMirror, if_neg (by simp [hdeferred])]
        rfl
      have harb : (t.writeCraneMirror i).arb = WithCraneMirror t.scratch.work t.arb b i := by
        rw [State.writeCraneMirror_arb (by simp [hdeferred])]
        exact WithCraneMirror.congr (State.mirrorBase_congr hwindows _) hcrane
      obtain ⟨hscratch', harb'⟩ := ih (t := t.writeCraneMirror i) (by simp [hcranes]) (by simp [hwindows]) (by rw [hscratch, hdeferred])
      rw [hv, List.foldl_cons, if_neg hlink]
      refine ⟨hscratch'.trans hscratch, harb'.trans ?_⟩
      rw [hscratch, harb]

theorem State.restartMirrors_facts (b : State) (hdeferred : b.scratch.deferred = none) : b.restartMirrors.scratch = b.scratch ∧
    b.restartMirrors.arb = (List.finRange 16).foldl (fun a i => if (b.crane i).link = .dormant then a
      else WithCraneMirror b.scratch.work a b i) b.arb := by
  unfold State.restartMirrors
  exact State.writeCraneMirrors_arb _ rfl rfl hdeferred

/-! ## The blocks (R19, R43, R67, R91, R111, R131, R158) -/

section
variable (w : State)

/-- The blocks after RESTART, before the cranes' mirror records are written. -/
def State.restartedBlocks : State :=
  let s1 := ((w.setTime w.time.unpaired).callStatus).discardIntake
  let s2 := s1.setNotice { s1.notice with queue := [] }
  let s3 := s2.setGrid { s2.grid with clearing := false, clearPosition := 0, aging := s2.grid.aging.restarted }
  let s4 := s3.setReefer { s3.reefer with sweep := s3.reefer.sweep.restarted }
  let s5 := s4.setMirror { target := none, position := 0 }
  s5.setCranes (Vector.ofFn fun i => (s5.crane i).restarted)

theorem State.restartBlocks_eq : w.restartBlocks = w.restartedBlocks.restartMirrors := rfl

theorem State.restartedBlocks_window (i : Fin 32) : w.restartedBlocks.window i = w.discardIntake.window i := by
  have hwindows : w.restartedBlocks.windows = ((w.setTime w.time.unpaired).callStatus).discardIntake.windows := by
    simp [State.restartedBlocks]
  have hwindow : ((w.setTime w.time.unpaired).callStatus).window i = w.window i := rfl
  have hmissed : MissedAtRestart ((w.setTime w.time.unpaired).callStatus) i = MissedAtRestart w i := rfl
  rw [State.window, hwindows, ← State.window, State.discardIntake_window, State.discardIntake_window, hwindow, hmissed]

theorem Pass.restarted_eq (p : Pass) : p.restarted = { p with position := if p.inProgress = true then 0 else p.position } := by
  obtain ⟨inProgress, position, startHeld, startTakenAt⟩ := p
  cases inProgress <;> rfl

theorem State.restartedBlocks_scratch : w.restartedBlocks.scratch = { w.scratch with statusDue := true } := by
  unfold State.restartedBlocks
  dsimp only
  rw [State.setCranes_scratch, State.setMirror_scratch, State.setReefer_scratch, State.setGrid_scratch, State.setNotice_scratch,
    State.discardIntake_scratch]
  rfl

theorem State.restartedBlocks_arb : w.restartedBlocks.arb = w.arb := by simp [State.restartedBlocks]

theorem State.restartedBlocks_crane (i : Fin 16) : w.restartedBlocks.crane i = (w.crane i).restarted := by
  have hcranes : w.restartedBlocks.cranes = Vector.ofFn fun i => (w.crane i).restarted := by simp [State.restartedBlocks, State.crane]
  rw [State.crane, hcranes, ofFn_get]

/-- The abort of a long operation in progress (R168). -/
theorem State.abortLong_facts (hwork : w.scratch.work = .command) :
    w.abortLong.cmd = (if w.cmd.state = .long then w.cmd.closed .aborted else w.cmd) ∧
    w.abortLong.arb = (if w.cmd.state = .long then w.arb.hand .command ⟨w.pageAddr 0x80, (w.cmd.closed .aborted).resultRecord⟩ else w.arb) ∧
    w.abortLong.scratch.work = .command ∧ w.abortLong.scratch.deferred = w.scratch.deferred := by
  unfold State.abortLong
  split
  · simp [State.closeLong, State.writeResult, State.hand, hwork, CommandUnit.closed, State.pageAddr]
  · simp [hwork]

end

/-- An attached crane after RESTART, and a DORMANT one (R67, R91). -/
theorem Crane.restarted_eq (c : Crane) : (c.link ≠ .dormant → c.restarted = c.afterRestart) ∧
    (c.link = .dormant → c.slots = none → c.restarted = c) := by
  refine ⟨fun hlink => ?_, fun hlink hslots => ?_⟩
  · unfold Crane.restarted Crane.afterRestart
    cases c.slots <;> simp [hlink]
  · simp [Crane.restarted, hlink, hslots]

theorem Crane.restarted_dormant_iff (c : Crane) : c.restarted.link = .dormant ↔ c.link = .dormant := by
  by_cases hlink : c.link = .dormant
  · cases h : c.slots <;> simp [Crane.restarted, hlink, h]
  · simp [(c.restarted_eq).1 hlink, Crane.afterRestart, hlink]

/-! ## The state right after RESTART (R168) -/

/-- The state in which RESTART's effect ends, with the result record still to come. -/
def State.restartEffect (s : State) : State := (s.pickUp s.inHand).taking.abortLong.restartBlocks

/-- The Command Unit without a long operation, as RESTART finds or leaves it (R168). -/
def State.unoperated (s : State) : CommandUnit := if s.cmd.state = .long then s.cmd.closed .aborted else s.cmd

/-- The own writes with the ABORTED result record, if there is one. -/
def State.abortedArb (s : State) : Arbiter :=
  if s.cmd.state = .long then s.arb.hand .command ⟨s.pageAddr 0x80, s.unoperated.resultRecord⟩ else s.arb

theorem State.pickUp_taking_cranes (s : State) (h : InHand) : (s.pickUp h).taking.cranes = s.cranes := s.pickUp_cranes h

theorem State.restarted_eq (s : State) :
    s.restarted s.inHand = { (s.restartEffect.complete .done).finish with restarts := s.restarts + 1 } := by
  unfold State.restarted State.carryOut State.doRestart State.restartEffect State.taking
  dsimp only

theorem State.restartEffect_cmd (s : State) : s.restartEffect.cmd = { s.unoperated with offerMark := false, lastTaken := s.cmd.tag } := by
  obtain ⟨hcmd, -⟩ := State.abortLong_facts (s.pickUp s.inHand).taking (by rw [State.taking_scratch])
  rw [State.restartEffect, State.restartBlocks_cmd, hcmd, State.taking_cmd, State.pickUp_cmd, State.unoperated]
  split <;> rfl

/-- The own writes of the effect: the ABORTED result record, and the attached cranes' mirror records. -/
theorem State.restartEffect_arb (s : State) : s.restartEffect.scratch.statusDue = true ∧ s.restartEffect.scratch.work = .command ∧
    s.restartEffect.arb = (List.finRange 16).foldl (fun a i => if (s.crane i).link = .dormant then a
      else WithCraneMirror .command a s.restartEffect i) s.abortedArb := by
  obtain ⟨-, harb, hwork, hdeferred⟩ := State.abortLong_facts (s.pickUp s.inHand).taking (by rw [State.taking_scratch])
  have hcranes : (s.pickUp s.inHand).taking.abortLong.cranes = s.cranes := by
    rw [State.abortLong_cranes, State.pickUp_taking_cranes]
  have hdeferred : (s.pickUp s.inHand).taking.abortLong.scratch.deferred = none := hdeferred.trans (by rw [State.taking_scratch]; rfl)
  have harb : (s.pickUp s.inHand).taking.abortLong.arb = s.abortedArb := by
    have hpage (n : Nat) : (s.pickUp s.inHand).taking.pageAddr n = s.pageAddr n := by
      rw [State.pageAddr, State.pageAddr, ← s.pickUp_cpb s.inHand]
      rfl
    rw [harb, State.taking_cmd, State.taking_arb, State.pickUp_cmd, State.pickUp_arb, hpage, State.abortedArb, State.unoperated]
    dsimp only
    split
    · rfl
    · rfl
  rw [State.restartEffect, State.restartBlocks_eq]
  generalize (s.pickUp s.inHand).taking.abortLong = w at *
  obtain ⟨hscratch, hmirrors⟩ := w.restartedBlocks.restartMirrors_facts (by rw [State.restartedBlocks_scratch]; exact hdeferred)
  have hlink (i : Fin 16) : (w.restartedBlocks.crane i).link = .dormant ↔ (s.crane i).link = .dormant := by
    rw [State.restartedBlocks_crane, State.crane_of_cranes hcranes]
    exact Crane.restarted_dormant_iff _
  have hmirror (a : Arbiter) (i : Fin 16) : WithCraneMirror .command a w.restartedBlocks i =
      WithCraneMirror .command a w.restartedBlocks.restartMirrors i :=
    WithCraneMirror.congr (State.mirrorBase_congr (by simp) _).symm (State.crane_of_cranes (by simp) i).symm
  have hwork' : w.restartedBlocks.scratch.work = .command := by rw [State.restartedBlocks_scratch]; exact hwork
  refine ⟨by rw [hscratch, State.restartedBlocks_scratch], by rw [hscratch, hwork'], hmirrors.trans ?_⟩
  simp only [hwork', hlink, hmirror, State.restartedBlocks_arb, harb]

end Sys2Proof.Machine
end

section
/-! SUPPORT. RESTART: the fields of the state right after it, and the records in hand (R168; log entry 33). -/

namespace Sys2Proof.Machine

/-! ## The state right after RESTART, field by field -/

theorem restart_next {s : State} (ho : Offered .restart s) :
    exec .restart s = .next ((s.restarted s.inHand).handleInHand s.inHand) := by
  obtain ⟨⟨hreset, -, hheld⟩, hmark, htag, hcode, hstate⟩ := ho
  have htaken : s.restartTaken = true := by
    simp [State.restartTaken, CommandUnit.takes, CommandUnit.offers, hreset, hheld, hmark, htag, hcode, hstate]
  simp only [exec, execRestart, htaken, if_true]

theorem State.restarted_settled {s : State} {h : InHand} (hreset : s.inReset = false) : Settled (s.restarted h) := by
  have hu : (s.restarted h).inReset = false := by simpa [State.restarted, State.carryOut] using hreset
  refine ⟨?_, by simp [State.restarted]⟩
  rw [hu]
  simp [State.restarted, NoticeUnit.irqCondition]

theorem State.restarted_window (s : State) (i : Fin 32) : (s.restarted s.inHand).window i =
    if (s.window i).inUse = true ∧ MissedAtRestart (s.pickUp s.inHand) i ≠ 0 then
      { (s.pickUp s.inHand).window i with
        missed := min ((s.window i).missed + MissedAtRestart (s.pickUp s.inHand) i) 4294967295 }
    else (s.pickUp s.inHand).window i := by
  obtain ⟨-, -, -, -, -, hcounts⟩ := s.pickUp_pickedUp
  have hkept : ((s.pickUp s.inHand).window i).inUse = (s.window i).inUse ∧ ((s.pickUp s.inHand).window i).missed = (s.window i).missed := by
    rw [hcounts i]
    split <;> exact ⟨rfl, rfl⟩
  obtain ⟨huse, hmissed⟩ := hkept
  have hwindows : (s.restarted s.inHand).windows = s.restartEffect.windows := by
    rw [State.restarted_eq]
    simp
  have heffect : s.restartEffect.windows = (s.pickUp s.inHand).taking.abortLong.restartedBlocks.windows := by
    rw [State.restartEffect, State.restartBlocks_eq, State.restartMirrors_windows]
  have hwindow : (s.pickUp s.inHand).taking.abortLong.window i = (s.pickUp s.inHand).window i := by
    rw [State.window, State.abortLong_windows]
    rfl
  have hintake : (s.pickUp s.inHand).taking.abortLong.intake = (s.pickUp s.inHand).intake := by
    rw [State.abortLong_intake]
    rfl
  have hmiss : MissedAtRestart (s.pickUp s.inHand).taking.abortLong i = MissedAtRestart (s.pickUp s.inHand) i := by
    rw [MissedAtRestart, hintake, MissedAtRestart]
  rw [State.window, hwindows, heffect, ← State.window, State.restartedBlocks_window, State.discardIntake_window, hwindow, hmiss, huse,
    hmissed]

theorem State.restarted_notice {s : State} (hs : Free .command s) (h : InHand) :
    (s.restarted h).notice = { s.notice with queue := [] } := by
  have hfollowed : ({ s.notice with queue := [] } : NoticeUnit).followed = { s.notice with queue := [] } := by
    have hirq : s.notice.irqCondition = s.notice.irq := congrArg NoticeUnit.irq hs.notice_followed
    exact congrArg (fun b => { s.notice with queue := [], irq := b }) hirq
  have hnotice : (s.restarted h).notice = ({ s.notice with queue := [] } : NoticeUnit).followed := by
    simp [State.restarted, State.carryOut, State.doRestart, State.restartBlocks]
    rfl
  exact hnotice.trans hfollowed

theorem State.restarted_cmd (s : State) : (s.restarted s.inHand).cmd = s.unoperated.reported .done := by
  have htag : s.unoperated.tag = s.cmd.tag := by
    rw [State.unoperated]
    split <;> rfl
  rw [State.restarted_eq]
  simp [State.complete_of_short (r := .done), State.restartEffect_cmd, CommandUnit.reported, htag]

/-- The number of RESTARTs, which draws the free choices of log entry 33, stands in no record. -/
theorem State.statusBlock_restarts (v : State) (n : Nat) : State.statusBlock { v with restarts := n } = v.statusBlock := rfl

/-- The own writes of RESTART: the ABORTED result record, the attached cranes' mirror records, the status block and the result record
(R91, R168, log entry 18). -/
theorem State.restarted_arb (s : State) : (s.restarted s.inHand).arb =
    (((List.finRange 16).foldl (fun a i => if (s.crane i).link = .dormant then a
      else WithCraneMirror .command a (s.restarted s.inHand) i) s.abortedArb).hand .command
        ⟨s.pageAddr 0x200, (s.restarted s.inHand).statusBlock⟩).hand .command
      ⟨s.pageAddr 0x80, (s.restarted s.inHand).cmd.resultRecord⟩ := by
  obtain ⟨hdue, hwork, harb⟩ := s.restartEffect_arb
  have hpage (n : Nat) : s.restartEffect.pageAddr n = s.pageAddr n := by
    have hcpb : s.restartEffect.cpb = s.cpb := by simp [State.restartEffect, State.taking]
    rw [State.pageAddr, State.pageAddr, hcpb]
  have hcranes : s.restartEffect.cranes = (s.restarted s.inHand).cranes := by
    rw [State.restarted_eq]
    simp
  have hwindows : s.restartEffect.windows = (s.restarted s.inHand).windows := by
    rw [State.restarted_eq]
    simp
  have hmirror (a : Arbiter) (i : Fin 16) : WithCraneMirror .command a s.restartEffect i =
      WithCraneMirror .command a (s.restarted s.inHand) i :=
    WithCraneMirror.congr (State.mirrorBase_congr hwindows _) (State.crane_of_cranes hcranes i)
  have hblock : s.restartEffect.statusBlock = (s.restarted s.inHand).statusBlock := by
    have hcounted := (congrArg State.statusBlock s.restarted_eq).trans (State.statusBlock_restarts _ _)
    rw [hcounted, State.finish_statusBlock, State.complete_statusBlock (by decide)]
  have hcmd : (s.restarted s.inHand).cmd = (s.restartEffect.complete .done).cmd := by
    rw [State.restarted_eq]
    rfl
  calc (s.restarted s.inHand).arb = (s.restartEffect.complete .done).finish.arb := by rw [State.restarted_eq]
    _ = _ := by
      rw [State.complete_finish_arb (by decide), hdue, if_pos rfl, hwork, harb, hpage, hpage, hblock, hcmd]
      simp only [hmirror]

end Sys2Proof.Machine
end

section
/-! SUPPORT. The records in hand at RESTART, handled after it (R19, R111, R131; log entry 33). -/

namespace Sys2Proof.Machine

/-- An event that does nothing leaves a settled state as it is. -/
theorem Settled.beginEvent_finish {u : State} (hu : Settled u) (hreset : u.inReset = false) (k : Work) : (u.beginEvent k).finish = u := by
  obtain ⟨hirq, hscratch⟩ := hu
  have hnotice : u.notice.followed = u.notice := by
    rw [hreset, Bool.not_false, Bool.true_and] at hirq
    rw [NoticeUnit.followed, ← hirq]
  obtain ⟨inReset, cpb, cpid, time, windows, intake, arb, port, cranes, grid, reefer, notice, cmd, mirror, scratch, restarts, pending⟩ := u
  subst hscratch
  exact congrArg (fun n => (⟨inReset, cpb, cpid, time, windows, intake, arb, port, cranes, grid, reefer, n, cmd, mirror, .idle, restarts,
    pending⟩ : State)) hnotice

/-- A dequeued record without its counted mark counts for no window (R37). -/
theorem State.countTaken_of_uncounted {s : State} {e : QueueEntry} (h : e.counted = false) : s.countTaken e = s := by
  simp [State.countTaken, h]

/-- A VALUE in hand finds no capture after RESTART, so it fails with WRONG_MARK (R6, R19). -/
theorem timeInHand_fails {u : State} {e : QueueEntry} (hcapture : u.time.capture = none)
    (hkind : (TimeMessage.read e.bytes).kind = 2) (hrun : u.time.run = .running) :
    u.handleLater .timeJob (some e) State.timeRecord =
      ((u.beginEvent .timeJob).violation .wrongMark (TimeMessage.read e.bytes).mark none).finish := by
  have hfails : u.time.judgeValue (TimeMessage.read e.bytes) e.arrival = some .wrongMark := by simp [TimeBase.judgeValue, hcapture]
  have htime : (u.beginEvent .timeJob).setTime (u.time.afterViolation .wrongMark) = u.beginEvent .timeJob := rfl
  rw [State.handleLater, State.timeRecord_value (s := u.beginEvent .timeJob) hrun hkind, State.valueMessage, State.beginEvent_time, hfails,
    hcapture]
  exact congrArg (fun v => (State.violation v .wrongMark _ none).finish) htime

theorem violation_finish_onlyTouches {u : State} (hu : Settled u) (k : Work) (v : Violation) (mark : Nat) (captured : Option Capture) :
    OnlyTouches [.notice, .arb] u ((u.beginEvent k).violation v mark captured).finish := by
  obtain ⟨-, hscratch⟩ := hu
  simp [OnlyTouches, State.violation, hscratch]

theorem violation_finish_notice (u : State) (k : Work) (mark : Nat) :
    ((u.beginEvent k).violation .wrongMark mark none).finish.notice =
      (({ u.notice with flags := u.notice.flags ||| 0x080#12 } : NoticeUnit).take
        (noticeOf .timeViolation 0 u.stamp 2 mark 65536)).followed := by
  rw [State.finish_notice_followed, State.violation_notice]
  rfl

/-- A measurement record in hand is handled as a dequeue of it would handle it (R111). -/
theorem measureInHand_eq {u : State} {e : QueueEntry} (hu : Free .measureJob u) (hempty : u.intake.measure = [])
    (hmark : e.counted = false) : exec .measurementRecordDequeue { u with intake := { u.intake with measure := [e] } } =
      .next (u.handleLater .measureJob (some e) State.measureRecord) := by
  have hrest : { u.intake with measure := [] } = u.intake := by rw [← hempty]
  have hdequeued : State.dequeued { u with intake := { u.intake with measure := [e] } } .measureJob
      { u.intake with measure := [] } e = u.beginEvent .measureJob := by
    rw [State.dequeued, State.countTaken_of_uncounted hmark, hrest]
    rfl
  have hnext := measurementRecordDequeue_next (s := { u with intake := { u.intake with measure := [e] } }) (rest := []) hu rfl
  rw [hnext, hdequeued]
  rfl

/-- A reefer report in hand is handled as a dequeue of it would handle it (R131). -/
theorem reeferInHand_eq {u : State} {e : QueueEntry} (hu : Free .reeferJob u) (hempty : u.intake.reefer = [])
    (hmark : e.counted = false) : exec .reeferReportDequeue { u with intake := { u.intake with reefer := [e] } } =
      .next (u.handleLater .reeferJob (some e) State.reeferRecord) := by
  have hrest : { u.intake with reefer := [] } = u.intake := by rw [← hempty]
  have hdequeued : State.dequeued { u with intake := { u.intake with reefer := [e] } } .reeferJob
      { u.intake with reefer := [] } e = u.beginEvent .reeferJob := by
    rw [State.dequeued, State.countTaken_of_uncounted hmark, hrest]
    rfl
  have hnext := reeferReportDequeue_next (s := { u with intake := { u.intake with reefer := [e] } }) (rest := []) hu rfl
  rw [hnext, hdequeued]
  rfl

/-- Settles O56: RESTART block by block, and the records in hand after it. -/
theorem restartResult : Obligations.RestartResult := by
  refine ⟨fun s ho => ?_, fun u k f => rfl, fun u e hreset hu hcapture hkind => ?_, fun u e => measureInHand_eq, fun u e => reeferInHand_eq⟩
  · intro h p c aborted
    have hs := ho.1
    have hgrid : (s.restarted h).grid = { s.grid with
        clearing := false, clearPosition := 0, aging := s.grid.aging.restarted } := by
      simp [State.restarted, State.carryOut, State.doRestart, State.restartBlocks]
    have hreefer : (s.restarted h).reefer = { s.reefer with sweep := s.reefer.sweep.restarted } := by
      simp [State.restarted, State.carryOut, State.doRestart, State.restartBlocks]
    rw [Pass.restarted_eq] at hgrid hreefer
    refine ⟨s.pickUp_pickedUp, fun e => State.inHand_time, s.restarted h, restart_next ho, ?_, ?_, ?_, ?_, ?_, rfl,
      State.restarted_settled hs.1, ?_, State.restarted_intake .., s.restarted_window, fun i => ?_, hgrid, hreefer,
      State.restarted_notice hs h, ?_, s.restarted_cmd, s.restarted_arb⟩
    case refine_1 | refine_2 | refine_3 | refine_4 | refine_5 | refine_6 | refine_8 =>
      simp [State.restarted, State.carryOut, State.doRestart, State.restartBlocks, TimeBase.unpaired]
    case refine_7 =>
      rw [State.restarted_crane]
      exact (s.crane i).restarted_eq
  · have hfinish : (u.beginEvent .timeJob).finish = u := hu.beginEvent_finish hreset .timeJob
    refine ⟨_, rfl, fun hstopped => ?_, fun hrunning => ?_⟩
    · rw [State.handleLater, State.timeRecord_discards (s := u.beginEvent .timeJob) (.inl hstopped), hfinish]
    · rw [timeInHand_fails hcapture hkind hrunning]
      exact ⟨violation_finish_onlyTouches hu .timeJob .., StatusIfFlagged.of_violation rfl rfl rfl rfl rfl,
        violation_finish_notice u .timeJob _⟩

end Sys2Proof.Machine
end
